-- ==== Sys2Proof/Word.lean ====
section
/-! DEFINITION. The words of the BX-440: the eight data bits of a character, and the small fixed collections
(one value per channel, per bay, per screen) the blocks keep. -/

namespace Sys2Proof

/-- The eight data bits of one character on the telemetry line (R174). -/
abbrev Byte := BitVec 8

/-- The 16-bit check register of R177. -/
abbrev Word16 := BitVec 16

/-- Bits of a flag character, bit 0 first (R186). -/
abbrev Bits := List Bool

/-- The number whose bits are given, least significant first. -/
def bitsToNat : Bits → Nat
  | [] => 0
  | b :: rest => (if b then 1 else 0) + 2 * bitsToNat rest

/-- How many bits of a list are set. -/
def countOnes : Bits → Nat
  | [] => 0
  | b :: rest => (if b then 1 else 0) + countOnes rest

/-- Addition that stops at the top of its range and stays there (00_scope.md 3.2). -/
def satAdd (top a b : Nat) : Nat := min top (a + b)

end Sys2Proof
end

