-- ==== Sys2Proof/Syntax.lean ====
section
/-! DEFINITION. The names of the BX-440's parts and the commands it takes: one constructor of `Instr` per row of
spec/opcode_table.json. -/

namespace Sys2Proof

/-- The four level channels (chapter 1), in index order 0 to 3. -/
inductive Channel where
  | ww | inlet | sa | sb
deriving DecidableEq, Repr

/-- The four pump bays, numbered 1 to 4 (00_scope.md 3.6). -/
inductive Bay where
  | b1 | b2 | b3 | b4
deriving DecidableEq, Repr

/-- The two bar screens (00_scope.md 3.6). -/
inductive Screen where
  | a | b
deriving DecidableEq, Repr

/-- The twenty-five condition sources of R160, in index order 0 to 24. -/
inductive Source where
  | wwHigh | wwLow | wwFloatHigh | inHigh
  | chWwInvalid | chInInvalid | chSaInvalid | chSbInvalid
  | pump1Lockout | pump2Lockout | pump3Lockout | pump4Lockout
  | pumpSeal | screenAJam | screenBJam | screenBlinded
  | starterFault | mainsFail | supplyNone | overflowActive
  | ratingExceeded | episodeTableFull | linkLost | restart | settingsDefaulted
deriving DecidableEq, Repr

/-- The contact inputs of R23 that are one contact each; a bay selector is two (R24). -/
inductive Switch where
  | hf | lf | sp
  | runFeedback (b : Bay) | overload (b : Bay) | sealLeak (b : Bay)
  | screenSelector (x : Screen) | topLimit (x : Screen) | homeLimit (x : Screen) | rakeOverload (x : Screen)
  | starterReady | starterFault | mainsPresent | generatorRunning | accept | remotePermit
deriving DecidableEq, Repr

/-- The inputs the Contact Input Unit keeps a record for (R23): each has its own filter timer. -/
inductive Input where
  | switch (w : Switch)
  | selector (b : Bay)
deriving DecidableEq, Repr

/-- The contacts as wired: a bay selector's H and A contacts stand apart (R24). -/
inductive RawContact where
  | switch (w : Switch)
  | selectorH (b : Bay)
  | selectorA (b : Bay)
deriving DecidableEq, Repr

/-- One received character (R174): eight data bits, the mark bit, the parity bit and the level read at the stop
bit (true for mark). The start bit carries nothing. -/
structure Character where
  data : Byte
  mark : Bool
  parity : Bool
  stop : Bool
deriving DecidableEq, Repr

/-- The commands of the BX-440, one constructor per row of spec/opcode_table.json. Numbers are as the wire carries
them: an answer field, an index, a value (10.9). -/
inductive Instr where
  | coldStart
  | warmSupplyRestart
  | supplyLoss
  | sampleArrival (ch : Channel) (current : Nat)
  | clearChannel (ans index : Nat)
  | readChannels (start count : Nat)
  | rawContactChange (c : RawContact) (closed : Bool)
  | filterTimerExpiry (i : Input)
  | tipArrival
  | bounceTimerExpiry
  | binClose
  | dryTimerExpiry
  | clearRain
  | readRain
  | rosterSecondTimerExpiry
  | rampTimerExpiry
  | gapTimerExpiry
  | feedbackLossTimerExpiry (b : Bay)
  | stopConfirmTimerExpiry (b : Bay)
  | minRunTimerExpiry (b : Bay)
  | minRestTimerExpiry (b : Bay)
  | restartHoldExpiry
  | changeoverTimerExpiry (b : Bay)
  | restoreTimerExpiry
  | pumpReset (ans bay : Nat)
  | pumpForce (ans bay mode : Nat)
  | pumpService (ans bay value : Nat)
  | readPumps (start count : Nat)
  | intervalTimerExpiry (x : Screen)
  | strokeTimerExpiry (x : Screen)
  | clearTimerExpiry (x : Screen)
  | screenInhibit (ans screen value : Nat)
  | screenRake (screen : Nat)
  | screenReset (ans screen : Nat)
  | readScreens (start count : Nat)
  | integrationTimerExpiry
  | qualifyTimerExpiry
  | mergeTimerExpiry
  | retireEpisode (slot serial : Nat)
  | retireAccumulator (count : Nat)
  | readEpisodes (start count : Nat)
  | readAccumulator
  | ackCondition (index change : Nat)
  | ackAll
  | shelve (ans index minutes : Nat)
  | unshelve (ans index : Nat)
  | shelveTimerExpiry (src : Source)
  | readConditions (start count : Nat)
  | receiveCharacter (c : Character)
  | lineBreak
  | gapLimitExpiry
  | turnaroundTimerExpiry
  | replySent
  | linkTimerExpiry
  | readStatus
  | openAuthority
  | answer (value : Nat)
  | releaseAuthority
  | answerWindowExpiry
  | supervisionTimerExpiry
  | restart (ans : Nat)
  | readSettings (table start count : Nat)
  | writeSetting (ans table item : Nat) (value : Int)
  | commitSettings (ans : Nat)
  | commitCompletion
  | setClock (broadcast : Bool) (time : Nat)
  | clockSecondExpiry
deriving DecidableEq, Repr

/-! ## The parts by number and by name -/

/-- The four channels in index order (R1). -/
def Channel.all : List Channel := [.ww, .inlet, .sa, .sb]

/-- A channel's index, 0 to 3 (chapter 1, head table). -/
def Channel.index : Channel → Nat
  | .ww => 0
  | .inlet => 1
  | .sa => 2
  | .sb => 3

/-- The channel of an index, none above 3 (R19). -/
def Channel.ofIndex : Nat → Option Channel
  | 0 => some .ww
  | 1 => some .inlet
  | 2 => some .sa
  | 3 => some .sb
  | _ => none

/-- The four bays in bay order. -/
def Bay.all : List Bay := [.b1, .b2, .b3, .b4]

/-- A bay's number, 1 to 4. -/
def Bay.number : Bay → Nat
  | .b1 => 1
  | .b2 => 2
  | .b3 => 3
  | .b4 => 4

/-- The bay of a number, none outside 1 to 4 (R62). -/
def Bay.ofNumber : Nat → Option Bay
  | 1 => some .b1
  | 2 => some .b2
  | 3 => some .b3
  | 4 => some .b4
  | _ => none

/-- The two screens in the order A, B (R122). -/
def Screen.all : List Screen := [.a, .b]

/-- A screen's number on the line, 0 for A and 1 for B (R119). -/
def Screen.index : Screen → Nat
  | .a => 0
  | .b => 1

/-- The screen of a number, none above 1 (R119). -/
def Screen.ofIndex : Nat → Option Screen
  | 0 => some .a
  | 1 => some .b
  | _ => none

/-- The twenty-five sources in index order (R160). -/
def Source.all : List Source :=
  [.wwHigh, .wwLow, .wwFloatHigh, .inHigh,
   .chWwInvalid, .chInInvalid, .chSaInvalid, .chSbInvalid,
   .pump1Lockout, .pump2Lockout, .pump3Lockout, .pump4Lockout,
   .pumpSeal, .screenAJam, .screenBJam, .screenBlinded,
   .starterFault, .mainsFail, .supplyNone, .overflowActive,
   .ratingExceeded, .episodeTableFull, .linkLost, .restart, .settingsDefaulted]

/-- A source's index (R160). -/
def Source.index : Source → Fin 25
  | .wwHigh => 0
  | .wwLow => 1
  | .wwFloatHigh => 2
  | .inHigh => 3
  | .chWwInvalid => 4
  | .chInInvalid => 5
  | .chSaInvalid => 6
  | .chSbInvalid => 7
  | .pump1Lockout => 8
  | .pump2Lockout => 9
  | .pump3Lockout => 10
  | .pump4Lockout => 11
  | .pumpSeal => 12
  | .screenAJam => 13
  | .screenBJam => 14
  | .screenBlinded => 15
  | .starterFault => 16
  | .mainsFail => 17
  | .supplyNone => 18
  | .overflowActive => 19
  | .ratingExceeded => 20
  | .episodeTableFull => 21
  | .linkLost => 22
  | .restart => 23
  | .settingsDefaulted => 24

/-- The source of an index, none above 24 (R164). -/
def Source.ofIndex (n : Nat) : Option Source := Source.all[n]?

end Sys2Proof
end

