-- ==== Sys2Proof/Decode.lean ====
section
/-! DEFINITION. The command that a word of spec/opcode_table.json spells. No row of the table gives any bits. -/

namespace Sys2Proof

/-- The command a word spells by the table's bits: none, since no row has any (its `fields` are empty). -/
def decodeTableWord (_nbits _w : Nat) : Option Instr := none

end Sys2Proof
end

