-- ==== Sys2Proof/Config.lean ====
section
/-! DEFINITION. What an implementation of the BX-440 fixes and the manual leaves open: free values. None has a body,
so nothing proved about the model can lean on one of them. -/

namespace Sys2Proof.Config

/-- FREE VALUE (log 7, R199). Whether a commit cut short by a supply loss had already copied an item: arguments the
free-value counter, the table and the item. -/
opaque copiedPart : Nat → Nat → Nat → Bool

/-- FREE VALUE (log 8, R137). The two characters READ_STATUS sends as the present flow when the IN report held is
usable VALID but the rated flow is UNKNOWN: argument the free-value counter. -/
opaque unstatedFlow : Nat → BitVec 16

end Sys2Proof.Config
end

