-- ==== Sys2Proof/Machine/SettingsTable.lean ====
section
/-! DEFINITION. The nine setting tables (R196): their items, ranges, defaults and constraints as the chapters that use
them give them (R21, R41, R67, R71, R106, R123, R138, R157, R171, R184, R191). -/

namespace Sys2Proof.Machine

/-- One copy of tables T0 to T8 (R196). T7 holds no item. -/
structure Settings where
  t0 : Vector Int 7
  t1 : Vector Int 31
  t2 : Vector Int 16
  t3 : Vector Int 12
  t4 : Vector Int 16
  t5 : Vector Int 9
  t6 : Vector Int 39
  t8 : Vector Int 50
deriving DecidableEq, Repr

/-- The defaults of every item (R21, R41, R67, R71, R106, R123, R138, R171, R184, R191). -/
def Settings.defaults : Settings where
  t0 := #v[3, 1, 10, 20, 300, 10, 60]
  t1 := #v[4000, 0, 300, 20, 30, 4000, 0, 300, 20, 30, 4000, 0, 300, 20, 30, 4000, 0, 300, 20, 30,
           3200, 300, 2100, 50, 1, 1, 1, 3400, 250, 200, 30]
  t2 := #v[2, 15, 100, 40, 30, 60, 100, 100, 100, 500, 100, 500, 100, 100, 100, 100]
  t3 := #v[3, 60, 120, 6, 5, 240, 60, 8, 15, 30, 4, 2]
  t4 := #v[1800, 2200, 2600, 3000, 600, 900, 1200, 1500, 1400, 1800, 2200, 2600, 400, 600, 800, 1000]
  t5 := #v[150, 400, 50, 60, 5, 60, 10, 1, 1]
  t6 := #v[1950, 5,
           0, 50, 100, 200, 400, 0, 0, 0, 0, 0, 0, 0, 0, 0, 0, 0,
           0, 120, 340, 960, 2900, 0, 0, 0, 0, 0, 0, 0, 0, 0, 0, 0,
           5, 2, 60, 1800, 500]
  t8 := #v[1, 0, 1, 1, 1, 1, 0, 0, 1, 1, 1, 1, 0, 1, 1, 0, 1, 1, 1, 1, 0, 1, 0, 0, 1,
           1, 1, 1, 1, 1, 1, 1, 1, 1, 1, 1, 1, 1, 1, 1, 1, 1, 1, 1, 1, 1, 1, 1, 1, 1]

/-- How many items a table holds; none where the table is T7 or above T8 (R196). -/
def tableSize : Nat → Option Nat
  | 0 => some 7
  | 1 => some 31
  | 2 => some 16
  | 3 => some 12
  | 4 => some 16
  | 5 => some 9
  | 6 => some 39
  | 8 => some 50
  | _ => none

/-- The value of an item of a table; 0 where there is no such item. -/
def Settings.get (σ : Settings) (table item : Nat) : Int :=
  match table with
  | 0 => σ.t0[item]?.getD 0
  | 1 => σ.t1[item]?.getD 0
  | 2 => σ.t2[item]?.getD 0
  | 3 => σ.t3[item]?.getD 0
  | 4 => σ.t4[item]?.getD 0
  | 5 => σ.t5[item]?.getD 0
  | 6 => σ.t6[item]?.getD 0
  | 8 => σ.t8[item]?.getD 0
  | _ => 0

/-- The copy with one item written; the same copy where there is no such item. -/
def Settings.set (σ : Settings) (table item : Nat) (v : Int) : Settings :=
  match table with
  | 0 => { σ with t0 := σ.t0.setIfInBounds item v }
  | 1 => { σ with t1 := σ.t1.setIfInBounds item v }
  | 2 => { σ with t2 := σ.t2.setIfInBounds item v }
  | 3 => { σ with t3 := σ.t3.setIfInBounds item v }
  | 4 => { σ with t4 := σ.t4.setIfInBounds item v }
  | 5 => { σ with t5 := σ.t5.setIfInBounds item v }
  | 6 => { σ with t6 := σ.t6.setIfInBounds item v }
  | 8 => { σ with t8 := σ.t8.setIfInBounds item v }
  | _ => σ

/-- The flow an item value of T6 stands for: a negative value v stands for v + 65536 (R138). -/
def flowOf (v : Int) : Nat := if v < 0 then (v + 65536).toNat else v.toNat

/-! ## The rating in T6 (R138) -/

/-- The point count n of T6. -/
def Settings.pointCount (σ : Settings) : Nat := (σ.get 6 1).toNat

/-- The head of rating point k, in mm. -/
def Settings.headAt (σ : Settings) (k : Nat) : Int := σ.get 6 (2 + k)

/-- The flow of rating point k, in 0.1 L/s. -/
def Settings.flowAt (σ : Settings) (k : Nat) : Nat := flowOf (σ.get 6 (18 + k))

/-! ## Ranges -/

/-- The range of an item, lowest and highest value; ranges that depend on another item read this copy (R21, R41, R67,
R71, R106, R123, R138, R171, R184, R191). -/
def Settings.range (σ : Settings) (table item : Nat) : Int × Int :=
  match table with
  | 0 =>
    match item with
    | 0 => (0, 5)
    | 1 => (1, 247)
    | 2 => (2, 100)
    | 3 => (5, 200)
    | 4 => (30, 3600)
    | 5 => (1, 60)
    | _ => (10, 600)
  | 1 =>
    if item < 20 then
      match item % 5 with
      | 0 => (100, 10000)
      | 1 => (-5000, 5000)
      | 2 => (1, 2000)
      | 3 => (1, min 200 (255 - σ.get 1 (item + 1)))
      | _ => (0, 255 - σ.get 1 (item - 1))
    else
      match item with
      | 20 => (0, 10000)
      | 21 => (0, 10000)
      | 22 => (0, 10000)
      | 23 => (0, 500)
      | 24 => (0, 1)
      | 25 => (0, 1)
      | 26 => (0, 1)
      | 27 => (0, 10000)
      | 28 => (0, 10000)
      | 29 => (0, 2000)
      | _ => (0, 500)
  | 2 =>
    match item with
    | 0 => (1, 10)
    | 1 => (5, 60)
    | 2 => (2, 2000)
    | 3 => (1, 1999)
    | 4 => (10, 240)
    | 5 => (10, 720)
    | _ => (20, 2000)
  | 3 =>
    match item with
    | 0 => (1, 4)
    | 1 => (10, 1800)
    | 2 => (10, 1800)
    | 3 => (1, 12)
    | 4 => (1, 30)
    | 5 => (0, 720)
    | 6 => (0, 600)
    | 7 => (2, 30)
    | 8 => (5, 120)
    | 9 => (0, 600)
    | 10 => (1, 4)
    | _ => (0, 4)
  | 4 => (0, 10000)
  | 5 =>
    match item with
    | 0 => (20, min 2000 (σ.get 5 1))
    | 1 => (σ.get 5 0, 3000)
    | 2 => (0, 500)
    | 3 => (10, 300)
    | 4 => (2, 30)
    | 5 => (5, 720)
    | 6 => (1, 120)
    | _ => (0, 1)
  | 6 =>
    if item = 0 then (0, 10000)
    else if item = 1 then (2, 16)
    else if item < 18 then (0, 3000)
    else if item < 34 then (-32768, 32767)
    else if item = 34 then (σ.get 6 35 + 1, 500)
    else if item = 35 then (0, σ.get 6 34 - 1)
    else if item = 36 then (10, 600)
    else if item = 37 then (0, 7200)
    else (-32768, 32767)
  | _ => (0, 1)

/-- The value a write takes: the value given, clamped into its range (R197). A changeover time of 1 to 9 is taken
as 10 (R67). -/
def Settings.taken (σ : Settings) (table item : Nat) (v : Int) : Int :=
  let r := σ.range table item
  if table = 3 ∧ item = 5 ∧ 0 < v ∧ v < 10 then 10
  else if v < r.1 then r.1
  else if r.2 < v then r.2
  else v

/-! ## Constraints -/

/-- R71: Pk < Sk for each k, and S1 ≤ S2 ≤ S3 ≤ S4, in the profile whose four start levels begin at item `base`. -/
def Settings.profileSound (σ : Settings) (base : Nat) : Bool :=
  σ.get 4 (base + 4) < σ.get 4 base && σ.get 4 (base + 5) < σ.get 4 (base + 1) &&
  σ.get 4 (base + 6) < σ.get 4 (base + 2) && σ.get 4 (base + 7) < σ.get 4 (base + 3) &&
  σ.get 4 base ≤ σ.get 4 (base + 1) && σ.get 4 (base + 1) ≤ σ.get 4 (base + 2) &&
  σ.get 4 (base + 2) ≤ σ.get 4 (base + 3)

/-- R138: whether a head may be written to rating point k: point 0 takes only 0, a point in use lies strictly between
its neighbours in use, and a point not in use takes nothing. -/
def Settings.headFits (σ : Settings) (k : Nat) (v : Int) : Bool :=
  if σ.pointCount ≤ k then false
  else if k = 0 then v == 0
  else σ.headAt (k - 1) < v && (σ.pointCount ≤ k + 1 || v < σ.headAt (k + 1))

/-- R138: whether a flow may be written to rating point k: a point in use lies between its neighbours in use. -/
def Settings.flowFits (σ : Settings) (k : Nat) (q : Nat) : Bool :=
  if σ.pointCount ≤ k then false
  else (k == 0 || σ.flowAt (k - 1) ≤ q) && (σ.pointCount ≤ k + 1 || q ≤ σ.flowAt (k + 1))

/-- R138: whether a write of the point count keeps the highest new head within 3000 mm. -/
def Settings.countFits (σ : Settings) (n : Nat) : Bool :=
  n ≤ σ.pointCount || σ.headAt (σ.pointCount - 1) + ((n : Int) - (σ.pointCount : Int)) ≤ 3000

/-- R138: the copy after a write of the point count: points from a lowered count upward are set to 0, and points
brought into use rise by 1 mm each at the last point's flow. -/
def Settings.writeCount (σ : Settings) (n : Nat) : Settings :=
  let old := σ.pointCount
  let h := σ.headAt (old - 1)
  let q := σ.get 6 (18 + (old - 1))
  (List.range 16).foldl
    (fun τ k =>
      if n ≤ k ∧ n < old then (τ.set 6 (2 + k) 0).set 6 (18 + k) 0
      else if old ≤ k ∧ k < n then (τ.set 6 (2 + k) (h + ((k : Int) - (old : Int) + 1))).set 6 (18 + k) q
      else τ)
    (σ.set 6 1 n)

/-- The copy after a write of an item with the value taken; every constraint aside (R138, R197). -/
def Settings.write (σ : Settings) (table item : Nat) (v : Int) : Settings :=
  if table = 6 ∧ item = 1 then
    if v.toNat = σ.pointCount then σ else σ.writeCount v.toNat
  else σ.set table item v

/-- Whether the value taken keeps the constraints of the owning chapter (R21, R41, R71, R138); a write that would
not is refused with CONFLICT (R197). -/
def Settings.sound (σ : Settings) (table item : Nat) (v : Int) : Bool :=
  let τ := σ.set table item v
  match table with
  | 1 => if item = 20 ∨ item = 21 ∨ item = 23 then τ.get 1 20 - τ.get 1 21 > τ.get 1 23 else true
  | 2 => if item = 2 ∨ item = 3 then τ.get 2 3 < τ.get 2 2 else true
  | 4 => if item < 8 then τ.profileSound 0 else τ.profileSound 8
  | 6 =>
    if item = 1 then σ.countFits v.toNat
    else if 2 ≤ item ∧ item < 18 then σ.headFits (item - 2) v
    else if 18 ≤ item ∧ item < 34 then σ.flowFits (item - 18) (flowOf v)
    else true
  | _ => true

end Sys2Proof.Machine
end

