-- ==== Sys2Proof/Machine/State.lean ====
section
/-! DEFINITION. The state of the BX-440: every record, timer, queue, flag and output its blocks own (00_scope.md
section 2 and the state tables of the chapters), as plain data, and the state right after a cold start. -/

namespace Sys2Proof.Machine

/-! ## Collections of a fixed size -/

/-- One value for each level channel. -/
structure PerChannel (α : Type) where
  ww : α
  inlet : α
  sa : α
  sb : α
deriving DecidableEq, Repr

/-- The value of a channel. -/
def PerChannel.get {α : Type} (v : PerChannel α) : Channel → α
  | .ww => v.ww
  | .inlet => v.inlet
  | .sa => v.sa
  | .sb => v.sb

/-- The collection with the value of one channel replaced. -/
def PerChannel.put {α : Type} (v : PerChannel α) (c : Channel) (x : α) : PerChannel α :=
  match c with
  | .ww => { v with ww := x }
  | .inlet => { v with inlet := x }
  | .sa => { v with sa := x }
  | .sb => { v with sb := x }

/-- Every channel's value made anew. -/
def PerChannel.map {α β : Type} (f : α → β) (v : PerChannel α) : PerChannel β :=
  ⟨f v.ww, f v.inlet, f v.sa, f v.sb⟩

/-- One value for each pump bay. -/
structure PerBay (α : Type) where
  b1 : α
  b2 : α
  b3 : α
  b4 : α
deriving DecidableEq, Repr

/-- The value of a bay. -/
def PerBay.get {α : Type} (v : PerBay α) : Bay → α
  | .b1 => v.b1
  | .b2 => v.b2
  | .b3 => v.b3
  | .b4 => v.b4

/-- The collection with the value of one bay replaced. -/
def PerBay.put {α : Type} (v : PerBay α) (b : Bay) (x : α) : PerBay α :=
  match b with
  | .b1 => { v with b1 := x }
  | .b2 => { v with b2 := x }
  | .b3 => { v with b3 := x }
  | .b4 => { v with b4 := x }

/-- Every bay's value made anew. -/
def PerBay.map {α β : Type} (f : α → β) (v : PerBay α) : PerBay β :=
  ⟨f v.b1, f v.b2, f v.b3, f v.b4⟩

/-- The same value for every bay. -/
def PerBay.all {α : Type} (x : α) : PerBay α := ⟨x, x, x, x⟩

/-- One value for each screen. -/
structure PerScreen (α : Type) where
  a : α
  b : α
deriving DecidableEq, Repr

/-- The value of a screen. -/
def PerScreen.get {α : Type} (v : PerScreen α) : Screen → α
  | .a => v.a
  | .b => v.b

/-- The collection with the value of one screen replaced. -/
def PerScreen.put {α : Type} (v : PerScreen α) (x : Screen) (y : α) : PerScreen α :=
  match x with
  | .a => { v with a := y }
  | .b => { v with b := y }

/-- Every screen's value made anew. -/
def PerScreen.map {α β : Type} (f : α → β) (v : PerScreen α) : PerScreen β :=
  ⟨f v.a, f v.b⟩

/-- A block timer: stopped (none), or running with the milliseconds it has left (00_scope.md 3.3, log 2). -/
abbrev Timer := Option Nat

/-! ## Contact inputs (chapter 2) -/

/-- The position of a bay selector (R24). -/
inductive Selector where
  | hand | off | auto
deriving DecidableEq, Repr

/-- One contact record (R23), with the input's raw value beside it (R25). A selector's raw value is the decoded
position. -/
structure Filtered (α : Type) where
  raw : α
  filtered : α
  pendingState : Option α
  timer : Timer
deriving DecidableEq, Repr

/-- The Contact Input Unit: a record for each input (R23), and each bay selector's two raw contacts (R24). A contact's
value is true while it is closed. -/
structure Contacts where
  hf : Filtered Bool
  lf : Filtered Bool
  sp : Filtered Bool
  selectorH : PerBay Bool
  selectorA : PerBay Bool
  selector : PerBay (Filtered Selector)
  runFeedback : PerBay (Filtered Bool)
  overload : PerBay (Filtered Bool)
  sealLeak : PerBay (Filtered Bool)
  screenSelector : PerScreen (Filtered Bool)
  topLimit : PerScreen (Filtered Bool)
  homeLimit : PerScreen (Filtered Bool)
  rakeOverload : PerScreen (Filtered Bool)
  starterReady : Filtered Bool
  starterFault : Filtered Bool
  mainsPresent : Filtered Bool
  generatorRunning : Filtered Bool
  accept : Filtered Bool
  remotePermit : Filtered Bool
deriving DecidableEq, Repr

/-- The record of an input that is one contact. -/
def Contacts.get (k : Contacts) : Switch → Filtered Bool
  | .hf => k.hf
  | .lf => k.lf
  | .sp => k.sp
  | .runFeedback b => k.runFeedback.get b
  | .overload b => k.overload.get b
  | .sealLeak b => k.sealLeak.get b
  | .screenSelector x => k.screenSelector.get x
  | .topLimit x => k.topLimit.get x
  | .homeLimit x => k.homeLimit.get x
  | .rakeOverload x => k.rakeOverload.get x
  | .starterReady => k.starterReady
  | .starterFault => k.starterFault
  | .mainsPresent => k.mainsPresent
  | .generatorRunning => k.generatorRunning
  | .accept => k.accept
  | .remotePermit => k.remotePermit

/-- The contacts with the record of one input replaced. -/
def Contacts.put (k : Contacts) (w : Switch) (r : Filtered Bool) : Contacts :=
  match w with
  | .hf => { k with hf := r }
  | .lf => { k with lf := r }
  | .sp => { k with sp := r }
  | .runFeedback b => { k with runFeedback := k.runFeedback.put b r }
  | .overload b => { k with overload := k.overload.put b r }
  | .sealLeak b => { k with sealLeak := k.sealLeak.put b r }
  | .screenSelector x => { k with screenSelector := k.screenSelector.put x r }
  | .topLimit x => { k with topLimit := k.topLimit.put x r }
  | .homeLimit x => { k with homeLimit := k.homeLimit.put x r }
  | .rakeOverload x => { k with rakeOverload := k.rakeOverload.put x r }
  | .starterReady => { k with starterReady := r }
  | .starterFault => { k with starterFault := r }
  | .mainsPresent => { k with mainsPresent := r }
  | .generatorRunning => { k with generatorRunning := r }
  | .accept => { k with accept := r }
  | .remotePermit => { k with remotePermit := r }

/-! ## Level channels (chapter 1) -/

/-- The kind of the most recent faulted sample (R1). -/
inductive FaultKind where
  | none | under | over | loopOpen | step | cross
deriving DecidableEq, Repr

/-- The band of a sample (R3); `none` until the first sample after a restart. -/
inductive Band where
  | none | loopOpen | under | lowClamp | normal | highClamp | over
deriving DecidableEq, Repr

/-- One channel record (R1). -/
structure ChannelRec where
  level : Option Int
  valid : Bool
  counter : Nat
  pinned : Bool
  lastFault : FaultKind
  band : Band
  current : Nat
  stepRef : Option Nat
  limit : Nat
  hold : Nat
  high : Bool
  low : Bool
deriving DecidableEq, Repr

/-- A channel report as its consumers hold it (R13). -/
structure ChannelReport where
  accepted : Bool
  level : Option Int
  usable : Bool
deriving DecidableEq, Repr

/-- The report of a channel that has not been sampled since the restart: UNKNOWN, usable INVALID. -/
def ChannelReport.unknown : ChannelReport := ⟨false, none, false⟩

/-- The Level Channel Unit: the four records and their sample timers (R1, R2). -/
structure Channels where
  recs : PerChannel ChannelRec
  sampleTimers : PerChannel Timer
deriving DecidableEq, Repr

/-! ## Rainfall (chapter 2) -/

/-- The storm state (section 2.5). -/
inductive StormState where
  | dry | wet | storm
deriving DecidableEq, Repr

/-- The Rainfall Unit (R29 to R42). `dryRestarted` is the model's own: the last counted tip found the dry timer running and
restarted it (R37, log 34). -/
structure Rain where
  storm : StormState
  episodeFlag : Bool
  quiet : Nat
  openBin : Nat
  closedBins : List Nat
  intensity : Nat
  total : Nat
  clearedAt : Nat
  minuteTimer : Timer
  dryTimer : Timer
  dryRestarted : Bool
  bounceTimer : Timer
deriving DecidableEq, Repr

/-! ## Pump Roster (chapter 3) -/

/-- The state of a pump (R43). -/
inductive PumpState where
  | absent | unavailable | idle | resting | queued | starting | running | stopping | lockedOut
deriving DecidableEq, Repr

/-- The forced mode set by PUMP_FORCE (R43). -/
inductive Forced where
  | none | run | stop
deriving DecidableEq, Repr

/-- Why a pump is held out (R60). -/
inductive LockoutReason where
  | overload | failToStart | feedbackLost | failToStop
deriving DecidableEq, Repr

/-- One start of the last hour (R43): the station time of the start and its age in seconds. -/
structure StartEntry where
  time : Nat
  age : Nat
deriving DecidableEq, Repr

/-- One pump record with the bay's two outputs (R43, R45). -/
structure PumpRec where
  state : PumpState
  selector : Selector
  inService : Bool
  forced : Forced
  reason : Option LockoutReason
  resetMark : Bool
  degraded : Bool
  startLimited : Bool
  changeoverDue : Bool
  runSeconds : Nat
  startsTotal : Nat
  lockouts : Nat
  secondsInState : Nat
  window : List StartEntry
  minRun : Timer
  minRest : Timer
  stopConfirm : Timer
  feedbackLoss : Timer
  starterSelect : Bool
  runContactor : Bool
deriving DecidableEq, Repr

/-- The Pump Roster: the four records, the installed count in effect (R44), the second timer (R48) and the
restart-hold timer, stopped once it has expired (R68). -/
structure Roster where
  pumps : PerBay PumpRec
  installed : Nat
  secondTimer : Timer
  restartHold : Timer
deriving DecidableEq, Repr

/-! ## Duty Controller (chapter 4) -/

/-- The level profile in use (R71). -/
inductive Profile where
  | normal | storm
deriving DecidableEq, Repr

/-- The Duty Controller (R69). -/
structure Duty where
  stage : Nat
  profile : Profile
  storm : StormState
  report : ChannelReport
  hfCovered : Bool
  lfCovered : Bool
  allOut : Bool
  cutoff : Bool
  limit : Nat
  handCount : Nat
  order : List Bay
  rotationPending : Bool
  counted : List Bay
  uncounted : List Bay
  changeoverTimer : PerBay Timer
  replaced : PerBay Bool
deriving DecidableEq, Repr

/-! ## Starter and supply (chapter 5) -/

/-- What the starter is doing (R89). -/
inductive StarterState where
  | idle | ramping | gap | faulted
deriving DecidableEq, Repr

/-- The judgement of R95. -/
inductive StarterHealth where
  | healthy | faultInput | notReady
deriving DecidableEq, Repr

/-- The supply state (R98). -/
inductive SupplyState where
  | none | mains | generator
deriving DecidableEq, Repr

/-- The Starter Arbiter (R89). The supply gate is the supply state and whether the restore timer runs, as last
handed over; `holdExpired` is the restart hold as last handed over. -/
structure Arbiter where
  state : StarterState
  held : Option Bay
  queue : List Bay
  rampTimer : Timer
  gapTimer : Timer
  runOutput : Bool
  health : StarterHealth
  gateSupply : SupplyState
  gateRestore : Bool
  holdExpired : Bool
deriving DecidableEq, Repr

/-- The Supply Monitor (R98). -/
structure Supply where
  state : SupplyState
  limit : Nat
  restoreTimer : Timer
  mains : Bool
  generator : Bool
deriving DecidableEq, Repr

/-! ## Screens (chapter 6) -/

/-- Where a rake stands (R108). -/
inductive ScreenState where
  | idle | rising | lowering | clearing | homing | stalled | jammed | inhibited | off
deriving DecidableEq, Repr

/-- Why a screen is jammed (R116). -/
inductive JamReason where
  | overloadTwice | topTimeout | homeTimeout
deriving DecidableEq, Repr

/-- A screen's interval timer (R112): the milliseconds it has run, or stopped, and the interval in effect in
minutes. -/
structure IntervalTimer where
  elapsed : Option Nat
  minutes : Nat
deriving DecidableEq, Repr

/-- One screen record with its two outputs (R108, R109). -/
structure ScreenRec where
  state : ScreenState
  inUse : Bool
  selectorAuto : Bool
  jam : Option JamReason
  resetMark : Bool
  inhibit : Bool
  pending : Bool
  overloadSeen : Bool
  differential : Option Int
  blinded : Bool
  cycles : Nat
  lastCycle : Nat
  strokeTimer : Timer
  clearTimer : Timer
  interval : IntervalTimer
  forward : Bool
  reverse : Bool
deriving DecidableEq, Repr

/-- The Screen Controller: the two records and what it holds from its neighbours (R108). -/
structure Screens where
  recs : PerScreen ScreenRec
  inReport : ChannelReport
  saReport : ChannelReport
  sbReport : ChannelReport
  storm : StormState
  supply : SupplyState
  ramping : Bool
deriving DecidableEq, Repr

/-! ## Spills and episodes (chapters 7 and 8) -/

/-- The cause tags of R144. -/
structure Causes where
  power : Bool
  shortfall : Bool
  screen : Bool
  sensor : Bool
  override : Bool
  capacity : Bool
  lag : Bool
deriving DecidableEq, Repr

/-- No cause. -/
def Causes.empty : Causes := ⟨false, false, false, false, false, false, false⟩

/-- The record flags of R141. -/
structure RecordFlags where
  estimated : Bool
  aboveRating : Bool
  clockUnset : Bool
  settingsChanged : Bool
  interrupted : Bool
  volumeSaturated : Bool
deriving DecidableEq, Repr

/-- No flag. -/
def RecordFlags.empty : RecordFlags := ⟨false, false, false, false, false, false⟩

/-- What a receiving record takes from spill seconds and tips: volume with its remainder in tenths of a litre, spill
seconds, peaks, rain tips, causes and flags (R134 to R136, R141, R142). -/
structure Tally where
  litres : Nat
  rem : Nat
  seconds : Nat
  peakHead : Int
  peakFlow : Nat
  peakTime : Nat
  tips : Nat
  causes : Causes
  flags : RecordFlags
deriving DecidableEq, Repr

/-- A record's totals when it begins at a station time (R135, R136). -/
def Tally.begin (time : Nat) : Tally := ⟨0, 0, 0, 0, 0, time, 0, .empty, .empty⟩

/-- The pending accumulation (R136). -/
structure Accumulation where
  start : Nat
  tally : Tally
deriving DecidableEq, Repr

/-- The state of an episode in a slot (R141). -/
inductive EpisodeState where
  | opened | closing | closed
deriving DecidableEq, Repr

/-- One episode record (R141). The end time is absent while OPEN. -/
structure Episode where
  serial : Nat
  state : EpisodeState
  start : Nat
  finish : Option Nat
  tally : Tally
  merges : Nat
  stormAtOpen : StormState
deriving DecidableEq, Repr

/-- The episode in progress in the accumulator (R142). -/
structure AccProgress where
  closing : Bool
  start : Nat
  finish : Option Nat
deriving DecidableEq, Repr

/-- The spill-over accumulator (R142); the in-progress flag is set while `current` is present. -/
structure Accumulator where
  count : Nat
  current : Option AccProgress
  tally : Tally
  earliest : Nat
  latest : Nat
  firstSerial : Nat
  lastSerial : Nat
  merges : Nat
deriving DecidableEq, Repr

/-- The empty accumulator: every total 0, no flag, nothing in progress (R142). -/
def Accumulator.empty : Accumulator := ⟨0, none, Tally.begin 0, 0, 0, 0, 0, 0⟩

/-- Where the episode in progress stands (R140). -/
inductive InProgress where
  | none
  | slot (i : Fin 16)
  | accumulator
deriving DecidableEq, Repr

/-- The Episode Table (R140), with its attention flag (R155). -/
structure EpisodeTable where
  slots : Vector (Option Episode) 16
  acc : Accumulator
  serialCounter : Nat
  inProgress : InProgress
  qualifying : Bool
  qualifyTimer : Timer
  mergeTimer : Timer
  attn : Bool
deriving DecidableEq, Repr

/-- A rating: the crest in mm and the points in use, (head in mm, flow in 0.1 L/s) (R125). -/
structure Rating where
  crest : Int
  points : List (Int × Nat)
deriving DecidableEq, Repr

/-- What decided the spill state (R125). -/
inductive Basis where
  | head | probe
deriving DecidableEq, Repr

/-- The Spill Meter (R125). `fromSpilling` is set by a warm restart that keeps an OPEN episode: the first integration
then judges as if the state before were SPILLING (R139). -/
structure Spill where
  report : ChannelReport
  spWet : Bool
  rating : Rating
  head : Option Int
  rated : Option Nat
  held : Nat
  spilling : Bool
  fromSpilling : Bool
  basis : Basis
  flowUsed : Nat
  above : Bool
  accumulation : Option Accumulation
  integrationTimer : Timer
deriving DecidableEq, Repr

/-! ## Conditions (chapter 9) -/

/-- The state of a condition record (R161). -/
inductive CondState where
  | normal | activeUnack | activeAck | returnedUnack | shelved
deriving DecidableEq, Repr

/-- The kinds of restart (00_scope.md 3.7). -/
inductive RestartCause where
  | cold | warmRequest | warmSupply
deriving DecidableEq, Repr

/-- What a report with a detail carries (R160). -/
inductive Detail where
  | fault (k : FaultKind)
  | lockout (r : LockoutReason)
  | jam (r : JamReason)
  | health (h : StarterHealth)
  | serial (n : Nat)
  | cause (c : RestartCause)
deriving DecidableEq, Repr

/-- One condition record (R161). The shelve expiry is the time left of the shelve timer. -/
structure CondRec where
  state : CondState
  active : Bool
  urgent : Bool
  reportable : Bool
  change : Nat
  raises : Nat
  changedAt : Nat
  shelf : Timer
  detail : Option Detail
deriving DecidableEq, Repr

/-- The Condition Table: the records (R160), the summary and attention flag (R168), the beacon and horn outputs
(R169). -/
structure Conditions where
  recs : Vector CondRec 25
  summary : List Source
  attn : Bool
  beacon : Bool
  horn : Bool
deriving DecidableEq, Repr

/-! ## Line, authority, settings and clock (chapters 10 to 12) -/

/-- The receiver's state (R175). -/
inductive Receiver where
  | waiting | receiving | turnaround | sending
deriving DecidableEq, Repr

/-- A frame being assembled: addressed or broadcast, and the characters taken so far, LEN first (R176). -/
structure Frame where
  broadcast : Bool
  chars : List Byte
deriving DecidableEq, Repr

/-- The Line Interface (R175 to R185). `reply` holds the characters of the pending
reply as they are sent, mark and parity bits with them (R174, R186); `restartPending` is the warm
restart set pending by RESTART (R194); `baud` and `address` are the values in effect. -/
structure Line where
  receiver : Receiver
  frame : Option Frame
  gapTimer : Timer
  turnaroundTimer : Timer
  reply : Option (List Character)
  restartPending : Bool
  latch : Bool
  linkTimer : Timer
  baud : Nat
  address : Nat
deriving DecidableEq, Repr

/-- Where authority stands (R187). -/
inductive AuthState where
  | none | challenged | granted | barred
deriving DecidableEq, Repr

/-- The Authority Monitor (R187). -/
structure Authority where
  state : AuthState
  challenge : Nat
  failures : Nat
  answerTimer : Timer
  supervisionTimer : Timer
  permit : Bool
deriving DecidableEq, Repr

/-- The Settings Store (R196 to R200): the working copy, the stored copy with its completion marker, and the commit in
progress with the most milliseconds it may still take, if one is (R198). -/
structure Store where
  working : Settings
  stored : Settings
  marker : Bool
  commit : Timer
deriving DecidableEq, Repr

/-- The Station Clock (R201). -/
structure Clock where
  time : Nat
  isSet : Bool
  secondTimer : Timer
deriving DecidableEq, Repr

/-- Whether the part has supply (R199). -/
inductive Power where
  | on | halted
deriving DecidableEq, Repr

/-! ## Notices between blocks -/

/-- What one block hands the Duty Controller (R70), or what makes the Pump Roster's queue test (R49), waiting to be
taken inside the step that made it (log 5). -/
inductive Notice where
  /-- R49: an event that makes the queue test. -/
  | queueTest
  /-- R13: a channel report of WW. -/
  | wwReport (r : ChannelReport)
  /-- R26: HF's filtered state, covered or clear. -/
  | hf (covered : Bool)
  /-- R26, R75: LF's filtered state, covered or dry. -/
  | lf (covered : Bool)
  /-- R74: the all-out and all-out-ended notices. -/
  | allOut (on : Bool)
  /-- R38: a change of storm state. -/
  | storm (st : StormState)
  /-- R99, R100: the running limit. -/
  | limit (n : Nat)
  /-- R84: a changeover timer's expiry. -/
  | changeover (b : Bay)
  /-- R70: a change of a pump's state. -/
  | pump (b : Bay) (was now : PumpState)
  /-- R70, R86: a change of a pump's forced mode. -/
  | forced (b : Bay) (was now : Forced)
  /-- R64: every forced mode set to NONE at a lapse, in one hand-over; the modes as they were. -/
  | lapse (was : PerBay Forced)
  /-- R78: a change of DEGRADED. -/
  | degraded (b : Bay)
  /-- R46: a change of running in HAND. -/
  | hand (b : Bay)
  /-- R70: a change of selector or START_LIMITED, read from the record as it stands. -/
  | roster (b : Bay)
  /-- R88: the evaluation made on a restart. -/
  | restart
deriving DecidableEq, Repr

/-! ## The whole part -/

/-- The state of the BX-440. -/
structure State where
  power : Power
  restartCause : RestartCause
  store : Store
  clock : Clock
  contacts : Contacts
  channels : Channels
  rain : Rain
  roster : Roster
  duty : Duty
  arbiter : Arbiter
  supply : Supply
  screens : Screens
  spill : Spill
  episodes : EpisodeTable
  conditions : Conditions
  line : Line
  authority : Authority
  inbox : List Notice
  freeCount : Nat
  pending : List Instr
deriving DecidableEq, Repr

/-- Why a step could stop with a fault. The spec gives the BX-440 no such event: a request it cannot do is answered
with a status code (R182) and a supply loss is a state (R199), so there is no constructor and no command ever
answers a fault. Safe. -/
inductive Fault where
deriving DecidableEq, Repr

/-- Why the model refuses a command. -/
inductive Refusal where
  /-- Raised by `exec` alone, for a row of the opcode table that has no meaning yet. Safe: the model stops. No row
  is refused. -/
  | notModelled (mnemonic : String)
deriving DecidableEq, Repr

/-! ## The state right after a cold start -/

/-- A contact record whose raw value is taken as filtered, no filter timer running (R28). -/
def Filtered.settled {α : Type} (v : α) : Filtered α := ⟨v, v, none, none⟩

/-- Every contact open (log 1), filtered so (R28). -/
def Contacts.allOpen : Contacts where
  hf := .settled false
  lf := .settled false
  sp := .settled false
  selectorH := ⟨false, false, false, false⟩
  selectorA := ⟨false, false, false, false⟩
  selector := ⟨.settled .off, .settled .off, .settled .off, .settled .off⟩
  runFeedback := ⟨.settled false, .settled false, .settled false, .settled false⟩
  overload := ⟨.settled false, .settled false, .settled false, .settled false⟩
  sealLeak := ⟨.settled false, .settled false, .settled false, .settled false⟩
  screenSelector := ⟨.settled false, .settled false⟩
  topLimit := ⟨.settled false, .settled false⟩
  homeLimit := ⟨.settled false, .settled false⟩
  rakeOverload := ⟨.settled false, .settled false⟩
  starterReady := .settled false
  starterFault := .settled false
  mainsPresent := .settled false
  generatorRunning := .settled false
  accept := .settled false
  remotePermit := .settled false

/-- A channel record after any restart (R22). -/
def ChannelRec.restarted (limit hold : Nat) : ChannelRec where
  level := none
  valid := true
  counter := 0
  pinned := false
  lastFault := .none
  band := .none
  current := 0
  stepRef := none
  limit := limit
  hold := hold
  high := false
  low := false

/-- A pump record after a cold start, before its state is decided (R68). -/
def PumpRec.cold (st : PumpState) : PumpRec where
  state := st
  selector := .off
  inService := true
  forced := .none
  reason := none
  resetMark := false
  degraded := false
  startLimited := false
  changeoverDue := false
  runSeconds := 0
  startsTotal := 0
  lockouts := 0
  secondsInState := 0
  window := []
  minRun := none
  minRest := none
  stopConfirm := none
  feedbackLoss := none
  starterSelect := false
  runContactor := false

/-- A screen record after a cold start with the selector OFF (R124). -/
def ScreenRec.cold : ScreenRec where
  state := .off
  inUse := true
  selectorAuto := false
  jam := none
  resetMark := false
  inhibit := false
  pending := false
  overloadSeen := false
  differential := none
  blinded := false
  cycles := 0
  lastCycle := 0
  strokeTimer := none
  clearTimer := none
  interval := ⟨some 0, 60⟩
  forward := false
  reverse := false

/-- A condition record at a cold start, before the restart reports (R173). -/
def CondRec.cold (urgent : Bool) : CondRec := ⟨.normal, false, urgent, true, 0, 0, 0, none, none⟩

/-- A condition record whose source the restart raised once. -/
def CondRec.raisedOnce : CondRec := ⟨.activeUnack, true, true, true, 1, 1, 0, none, none⟩

/-- A pulse source's record after its pulse at a cold start (R173). -/
def CondRec.pulsed (urgent : Bool) (d : Option Detail) : CondRec := ⟨.returnedUnack, false, urgent, true, 2, 1, 0, none, d⟩

/-- The machine right after a COLD START with no stored copy and every contact open (log 1): the values of R22, R28, R42,
R68, R88, R107, R124, R139, R159, R173, R185, R195, R200 and R201, with the reports and pulses of the restart taken. -/
def State.reset : State where
  power := .on
  restartCause := .cold
  store := ⟨.defaults, .defaults, false, none⟩
  clock := ⟨0, false, some 1000⟩
  contacts := .allOpen
  channels :=
    ⟨⟨.restarted 20 30, .restarted 20 30, .restarted 20 30, .restarted 20 30⟩, ⟨some 200, some 200, some 200, some 200⟩⟩
  rain :=
    { storm := .dry, episodeFlag := false, quiet := 0, openBin := 0, closedBins := List.replicate 60 0, intensity := 0,
      total := 0, clearedAt := 0, minuteTimer := some 60000, dryTimer := none,
      dryRestarted := false, bounceTimer := none }
  roster :=
    { pumps := ⟨.cold .unavailable, .cold .unavailable, .cold .unavailable, .cold .absent⟩, installed := 3,
      secondTimer := some 1000, restartHold := some 60000 }
  duty :=
    { stage := 0, profile := .normal, storm := .dry, report := .unknown, hfCovered := false, lfCovered := false,
      allOut := false, cutoff := true, limit := 0, handCount := 0, order := [], rotationPending := false,
      counted := [], uncounted := [], changeoverTimer := ⟨none, none, none, none⟩,
      replaced := ⟨false, false, false, false⟩ }
  arbiter :=
    { state := .idle, held := none, queue := [], rampTimer := none, gapTimer := none, runOutput := false,
      health := .healthy, gateSupply := .none, gateRestore := false, holdExpired := false }
  supply := { state := .none, limit := 0, restoreTimer := none, mains := false, generator := false }
  screens :=
    { recs := ⟨.cold, .cold⟩, inReport := .unknown, saReport := .unknown, sbReport := .unknown, storm := .dry,
      supply := .none, ramping := false }
  spill :=
    { report := .unknown, spWet := false, rating := ⟨1950, [(0, 0), (50, 120), (100, 340), (200, 960), (400, 2900)]⟩,
      head := none, rated := none, held := 0, spilling := false, fromSpilling := false, basis := .head, flowUsed := 0,
      above := false, accumulation := none, integrationTimer := some 1000 }
  episodes :=
    { slots := #v[none, none, none, none, none, none, none, none, none, none, none, none, none, none, none, none],
      acc := .empty, serialCounter := 1, inProgress := .none, qualifying := false, qualifyTimer := none,
      mergeTimer := none, attn := false }
  conditions :=
    { recs :=
        #v[.cold true, .cold false, .cold true, .cold true, .cold true, .cold true, .cold false, .cold false,
           .cold true, .cold true, .cold true, .cold true, .cold false, .cold true, .cold true, .cold false,
           .cold true, .raisedOnce, .raisedOnce, .cold true, .cold false, .cold true, .cold false,
           .pulsed false (some (.cause .cold)), .pulsed true none],
      summary := [.mainsFail, .supplyNone, .restart, .settingsDefaulted], attn := true, beacon := true, horn := true }
  line :=
    { receiver := .waiting, frame := none, gapTimer := none, turnaroundTimer := none, reply := none,
      restartPending := false, latch := false, linkTimer := some 300000, baud := 3, address := 1 }
  authority :=
    { state := .none, challenge := 257, failures := 0, answerTimer := none, supervisionTimer := none, permit := false }
  inbox := []
  freeCount := 0
  pending := []

end Sys2Proof.Machine
end

