-- ==== Sys2Proof/Machine/Operands.lean ====
section
/-! DEFINITION. The operands of the BX-440's commands and rules: settings by their meaning, filtered inputs, the numbers
of the wire (R186), and the parity and check of characters and frames (R174, R177). -/

namespace Sys2Proof

/-! ## Channels, inputs and characters -/

/-- T1 items are laid out five to a channel (R21). -/
def Channel.base (c : Channel) : Nat := 5 * c.index

/-- The filter time item of an input in T2 (R41). -/
def Switch.filterItem : Switch → Nat
  | .hf => 6
  | .lf => 6
  | .sp => 7
  | .runFeedback _ => 8
  | .overload _ => 8
  | .sealLeak _ => 8
  | .screenSelector _ => 11
  | .topLimit _ => 10
  | .homeLimit _ => 10
  | .rakeOverload _ => 10
  | .starterReady => 12
  | .starterFault => 12
  | .mainsPresent => 13
  | .generatorRunning => 13
  | .accept => 14
  | .remotePermit => 15

/-- The data bits of a character, least significant first. -/
def dataBits (d : Byte) : Bits :=
  [d.getLsbD 0, d.getLsbD 1, d.getLsbD 2, d.getLsbD 3, d.getLsbD 4, d.getLsbD 5, d.getLsbD 6, d.getLsbD 7]

/-- Whether the ones among data, mark and parity bits number an even count (R174). -/
def Character.parityEven (c : Character) : Bool :=
  countOnes (dataBits c.data ++ [c.mark, c.parity]) % 2 == 0

/-- A good character: parity even and the stop bit at mark (R174). -/
def Character.good (c : Character) : Bool := c.parityEven && c.stop

/-- The parity bit that makes the count of ones even (R174). -/
def parityBit (d : Byte) (mark : Bool) : Bool := countOnes (dataBits d ++ [mark]) % 2 == 1

/-- A character as a sender makes it (R174). -/
def Character.make (d : Byte) (mark : Bool) : Character := ⟨d, mark, parityBit d mark, true⟩

/-- A run of characters as a sender makes them: the address character with mark bit 1, every other with mark bit 0 (R174). -/
def Character.run (address : Byte) (data : List Byte) : List Character :=
  Character.make address true :: data.map (Character.make · false)

end Sys2Proof

namespace Sys2Proof.Machine

/-! ## Settings of the working copy -/

/-- An item of the working copy (R196). -/
def State.item (s : State) (table i : Nat) : Int := s.store.working.get table i

/-- An item of the working copy as a natural number. -/
def State.itemNat (s : State) (table i : Nat) : Nat := (s.item table i).toNat

/-- A duration set in seconds, in milliseconds. -/
def seconds (n : Nat) : Nat := n * 1000

/-- A duration set in minutes, in milliseconds. -/
def minutes (n : Nat) : Nat := n * 60000

/-- Whole seconds left on a timer, 0 if it is stopped: the floor of 00_scope.md 3.2 (log 15). -/
def secondsLeft : Timer → Nat
  | none => 0
  | some ms => ms / 1000

/-- The start of a timer by a setting in seconds; a duration of 0 has expired at once (R68, R103). -/
def startTimer (secs : Nat) : Timer := if secs = 0 then none else some (seconds secs)

/-- Max starts per hour (T3 item 3). -/
def State.maxStarts (s : State) : Nat := s.itemNat 3 3

/-- The changeover timer's start: the changeover time of T3 item 5 in minutes, not started when it is 0 (R84). -/
def State.changeoverStart (s : State) : Timer :=
  let m := s.itemNat 3 5
  if m = 0 then none else some (minutes m)

/-- The rake interval for a storm state, in minutes (R112). -/
def State.rakeInterval (s : State) (st : StormState) : Nat :=
  match st with
  | .storm => s.itemNat 5 6
  | .dry => s.itemNat 5 5
  | .wet => s.itemNat 5 5

/-- The filter time item of the bay selectors in T2 (R41). -/
def selectorFilterItem : Nat := 9

/-- The rating of the working copy: crest and the points in use (R125, R127). -/
def Settings.rating (σ : Settings) : Rating :=
  ⟨σ.get 6 0, (List.range σ.pointCount).map (fun k => (σ.headAt k, σ.flowAt k))⟩

/-! ## Filtered inputs as they stand (R26) -/

/-- Whether an input's filtered contact is closed. -/
def State.closed (s : State) (w : Switch) : Bool := (s.contacts.get w).filtered

/-- Filtered run feedback of a bay (R23: closed means running). -/
def State.feedback (s : State) (b : Bay) : Bool := s.closed (.runFeedback b)

/-- Filtered overload of a bay: an open contact reads tripped (R23). -/
def State.overloadTripped (s : State) (b : Bay) : Bool := !s.closed (.overload b)

/-- Filtered rake overload of a screen: an open contact reads tripped (R23). -/
def State.rakeTripped (s : State) (x : Screen) : Bool := !s.closed (.rakeOverload x)

/-- The position decoded from a bay selector's H and A contacts (R24). -/
def decodeSelector (h a : Bool) : Selector :=
  match h, a with
  | true, false => .hand
  | false, true => .auto
  | false, false => .off
  | true, true => .off

/-! ## Records by name -/

/-- A bay's pump record. -/
def State.pump (s : State) (b : Bay) : PumpRec := s.roster.pumps.get b

/-- A screen's record. -/
def State.screen (s : State) (x : Screen) : ScreenRec := s.screens.recs.get x

/-- A channel's record. -/
def State.channel (s : State) (c : Channel) : ChannelRec := s.channels.recs.get c

/-- A source's condition record. -/
def State.cond (s : State) (src : Source) : CondRec := s.conditions.recs.get src.index

/-- A channel's usable validity: VALID when its validity is VALID and its level is known (R13). -/
def ChannelRec.usable (r : ChannelRec) : Bool := r.valid && r.level.isSome

/-- The level a consumer may use from a report: known and usable VALID (R13). -/
def ChannelReport.known (r : ChannelReport) : Option Int := if r.usable then r.level else none

/-- Whether a pump is in one of the six states of the duty order (R77). -/
def PumpState.onDuty : PumpState → Bool
  | .idle => true
  | .resting => true
  | .queued => true
  | .starting => true
  | .running => true
  | .stopping => true
  | .absent => false
  | .unavailable => false
  | .lockedOut => false

/-- Whether a pump is QUEUED, STARTING or RUNNING: it counts against the running limit (R49). -/
def PumpState.committed : PumpState → Bool
  | .queued => true
  | .starting => true
  | .running => true
  | .absent => false
  | .unavailable => false
  | .idle => false
  | .resting => false
  | .stopping => false
  | .lockedOut => false

/-- Whether a bay is running in HAND: selector HAND and run feedback on (R46). -/
def State.runsInHand (s : State) (b : Bay) : Bool := (s.pump b).selector == .hand && s.feedback b

/-- The bays, not ABSENT, running in HAND (R69). -/
def State.handRunning (s : State) : Nat :=
  (Bay.all.filter fun b => (s.pump b).state != .absent && s.runsInHand b).length

/-- The pumps QUEUED, STARTING or RUNNING (R49). -/
def State.committedCount (s : State) : Nat := (Bay.all.filter fun b => (s.pump b).state.committed).length

/-- A pump's outputs: whether its starter select or its run contactor is on (R101). -/
def PumpRec.outputOn (p : PumpRec) : Bool := p.starterSelect || p.runContactor

/-- The number of bays with an output on (R101). -/
def State.outputCount (s : State) : Nat := (Bay.all.filter fun b => (s.pump b).outputOn).length

/-- The members of the wanted set last handed to the Roster, counted and uncounted together (R83). -/
def Duty.wanted (d : Duty) : List Bay := d.counted ++ d.uncounted

/-! ## The numbers of the wire (R186) -/

/-- One character. -/
def byte (n : Nat) : Byte := BitVec.ofNat 8 n

/-- Two characters, high byte first. -/
def word (n : Nat) : List Byte := [byte (n / 256), byte n]

/-- Four characters, high byte first. -/
def long (n : Nat) : List Byte := [byte (n / 16777216), byte (n / 65536), byte (n / 256), byte n]

/-- A signed number as its two's complement in sixteen bits. -/
def signedNat (v : Int) : Nat := (v % 65536).toNat

/-- A signed number in two characters, two's complement. -/
def signed (v : Int) : List Byte := word (signedNat v)

/-- A signed number or UNKNOWN, which is sent as -32768 (R186). -/
def signedOr : Option Int → List Byte
  | none => signed (-32768)
  | some v => signed v

/-- The number two characters carry. -/
def ofWord (hi lo : Byte) : Nat := hi.toNat * 256 + lo.toNat

/-- The number four characters carry. -/
def ofLong (a b c d : Byte) : Nat := ((a.toNat * 256 + b.toNat) * 256 + c.toNat) * 256 + d.toNat

/-- The signed number two characters carry (R196). -/
def ofSigned (hi lo : Byte) : Int :=
  let n : Int := ofWord hi lo
  if n < 32768 then n else n - 65536

/-! ## Characters and checks -/

/-- One bit into the check register: generator x^16 + x^12 + x^5 + 1 (R177). -/
def crcBit (r : Word16) (bit : Bool) : Word16 :=
  let top := r.getLsbD 15
  if top != bit then (r <<< 1) ^^^ 0x1021#16 else r <<< 1

/-- One character into the check register, most significant bit first (R177). -/
def crcByte (r : Word16) (d : Byte) : Word16 := (dataBits d).reverse.foldl crcBit r

/-- The check over a run of characters: the register starts at all ones and the result is not inverted (R177). -/
def crc (chars : List Byte) : Word16 := chars.foldl crcByte 0xFFFF#16

/-- The check as its two characters, high byte first (R176). -/
def checkChars (chars : List Byte) : List Byte := word (crc chars).toNat

end Sys2Proof.Machine
end

