-- ==== Sys2Proof/Machine/Flags.lean ====
section
/-! DEFINITION. The flags of the BX-440: the codes of enumerated values and the flag characters of the wire (R186), the
judgement of the summary, attention, beacon and horn (R168, R169), and the cause tags of a spill second (R144). -/

namespace Sys2Proof.Machine

/-! ## Codes of enumerated values (R186) -/

/-- Restart cause. -/
def RestartCause.code : RestartCause → Nat
  | .cold => 1
  | .warmRequest => 2
  | .warmSupply => 3

/-- Supply state. -/
def SupplyState.code : SupplyState → Nat
  | .none => 0
  | .mains => 1
  | .generator => 2

/-- Storm state. -/
def StormState.code : StormState → Nat
  | .dry => 0
  | .wet => 1
  | .storm => 2

/-- Profile. -/
def Profile.code : Profile → Nat
  | .normal => 0
  | .storm => 1

/-- Starter state. -/
def StarterState.code : StarterState → Nat
  | .idle => 0
  | .ramping => 1
  | .gap => 2
  | .faulted => 3

/-- Starter health. -/
def StarterHealth.code : StarterHealth → Nat
  | .healthy => 0
  | .faultInput => 1
  | .notReady => 2

/-- Authority state. -/
def AuthState.code : AuthState → Nat
  | .none => 0
  | .challenged => 1
  | .granted => 2
  | .barred => 3

/-- Pump state. -/
def PumpState.code : PumpState → Nat
  | .absent => 0
  | .unavailable => 1
  | .idle => 2
  | .resting => 3
  | .queued => 4
  | .starting => 5
  | .running => 6
  | .stopping => 7
  | .lockedOut => 8

/-- Selector. -/
def Selector.code : Selector → Nat
  | .off => 0
  | .hand => 1
  | .auto => 2

/-- Forced mode. -/
def Forced.code : Forced → Nat
  | .none => 0
  | .run => 1
  | .stop => 2

/-- Lockout reason, 0 for NONE. -/
def LockoutReason.code : Option LockoutReason → Nat
  | none => 0
  | some .overload => 1
  | some .failToStart => 2
  | some .feedbackLost => 3
  | some .failToStop => 4

/-- Screen state. -/
def ScreenState.code : ScreenState → Nat
  | .idle => 0
  | .rising => 1
  | .lowering => 2
  | .clearing => 3
  | .homing => 4
  | .stalled => 5
  | .jammed => 6
  | .inhibited => 7
  | .off => 8

/-- Jam reason, 0 for NONE. -/
def JamReason.code : Option JamReason → Nat
  | none => 0
  | some .overloadTwice => 1
  | some .topTimeout => 2
  | some .homeTimeout => 3

/-- Condition state. -/
def CondState.code : CondState → Nat
  | .normal => 0
  | .activeUnack => 1
  | .activeAck => 2
  | .returnedUnack => 3
  | .shelved => 4

/-- Slot state of an occupied slot; 0 is FREE. -/
def EpisodeState.code : EpisodeState → Nat
  | .opened => 1
  | .closing => 2
  | .closed => 3

/-- Fault kind. -/
def FaultKind.code : FaultKind → Nat
  | .none => 0
  | .under => 1
  | .over => 2
  | .loopOpen => 3
  | .step => 4
  | .cross => 5

/-- Band. -/
def Band.code : Band → Nat
  | .none => 0
  | .loopOpen => 1
  | .under => 2
  | .lowClamp => 3
  | .normal => 4
  | .highClamp => 5
  | .over => 6

/-- A condition detail: the code of its kind, the serial of OVERFLOW_ACTIVE, 0 when absent. -/
def Detail.code : Option Detail → Nat
  | none => 0
  | some (.fault k) => k.code
  | some (.lockout r) => LockoutReason.code (some r)
  | some (.jam r) => JamReason.code (some r)
  | some (.health h) => h.code
  | some (.serial n) => n
  | some (.cause c) => c.code

/-! ## Flag characters (R186) -/

/-- A flag character: bit 0 first, bits not named 0. -/
def flagByte (bits : Bits) : Byte := byte (bitsToNat bits)

/-- Cause tags by bit. -/
def Causes.bits (c : Causes) : Bits := [c.power, c.shortfall, c.screen, c.sensor, c.override, c.capacity, c.lag]

/-- Record flags by bit. -/
def RecordFlags.bits (f : RecordFlags) : Bits :=
  [f.estimated, f.aboveRating, f.clockUnset, f.settingsChanged, f.interrupted, f.volumeSaturated]

/-- The union of two sets of causes. -/
def Causes.union (c d : Causes) : Causes :=
  ⟨c.power || d.power, c.shortfall || d.shortfall, c.screen || d.screen, c.sensor || d.sensor,
   c.override || d.override, c.capacity || d.capacity, c.lag || d.lag⟩

/-- The union of two sets of flags. -/
def RecordFlags.union (f g : RecordFlags) : RecordFlags :=
  ⟨f.estimated || g.estimated, f.aboveRating || g.aboveRating, f.clockUnset || g.clockUnset,
   f.settingsChanged || g.settingsChanged, f.interrupted || g.interrupted, f.volumeSaturated || g.volumeSaturated⟩

/-- The ATTN field of a reply header: ATTN_CONDITION, ATTN_EPISODE, the line-fault latch, the authority state in bits
3 and 4 (R182, R186). -/
def State.attnByte (s : State) : Byte :=
  byte (bitsToNat [s.conditions.attn, s.episodes.attn, s.line.latch] + 8 * s.authority.state.code)

/-! ## Summary, attention, beacon and horn (R168, R169) -/

/-- Whether a state is in the summary, and lights the beacon of an URGENT record. -/
def CondState.shows : CondState → Bool
  | .activeUnack => true
  | .activeAck => true
  | .returnedUnack => true
  | .normal => false
  | .shelved => false

/-- Whether a state asks for attention, and sounds the horn of an URGENT record. -/
def CondState.calls : CondState → Bool
  | .activeUnack => true
  | .returnedUnack => true
  | .activeAck => false
  | .normal => false
  | .shelved => false

/-- The summary: the reportable records in ACTIVE_UNACK, ACTIVE_ACK or RETURNED_UNACK (R168). -/
def summaryOf (recs : Vector CondRec 25) : List Source :=
  Source.all.filter fun i => (recs.get i.index).reportable && (recs.get i.index).state.shows

/-- ATTN_CONDITION: some reportable record is in ACTIVE_UNACK or RETURNED_UNACK (R168). -/
def attnOf (recs : Vector CondRec 25) : Bool :=
  Source.all.any fun i => (recs.get i.index).reportable && (recs.get i.index).state.calls

/-- The beacon: some URGENT record is in ACTIVE_UNACK, ACTIVE_ACK or RETURNED_UNACK (R169). -/
def beaconOf (recs : Vector CondRec 25) : Bool :=
  Source.all.any fun i => (recs.get i.index).urgent && (recs.get i.index).state.shows

/-- The horn: some URGENT record is in ACTIVE_UNACK or RETURNED_UNACK (R169). -/
def hornOf (recs : Vector CondRec 25) : Bool :=
  Source.all.any fun i => (recs.get i.index).urgent && (recs.get i.index).state.calls

/-- The table with the summary, ATTN_CONDITION, the beacon and the horn judged anew from the records. -/
def Conditions.judge (t : Conditions) : Conditions :=
  { t with
    summary := summaryOf t.recs
    attn := attnOf t.recs
    beacon := beaconOf t.recs
    horn := hornOf t.recs }

/-- ATTN_EPISODE: some slot is CLOSED or the accumulator's count is above 0 (R155). -/
def episodeAttn (t : EpisodeTable) : Bool :=
  t.slots.toList.any (fun e => match e with | some ep => ep.state == .closed | none => false) || t.acc.count > 0

/-! ## Cause tags (R144) -/

/-- The tags present at an integration, read from the blocks as they stand. -/
def State.causeTags (s : State) : Causes :=
  let power := s.supply.state == .none || s.supply.limit < s.duty.order.length
  let shortfall := s.duty.order.length < s.roster.installed
  let screen := Screen.all.any fun x =>
    (s.screen x).inUse && ((s.screen x).state == .jammed || (s.screen x).blinded || (s.screen x).state == .inhibited)
  let sensor := !(s.channel .ww).usable
  let override := Bay.all.any fun b => (s.pump b).forced == .stop
  let clear := !(power || shortfall || screen || sensor || override)
  let allRunning := s.duty.order.all fun b => (s.pump b).state == .running
  ⟨power, shortfall, screen, sensor, override, clear && allRunning, clear && !allRunning⟩

end Sys2Proof.Machine
end

