-- ==== Sys2Proof/Machine/Ops.lean ====
section
/-! DEFINITION. The operations every block shares: the guard of a part without supply, records written by name, notices
handed on, a condition record's moves and the report of a source (R161 to R163). -/

namespace Sys2Proof.Machine

/-- What a command answers: always a next state. -/
abbrev Answered := Host.Outcome State Fault Refusal

/-- A command's effect while the part has supply; a halted part does nothing (R199, log 4). -/
def powered (f : State → State) (s : State) : Answered :=
  .next (if s.power = .on then f s else s)

/-! ## Records written by name -/

/-- The state with a bay's pump record replaced. -/
def State.setPump (s : State) (b : Bay) (p : PumpRec) : State :=
  { s with roster := { s.roster with pumps := s.roster.pumps.put b p } }

/-- The state with a bay's pump record changed. -/
def State.modPump (s : State) (b : Bay) (f : PumpRec → PumpRec) : State := s.setPump b (f (s.pump b))

/-- The state with a screen's record replaced. -/
def State.setScreen (s : State) (x : Screen) (r : ScreenRec) : State :=
  { s with screens := { s.screens with recs := s.screens.recs.put x r } }

/-- The state with a screen's record changed. -/
def State.modScreen (s : State) (x : Screen) (f : ScreenRec → ScreenRec) : State := s.setScreen x (f (s.screen x))

/-- The state with a channel's record replaced. -/
def State.setChannel (s : State) (c : Channel) (r : ChannelRec) : State :=
  { s with channels := { s.channels with recs := s.channels.recs.put c r } }

/-- A notice handed on: it joins the tail of the inbox (log 5). -/
def State.post (s : State) (n : Notice) : State := { s with inbox := s.inbox ++ [n] }

/-- A change made for each bay in bay order. -/
def forBays (f : Bay → State → State) (s : State) : State := Bay.all.foldl (fun t b => f b t) s

/-- A change made for screen A and then for screen B. -/
def forScreens (f : Screen → State → State) (s : State) : State := f .b (f .a s)

/-! ## Condition records (R161 to R163) -/

/-- A change of state: the change number advances by 1 and wraps from 255 to 0, and the time is stamped; an event that
leaves the state as it was changes neither (R161). -/
def CondRec.moveTo (now : Nat) (st : CondState) (r : CondRec) : CondRec :=
  if r.state = st then r else { r with state := st, change := (r.change + 1) % 256, changedAt := now }

/-- Where a raise moves the state (R162). -/
def CondState.raised : CondState → CondState
  | .normal => .activeUnack
  | .returnedUnack => .activeUnack
  | .activeUnack => .activeUnack
  | .activeAck => .activeAck
  | .shelved => .shelved

/-- Where a return moves the state (R162). -/
def CondState.returned : CondState → CondState
  | .activeUnack => .returnedUnack
  | .activeAck => .normal
  | .normal => .normal
  | .returnedUnack => .returnedUnack
  | .shelved => .shelved

/-- Where an acknowledgement moves the state (R164, R165). -/
def CondState.acknowledged : CondState → CondState
  | .activeUnack => .activeAck
  | .returnedUnack => .normal
  | .normal => .normal
  | .activeAck => .activeAck
  | .shelved => .shelved

/-- A report of a source's activity taken at its record (R162): a raise, a return, or neither. -/
def CondRec.takeActivity (now : Nat) (active : Bool) (r : CondRec) : CondRec :=
  if active = r.active then r
  else if active then { r with active := true, raises := satAdd 255 r.raises 1 }.moveTo now r.state.raised
  else { r with active := false }.moveTo now r.state.returned

/-- A report with its detail: the detail is written when the source is reported active with one (R163). -/
def CondRec.takeReport (now : Nat) (active : Bool) (detail : Option Detail) (r : CondRec) : CondRec :=
  let r := r.takeActivity now active
  if active && detail.isSome then { r with detail := detail } else r

/-- A record leaves SHELVED: ACTIVE_UNACK if its source is active, NORMAL if not; the shelve expiry becomes absent
(R167). A record not SHELVED is left as it is. -/
def CondRec.unshelve (now : Nat) (r : CondRec) : CondRec :=
  if r.state = .shelved then
    { r with shelf := none }.moveTo now (if r.active then .activeUnack else .normal)
  else r

/-- The table with one record changed, and the summary, attention, beacon and horn judged anew (R168, R169). -/
def Conditions.modify (t : Conditions) (src : Source) (f : CondRec → CondRec) : Conditions :=
  { t with recs := t.recs.set src.index (f (t.recs.get src.index)) src.index.isLt }.judge

/-- The table with every record changed, and judged anew. -/
def Conditions.modifyAll (t : Conditions) (f : CondRec → CondRec) : Conditions := { t with recs := t.recs.map f }.judge

/-- An owner reports a source to the Condition Table (R162, R163). -/
def State.report (s : State) (src : Source) (active : Bool) (detail : Option Detail := none) : State :=
  { s with conditions := s.conditions.modify src (·.takeReport s.clock.time active detail) }

/-- A pulse source is reported active and then at once inactive (R160, R172). -/
def State.pulse (s : State) (src : Source) (detail : Option Detail := none) : State :=
  (s.report src true detail).report src false

end Sys2Proof.Machine
end

