-- ==== Sys2Proof/Machine/ScreenControl.lean ====
section
/-! DEFINITION. The Screen Controller (chapter 6): what moves a rake. The commands of the chapter are in Screens.lean. -/

namespace Sys2Proof.Machine

/-- A screen enters a state with the outputs of R109: forward on in RISING, reverse on in LOWERING, CLEARING and HOMING,
both off otherwise. -/
def ScreenRec.enter (st : ScreenState) (r : ScreenRec) : ScreenRec :=
  { r with
    state := st
    forward := st == .rising
    reverse := st == .lowering || st == .clearing || st == .homing }

/-- The stroke and clear timers stopped. -/
def ScreenRec.stopMotion (r : ScreenRec) : ScreenRec := { r with strokeTimer := none, clearTimer := none }

/-- The jam source of a screen (R116). -/
def jamSource : Screen → Source
  | .a => .screenAJam
  | .b => .screenBJam

/-- The stroke timer's start (T5 item 3). -/
def State.strokeStart (s : State) : Timer := some (seconds (s.itemNat 5 3))

/-- Entry to JAMMED with a reason (R116). -/
def jamScreen (x : Screen) (why : JamReason) (s : State) : State :=
  (s.modScreen x fun r => { r.stopMotion with resetMark := false, jam := some why }.enter .jammed).report
    (jamSource x) true (some (.jam why))

/-- An overload trip in RISING: the rake backs off once in a cycle, then jams (R114). -/
def overloadInRising (x : Screen) (s : State) : State :=
  if (s.screen x).overloadSeen then jamScreen x .overloadTwice s
  else
    s.modScreen x fun r =>
      { r with strokeTimer := none, clearTimer := some (seconds (s.itemNat 5 4)), overloadSeen := true }.enter .clearing

/-- TOP made in RISING: the rake lowers, the stroke timer at full length (R115). -/
def topReached (x : Screen) (s : State) : State :=
  s.modScreen x fun r => { r with strokeTimer := s.strokeStart }.enter .lowering

/-- The rake overload and TOP inputs judged as they stand in a screen just RISING (R113, R114). -/
def judgeRise (x : Screen) (s : State) : State :=
  if s.rakeTripped x then overloadInRising x s
  else if s.closed (.topLimit x) then topReached x s
  else s

/-- A cycle starts (R113): pending and overload-seen cleared, the interval timer started (R112), RISING. -/
def startCycle (x : Screen) (s : State) : State :=
  judgeRise x <| s.modScreen x fun r =>
    { r with
      pending := false
      overloadSeen := false
      interval := ⟨some 0, s.rakeInterval s.screens.storm⟩
      strokeTimer := s.strokeStart }.enter .rising

/-- The start test is held with the supply NONE, or on the generator while the Arbiter is RAMPING (R111). -/
def State.rakeHeld (s : State) : Bool :=
  s.screens.supply == .none || (s.screens.supply == .generator && s.screens.ramping)

/-- The start test of a screen in IDLE: held, pending is set; not held, a cycle starts (R111). -/
def startTest (x : Screen) (s : State) : State :=
  if s.rakeHeld then s.modScreen x fun r => { r with pending := true } else startCycle x s

/-- A trigger for a screen in use: the start test in IDLE, pending set in any other state (R111). -/
def trigger (x : Screen) (s : State) : State :=
  if (s.screen x).inUse then
    if (s.screen x).state = .idle then startTest x s else s.modScreen x fun r => { r with pending := true }
  else s

/-- The return to rest (R115): INHIBITED if inhibit is set; otherwise IDLE, and a remembered trigger is answered. -/
def returnToRest (x : Screen) (s : State) : State :=
  if (s.screen x).inhibit then s.modScreen x fun r => r.stopMotion.enter .inhibited
  else
    let s := s.modScreen x fun r => r.stopMotion.enter .idle
    if (s.screen x).pending then startTest x s else s

/-- Entry to HOMING (R117): STALLED with the supply NONE, the return to rest with HOME made, HOMING otherwise. -/
def enterHoming (x : Screen) (s : State) : State :=
  if s.screens.supply = .none then s.modScreen x fun r => r.stopMotion.enter .stalled
  else if s.closed (.homeLimit x) then returnToRest x s
  else s.modScreen x fun r => { r.stopMotion with strokeTimer := s.strokeStart }.enter .homing

/-- A jam is cleared: the reason becomes absent, the source is reported inactive, the screen enters HOMING
(R118, R121). -/
def clearJam (x : Screen) (s : State) : State :=
  enterHoming x <| (s.modScreen x fun r => { r with jam := none, resetMark := false }).report (jamSource x) false

/-- A limit made reaches the rake (R115). -/
def topMade (x : Screen) (s : State) : State :=
  if (s.screen x).inUse ∧ (s.screen x).state = .rising then topReached x s else s

/-- HOME made (R115): the end of a cycle in LOWERING, the end of homing in HOMING, no effect otherwise. -/
def homeMade (x : Screen) (s : State) : State :=
  if (s.screen x).inUse then
    match (s.screen x).state with
    | .lowering =>
      returnToRest x <| s.modScreen x fun r =>
        { r with cycles := satAdd 4294967295 r.cycles 1, lastCycle := s.clock.time }
    | .homing => returnToRest x s
    | .idle => s
    | .rising => s
    | .clearing => s
    | .stalled => s
    | .jammed => s
    | .inhibited => s
    | .off => s
  else s

/-- A rake overload trip reaches a screen (R114): it acts in RISING alone. -/
def rakeTrip (x : Screen) (s : State) : State :=
  if (s.screen x).inUse ∧ (s.screen x).state = .rising then overloadInRising x s else s

/-- A stroke timer's expiry (R115). -/
def strokeExpired (x : Screen) (s : State) : State :=
  let s := s.modScreen x fun r => { r with strokeTimer := none }
  match (s.screen x).state with
  | .rising => jamScreen x .topTimeout s
  | .lowering => jamScreen x .homeTimeout s
  | .homing => jamScreen x .homeTimeout s
  | .idle => s
  | .clearing => s
  | .stalled => s
  | .jammed => s
  | .inhibited => s
  | .off => s

/-- A clear timer's expiry in CLEARING: the rake rises again at full length, its inputs judged as in R113 (R114). -/
def clearExpired (x : Screen) (s : State) : State :=
  let s := s.modScreen x fun r => { r with clearTimer := none }
  if (s.screen x).state = .clearing then
    judgeRise x <| s.modScreen x fun r => { r with strokeTimer := s.strokeStart }.enter .rising
  else s

/-- An interval timer's expiry: the timer stops and the interval trigger is made (R112). -/
def intervalExpired (x : Screen) (s : State) : State :=
  trigger x <| s.modScreen x fun r => { r with interval := { r.interval with elapsed := none } }

/-- Whether a rake is in motion, or would be but for a timer: the states a supply loss stalls (R117). -/
def ScreenState.moving : ScreenState → Bool
  | .rising => true
  | .lowering => true
  | .clearing => true
  | .homing => true
  | .idle => false
  | .stalled => false
  | .jammed => false
  | .inhibited => false
  | .off => false

/-- Entry to NONE at one screen: a moving rake stalls, its cycle not counted (R117). -/
def stallScreen (x : Screen) (s : State) : State :=
  if (s.screen x).state.moving then
    s.modScreen x fun r => { r.stopMotion with overloadSeen := false }.enter .stalled
  else s

/-- A screen that is IDLE with pending set makes the start test again (R111). -/
def retest (x : Screen) (s : State) : State :=
  if (s.screen x).inUse ∧ (s.screen x).state = .idle ∧ (s.screen x).pending then startTest x s else s

/-- The Supply Monitor's entry to NONE at the Screen Controller (R102, R117). -/
def screensLoseSupply (s : State) : State :=
  forScreens stallScreen { s with screens := { s.screens with supply := .none } }

/-- A STALLED screen is brought home when the supply returns (R117). -/
def homeStalled (x : Screen) (s : State) : State :=
  if (s.screen x).inUse ∧ (s.screen x).state = .stalled then enterHoming x s else s

/-- The hand-over of a supply state other than NONE to the Screen Controller (R99): a return of supply homes the STALLED
screens (R117), and the start hold lifts at a change to MAINS, or from NONE to GENERATOR with the Arbiter not
RAMPING (R111). -/
def screensGainSupply (new : SupplyState) (s : State) : State :=
  let old := s.screens.supply
  let s := { s with screens := { s.screens with supply := new } }
  let s := if old = .none then forScreens homeStalled s else s
  if new = .mains ∨ (old = .none ∧ new = .generator ∧ s.screens.ramping = false) then forScreens retest s else s

/-- The Arbiter's entry to RAMPING or departure from it, handed to the Screen Controller (R89); the hold lifts at the
departure (R111). -/
def screensRamping (on : Bool) (s : State) : State :=
  let s := { s with screens := { s.screens with ramping := on } }
  if on then s else forScreens retest s

/-- The interval in effect read again at a change into or out of STORM: a timer that has run for the new interval or
longer expires (R112). A screen not in use has no interval timer, and what it shows as the interval in effect stays as the
last restart read it (R122, log 36). -/
def rereadInterval (x : Screen) (s : State) : State :=
  if (s.screen x).inUse then
    let m := s.rakeInterval s.screens.storm
    let s := s.modScreen x fun r => { r with interval := { r.interval with minutes := m } }
    match (s.screen x).interval.elapsed with
    | none => s
    | some ms => if minutes m ≤ ms then intervalExpired x s else s
  else s

/-- A change of storm state handed to the Screen Controller (R38, R112). -/
def screensStorm (new : StormState) (s : State) : State :=
  let old := s.screens.storm
  let s := { s with screens := { s.screens with storm := new } }
  if (old == .storm) != (new == .storm) then forScreens rereadInterval s else s

/-- A change of a screen selector (R118): it is written to the record, and acts on a screen in use. -/
def screenSelectorChange (x : Screen) (auto : Bool) (s : State) : State :=
  let s := s.modScreen x fun r => { r with selectorAuto := auto }
  let r := s.screen x
  if r.inUse then
    if auto then
      match r.state with
      | .jammed =>
        if r.resetMark then
          if s.rakeTripped x then s.modScreen x fun r => { r with resetMark := false } else clearJam x s
        else s
      | .off => enterHoming x s
      | .idle => s
      | .rising => s
      | .lowering => s
      | .clearing => s
      | .homing => s
      | .stalled => s
      | .inhibited => s
    else
      match r.state with
      | .jammed => s.modScreen x fun r => { r with resetMark := true }
      | .off => s
      | .idle => s.modScreen x (·.stopMotion.enter .off)
      | .rising => s.modScreen x (·.stopMotion.enter .off)
      | .lowering => s.modScreen x (·.stopMotion.enter .off)
      | .clearing => s.modScreen x (·.stopMotion.enter .off)
      | .homing => s.modScreen x (·.stopMotion.enter .off)
      | .stalled => s.modScreen x (·.stopMotion.enter .off)
      | .inhibited => s.modScreen x (·.stopMotion.enter .off)
  else s

/-! ## Differential and blinding -/

/-- The report of the channel downstream of a screen (R110). -/
def Screens.downstream (c : Screens) : Screen → ChannelReport
  | .a => c.saReport
  | .b => c.sbReport

/-- The differential of a screen: IN level less its downstream level when both are usable VALID (R110). -/
def Screens.difference (c : Screens) (x : Screen) : Option Int :=
  match c.inReport.known, (c.downstream x).known with
  | some i, some d => some (i - d)
  | some _, none => none
  | none, some _ => none
  | none, none => none

/-- BLINDED after a known differential: set at the threshold, cleared at the threshold less the deadband, otherwise
unchanged (R110, log 9). -/
def State.blindedAt (s : State) (d : Int) (was : Bool) : Bool :=
  if s.item 5 1 ≤ d then true
  else if d ≤ s.item 5 1 - s.item 5 2 then false
  else was

/-- SCREEN_BLINDED is active while a screen in use is BLINDED (R110). -/
def State.anyBlinded (s : State) : Bool := Screen.all.any fun x => (s.screen x).inUse && (s.screen x).blinded

/-- A screen's differential and BLINDED worked out from the reports held, and the differential trigger if the report's
sample was accepted (R110, R111). -/
def updateDifferential (accepted : Bool) (x : Screen) (s : State) : State :=
  if (s.screen x).inUse then
    let d := s.screens.difference x
    let was := (s.screen x).blinded
    let now := match d with
      | some v => s.blindedAt v was
      | none => was
    let s := s.modScreen x fun r => { r with differential := d, blinded := now }
    let s := if now = was then s else s.report .screenBlinded s.anyBlinded
    match d with
    | some v => if accepted ∧ s.item 5 0 ≤ v then trigger x s else s
    | none => s
  else s

/-- A channel report taken by the Screen Controller: IN works out both screens, SA and SB their own (R110). Screen A is taken
first, with its report of SCREEN_BLINDED (log 33). -/
def screensReport (c : Channel) (r : ChannelReport) (s : State) : State :=
  match c with
  | .ww => s
  | .inlet =>
    forScreens (updateDifferential r.accepted) { s with screens := { s.screens with inReport := r } }
  | .sa => updateDifferential r.accepted .a { s with screens := { s.screens with saReport := r } }
  | .sb => updateDifferential r.accepted .b { s with screens := { s.screens with sbReport := r } }

/-! ## Inhibits -/

/-- Inhibit on (R119). -/
def inhibitOn (x : Screen) (s : State) : State :=
  s.modScreen x fun r =>
    let r := { r with inhibit := true }
    if r.state = .idle then r.enter .inhibited else r

/-- Inhibit off (R119): a screen in INHIBITED becomes IDLE and answers its pending trigger. -/
def inhibitOff (x : Screen) (s : State) : State :=
  let was := (s.screen x).state
  let s := s.modScreen x fun r => { r with inhibit := false }
  if was = .inhibited then
    let s := s.modScreen x (·.enter .idle)
    if (s.screen x).pending then startTest x s else s
  else s

end Sys2Proof.Machine
end

