-- ==== Sys2Proof/Machine/Pumping.lean ====
section
/-! DEFINITION. The Pump Roster and the Starter Arbiter (chapters 3 and 5): a pump's changes of state, the queue test, the
grant test, the starter's health, lockouts, the cutoff, shedding and loss of supply. -/

namespace Sys2Proof.Machine

/-! ## The Arbiter's own moves -/

/-- The starter is let go: ramp timer stopped, run output off, held pump absent, in a state (R92, R93, R95). -/
def letGo (st : StarterState) (s : State) : State :=
  { s with
    arbiter := { s.arbiter with state := st, held := none, rampTimer := none, runOutput := false } }

/-- Entry to GAP with the gap timer at the inter-start gap (T3 item 8). -/
def enterGap (s : State) : State :=
  let s := letGo .gap s
  { s with arbiter := { s.arbiter with gapTimer := some (seconds (s.itemNat 3 8)) } }

/-- A ramp abort notice naming a pump (R93): it acts while the Arbiter is RAMPING for that pump. -/
def abortRamp (b : Bay) (s : State) : State :=
  if s.arbiter.state = .ramping ∧ s.arbiter.held = some b then screensRamping false (enterGap s) else s

/-- A bay is taken out of the start queue; the bays behind it move up (R90). -/
def dequeue (b : Bay) (s : State) : State :=
  { s with arbiter := { s.arbiter with queue := s.arbiter.queue.erase b } }

/-! ## A pump's change of state -/

/-- A pump record in a new state: the outputs of R45, seconds in state 0 (R48), the four timers stopped (log 12) and
CHANGEOVER_DUE cleared (R54). -/
def PumpRec.enter (st : PumpState) (p : PumpRec) : PumpRec :=
  { p with
    state := st
    starterSelect := st == .starting
    runContactor := st == .running
    secondsInState := 0
    changeoverDue := false
    minRun := none
    minRest := none
    stopConfirm := none
    feedbackLoss := none }

/-- A pump enters a state: the change is handed to the Duty Controller (R70), and a pump leaving QUEUED, STARTING or
RUNNING, or entering IDLE, makes the queue test (R49), before the hand-over (log 29). -/
def enterState (b : Bay) (st : PumpState) (s : State) : State :=
  let was := (s.pump b).state
  if was = st then s
  else
    let s := s.modPump b (·.enter st)
    let s := if was.committed ∨ st = .idle then s.post .queueTest else s
    s.post (.pump b was st)

/-- A pump leaves the start queue or its ramp before it goes elsewhere: withdrawn if QUEUED, its ramp aborted and the
Arbiter told if STARTING (R50, R53). -/
def depart (b : Bay) (s : State) : State :=
  match (s.pump b).state with
  | .queued => dequeue b s
  | .starting => abortRamp b s
  | .absent => s
  | .unavailable => s
  | .idle => s
  | .resting => s
  | .running => s
  | .stopping => s
  | .lockedOut => s

/-- A pump goes to RESTING with the min-rest timer at T3 item 2 (R57). -/
def goResting (b : Bay) (s : State) : State :=
  (enterState b .resting (depart b s)).modPump b fun p => { p with minRest := some (seconds (s.itemNat 3 2)) }

/-- A pump goes to IDLE. -/
def goIdle (b : Bay) (s : State) : State := enterState b .idle (depart b s)

/-- A pump goes to UNAVAILABLE (R46, R56, R65). -/
def goUnavailable (b : Bay) (s : State) : State := enterState b .unavailable (depart b s)

/-- A STOPPING pump's feedback has dropped: RESTING if AUTO and IN_SERVICE, UNAVAILABLE otherwise (R56). -/
def stopConfirmed (b : Bay) (s : State) : State :=
  if (s.pump b).selector = .auto ∧ (s.pump b).inService then goResting b s else goUnavailable b s

/-- A pump goes to STOPPING with the stop-confirm timer at T3 item 4 (R54); a feedback already off counts as dropped at
once (R56). -/
def goStopping (b : Bay) (s : State) : State :=
  let s := (enterState b .stopping (depart b s)).modPump b fun p =>
    { p with stopConfirm := some (seconds (s.itemNat 3 4)) }
  if s.feedback b then s else stopConfirmed b s

/-- The lockout source of a bay (R60). -/
def lockoutSource : Bay → Source
  | .b1 => .pump1Lockout
  | .b2 => .pump2Lockout
  | .b3 => .pump3Lockout
  | .b4 => .pump4Lockout

/-- Entry to LOCKED_OUT with a reason (R60). START_LIMITED cleared here makes no hand-over and no queue test of its own
(log 30). -/
def lockOut (b : Bay) (why : LockoutReason) (s : State) : State :=
  let s := enterState b .lockedOut (depart b s)
  let s := s.modPump b fun p =>
    { p with startLimited := false, resetMark := false, reason := some why, lockouts := satAdd 255 p.lockouts 1 }
  s.report (lockoutSource b) true (some (.lockout why))

/-- A lockout is cleared (R61, R62): the reason becomes absent, the source is reported inactive, and the pump rests, or is
UNAVAILABLE if OUT_OF_SERVICE. The reset mark goes with the lockout (log 13). -/
def releaseLockout (b : Bay) (s : State) : State :=
  let s := (s.modPump b fun p => { p with reason := none, resetMark := false }).report (lockoutSource b) false
  if (s.pump b).inService then goResting b s else goUnavailable b s

/-- START_LIMITED written; a change of it is handed to the Duty Controller (R70), and its clearing makes the queue test
(R48, R49) before the hand-over (log 29). -/
def setStartLimited (b : Bay) (on : Bool) (s : State) : State :=
  if (s.pump b).startLimited = on then s
  else
    let s := s.modPump b fun p => { p with startLimited := on }
    let s := if on then s else s.post .queueTest
    s.post (.roster b)

/-- The judgement of START_LIMITED: set in IDLE with a full window, clear otherwise (R48). -/
def judgeStartLimited (b : Bay) (s : State) : State :=
  let p := s.pump b
  setStartLimited b (p.state == .idle && s.maxStarts ≤ p.window.length) s

/-! ## Queue test and grant test -/

/-- The supply gate and the restart hold let grants through (R91). -/
def Arbiter.gateOpen (a : Arbiter) : Bool := a.gateSupply != .none && !a.gateRestore && a.holdExpired

/-- A grant taken (R51, R91): the pump STARTING, its start counted, the Arbiter RAMPING for it. -/
def takeGrant (b : Bay) (rest : List Bay) (s : State) : State :=
  let s := enterState b .starting s
  let s := s.modPump b fun p =>
    { p with startsTotal := satAdd 4294967295 p.startsTotal 1, window := p.window ++ [⟨s.clock.time, 0⟩] }
  let s := { s with
    arbiter := { s.arbiter with
      state := .ramping, held := some b, queue := rest, rampTimer := some (seconds (s.itemNat 3 7)), runOutput := true } }
  screensRamping true s

/-- A grant declined (R51): the pump is withdrawn and IDLE with START_LIMITED set. -/
def declineGrant (b : Bay) (rest : List Bay) (s : State) : State :=
  let s := { s with arbiter := { s.arbiter with queue := rest } }
  setStartLimited b true (enterState b .idle s)

/-- The grant test over the queue (R91): the head is granted; a decline makes the test again with the new head. -/
def grantFrom : List Bay → State → State
  | [], s => s
  | b :: rest, s =>
    if s.arbiter.state = .idle ∧ s.arbiter.gateOpen then
      if (s.pump b).state = .queued then
        if s.maxStarts ≤ (s.pump b).window.length then grantFrom rest (declineGrant b rest s) else takeGrant b rest s
      else grantFrom rest { s with arbiter := { s.arbiter with queue := rest } }
    else s

/-- The grant test (R91). -/
def grantTest (s : State) : State := grantFrom s.arbiter.queue s

/-- Every condition of the queue test but the start window (R49). -/
def State.mayQueue (s : State) (b : Bay) : Bool :=
  (s.pump b).state == .idle && s.duty.wanted.contains b && !(s.pump b).startLimited &&
  s.roster.restartHold.isNone && !s.duty.cutoff && s.arbiter.state != .faulted && s.committedCount < s.supply.limit

/-- The queue test at one pump (R49): it queues and the grant test follows its join (R90), or its full window sets
START_LIMITED. -/
def queueOne (b : Bay) (s : State) : State :=
  if s.mayQueue b then
    if s.maxStarts ≤ (s.pump b).window.length then setStartLimited b true s
    else
      let s := enterState b .queued s
      grantTest { s with arbiter := { s.arbiter with queue := s.arbiter.queue ++ [b] } }
  else s

/-- The queue test, pumps taken in duty order (R49). -/
def queueTest (s : State) : State := s.duty.order.foldl (fun t b => queueOne b t) s

/-! ## The starter's health (R95 to R97) -/

/-- The health judged from the filtered inputs and the supply gate (R95). -/
def State.judgedHealth (s : State) : StarterHealth :=
  if s.closed .starterFault then .faultInput
  else if !s.closed .starterReady && s.arbiter.gateSupply != .none && !s.arbiter.gateRestore then .notReady
  else .healthy

/-- STARTER_FAULT reported as it stands (R97). -/
def reportStarter (s : State) : State :=
  if s.arbiter.state = .faulted then s.report .starterFault true (some (.health s.arbiter.health))
  else s.report .starterFault false

/-- Entry to FAULTED (R95): the gap timer stopped, a ramp aborted and its pump returned to IDLE (R53). -/
def enterFaulted (s : State) : State :=
  let held := s.arbiter.held
  let ramping := s.arbiter.state == .ramping
  let s := letGo .faulted { s with arbiter := { s.arbiter with gapTimer := none } }
  let s := match held with
    | some b => if (s.pump b).state = .starting then enterState b .idle s else s
    | none => s
  let s := if ramping then screensRamping false s else s
  reportStarter s

/-- Departure from FAULTED (R96): GAP with a full gap, or IDLE with the supply NONE; handed to the Roster, whose queue
test follows. -/
def leaveFaulted (s : State) : State :=
  let s := if s.arbiter.gateSupply = .none then letGo .idle s else enterGap s
  (reportStarter s).post .queueTest

/-- The starter health judged anew (R95, R96, R97). -/
def judgeStarter (s : State) : State :=
  let was := s.arbiter.health
  let now := s.judgedHealth
  let s := { s with arbiter := { s.arbiter with health := now } }
  if was = now then s
  else if was = .healthy then enterFaulted s
  else if now = .healthy then leaveFaulted s
  else reportStarter s

/-- The supply gate handed to the Arbiter, which judges the health and makes the grant test (R91, R95, R99, log 10). -/
def arbiterGate (st : SupplyState) (restore : Bool) (s : State) : State :=
  grantTest (judgeStarter { s with arbiter := { s.arbiter with gateSupply := st, gateRestore := restore } })

/-- The Supply Monitor's entry to NONE at the Arbiter (R102): outputs off, timers stopped, queue emptied, IDLE, or FAULTED
while the fault input is active. The departure from RAMPING is handed to the Screen Controller here, before its own entry to
NONE (log 31). -/
def arbiterLosesSupply (s : State) : State :=
  let ramping := s.arbiter.state == .ramping
  let faulted := s.arbiter.state == .faulted
  let fault := s.closed .starterFault
  let s := letGo (if fault then .faulted else .idle) s
  let s := { s with
    arbiter := { s.arbiter with
      gapTimer := none, queue := [], gateSupply := .none, gateRestore := false,
      health := if fault then .faultInput else .healthy } }
  let s := if ramping then screensRamping false s else s
  let s := if faulted || fault then reportStarter s else s
  if faulted && !fault then s.post .queueTest else s

/-! ## Contacts of a bay (R46, R47, R55 to R57, R60, R61, R63) -/

/-- A pump leaves UNAVAILABLE by its contacts as they stand (R47). -/
def leaveUnavailable (b : Bay) (s : State) : State :=
  if s.overloadTripped b then lockOut b .overload s
  else if s.feedback b then goStopping b s
  else goIdle b s

/-- The forced mode written; a change of it is handed to the Duty Controller (R46, R64). -/
def setForced (b : Bay) (f : Forced) (s : State) : State :=
  let was := (s.pump b).forced
  if was = f then s else (s.modPump b fun p => { p with forced := f }).post (.forced b was f)

/-- A change of whether a bay runs in HAND is handed to the Duty Controller (R46). -/
def handChange (b : Bay) (was : Bool) (s : State) : State :=
  if s.runsInHand b = was ∨ (s.pump b).state = .absent then s else s.post (.hand b)

/-- The effect of a selector leaving AUTO, by state (R46). -/
def selectorOffAuto (b : Bay) (pos : Selector) (s : State) : State :=
  match (s.pump b).state with
  | .absent => s
  | .unavailable => s
  | .lockedOut => if pos = .off then s.modPump b fun p => { p with resetMark := true } else s
  | .idle => goUnavailable b s
  | .resting => goUnavailable b s
  | .queued => goUnavailable b s
  | .starting => goUnavailable b s
  | .running => goUnavailable b s
  | .stopping => goUnavailable b s

/-- The effect of a selector coming to AUTO, by state (R46, R61). -/
def selectorToAuto (b : Bay) (s : State) : State :=
  let p := s.pump b
  match p.state with
  | .unavailable => if p.inService then leaveUnavailable b s else s
  | .lockedOut =>
    if p.resetMark then
      if s.overloadTripped b then s.modPump b fun p => { p with resetMark := false } else releaseLockout b s
    else s
  | .absent => s
  | .idle => s
  | .resting => s
  | .queued => s
  | .starting => s
  | .running => s
  | .stopping => s

/-- A change of a bay's filtered selector position (R46). `wasHand` is whether the bay ran in HAND before it. The hand-overs
are posted in the order of log 28: forced mode, state, selector, running in HAND. -/
def selectorChange (b : Bay) (pos : Selector) (s : State) : State :=
  let wasHand := s.runsInHand b
  let s := s.modPump b fun p => { p with selector := pos }
  if (s.pump b).state = .absent then s
  else
    let s := if pos = .auto then s else setForced b .none s
    let s := if pos = .auto then selectorToAuto b s else selectorOffAuto b pos s
    handChange b wasHand (s.post (.roster b))

/-- A change of a bay's run feedback, the contact unit's filtered state already written (R55, R56, R57). A change of state is
posted before a change of running in HAND (log 28). -/
def feedbackChange (b : Bay) (on : Bool) (s : State) : State :=
  let p := s.pump b
  let s :=
    if on then
      match p.state with
      | .idle => lockOut b .failToStop s
      | .queued => lockOut b .failToStop s
      | .resting => lockOut b .failToStop s
      | .running => s.modPump b fun p => { p with feedbackLoss := none }
      | .absent => s
      | .unavailable => s
      | .starting => s
      | .stopping => s
      | .lockedOut => s
    else
      match p.state with
      | .running => s.modPump b fun p => { p with feedbackLoss := some 2000 }
      | .stopping => stopConfirmed b s
      | .absent => s
      | .unavailable => s
      | .idle => s
      | .resting => s
      | .queued => s
      | .starting => s
      | .lockedOut => s
  handChange b (p.selector == .hand && !on) s

/-- An overload trip of a bay (R60): a lockout, a change of reason in LOCKED_OUT, nothing in ABSENT and UNAVAILABLE. -/
def overloadTrip (b : Bay) (s : State) : State :=
  match (s.pump b).state with
  | .absent => s
  | .unavailable => s
  | .lockedOut =>
    (s.modPump b fun p => { p with reason := some .overload }).report (lockoutSource b) true (some (.lockout .overload))
  | .idle => lockOut b .overload s
  | .resting => lockOut b .overload s
  | .queued => lockOut b .overload s
  | .starting => lockOut b .overload s
  | .running => lockOut b .overload s
  | .stopping => lockOut b .overload s

/-- PUMP_SEAL is active while any installed pump is DEGRADED (R63). -/
def State.anyDegraded (s : State) : Bool :=
  Bay.all.any fun b => (s.pump b).state != .absent && (s.pump b).degraded

/-- A change of a bay's seal leak input (R63): DEGRADED follows it, handed to the Duty Controller. -/
def sealChange (b : Bay) (leak : Bool) (s : State) : State :=
  if (s.pump b).state = .absent ∨ (s.pump b).degraded = leak then s
  else
    let s := s.modPump b fun p => { p with degraded := leak }
    (s.report .pumpSeal s.anyDegraded).post (.degraded b)

/-! ## The Duty Controller's hand-over, the cutoff, shedding and loss of supply -/

/-- A wanted set without the pump reaches it, by state (R50, R53, R54). -/
def unwanted (b : Bay) (s : State) : State :=
  match (s.pump b).state with
  | .queued => goIdle b s
  | .starting => goResting b s
  | .running => if (s.pump b).minRun.isNone then goStopping b s else s
  | .absent => s
  | .unavailable => s
  | .idle => s
  | .resting => s
  | .stopping => s
  | .lockedOut => s

/-- A changeover stop order: the pump stops whatever its min run (R54, R83). -/
def changeoverStop (b : Bay) (s : State) : State :=
  if (s.pump b).state = .running then goStopping b s else s

/-- The wanted set and the changeover stop orders taken by the Roster: the stop decisions and then the queue test
(R83). -/
def takeWanted (counted uncounted stops : List Bay) (s : State) : State :=
  let s := { s with duty := { s.duty with counted := counted, uncounted := uncounted } }
  let s := forBays (fun b s => if stops.contains b then changeoverStop b s else s) s
  queueTest (forBays (fun b s => if s.duty.wanted.contains b then s else unwanted b s) s)

/-- The dry-run cutoff comes into force at one pump (R58). -/
def cutoffPump (b : Bay) (s : State) : State :=
  match (s.pump b).state with
  | .starting => goResting b s
  | .running => goResting b s
  | .queued => goIdle b s
  | .absent => s
  | .unavailable => s
  | .idle => s
  | .resting => s
  | .stopping => s
  | .lockedOut => s

/-- A shed naming a pump (R59, R101). -/
def shedPump (b : Bay) (s : State) : State :=
  match (s.pump b).state with
  | .starting => goResting b s
  | .running => goResting b s
  | .absent => s
  | .unavailable => s
  | .idle => s
  | .resting => s
  | .queued => s
  | .stopping => s
  | .lockedOut => s

/-- Entry to NONE at one pump: QUEUED to IDLE; STARTING, RUNNING and STOPPING to RESTING, no feedback fault, the Arbiter
told by the Supply Monitor and not by the Roster (R59, R102). -/
def losePump (b : Bay) (s : State) : State :=
  let rest (s : State) : State :=
    (enterState b .resting s).modPump b fun p => { p with minRest := some (seconds (s.itemNat 3 2)) }
  match (s.pump b).state with
  | .queued => enterState b .idle s
  | .starting => rest s
  | .running => rest s
  | .stopping => rest s
  | .absent => s
  | .unavailable => s
  | .idle => s
  | .resting => s
  | .lockedOut => s

/-- The latest pump in the duty order that a test holds of (R59, R101). -/
def State.latestOnDuty (s : State) (test : PumpRec → Bool) : Option Bay :=
  s.duty.order.reverse.find? fun b => test (s.pump b)

/-- Pumps are shed until the outputs on are within the running limit, at most one for each bay (R101). -/
def shedToLimit : Nat → State → State
  | 0, s => s
  | n + 1, s =>
    if s.supply.limit < s.outputCount then
      match s.latestOnDuty PumpRec.outputOn with
      | some b => shedToLimit n (shedPump b s)
      | none => s
    else s

/-- QUEUED pumps in excess of a fallen limit are withdrawn, the latest in the duty order first (R59). -/
def withdrawExcess : Nat → State → State
  | 0, s => s
  | n + 1, s =>
    if s.supply.limit < s.committedCount then
      match s.latestOnDuty fun p => p.state == .queued with
      | some b => withdrawExcess n (goIdle b s)
      | none => s
    else s

end Sys2Proof.Machine
end

