-- ==== Sys2Proof/Machine/DutyControl.lean ====
section
/-! DEFINITION. The Duty Controller (chapter 4): one evaluation, from the event's own effect to the hand-over, and the
settling of a step: notices are taken one by one until none is left (R70, R83, log 5). -/

namespace Sys2Proof.Machine

/-! ## Duty order -/

/-- Whether a pump of the duty order is DEGRADED. -/
def State.isDegraded (s : State) (b : Bay) : Bool := (s.pump b).degraded

/-- Sound pumps first and then DEGRADED ones, the order kept within each class (R77). -/
def State.inClasses (s : State) (order : List Bay) : List Bay :=
  (order.filter fun b => !s.isDegraded b) ++ order.filter fun b => s.isDegraded b

/-- A pump takes the tail of its class (R77, R78, R79, R84). -/
def State.toTail (s : State) (b : Bay) (order : List Bay) : List Bay := s.inClasses (order.erase b ++ [b])

/-- The duty order written. -/
def State.setOrder (s : State) (order : List Bay) : State := { s with duty := { s.duty with order := order } }

/-- Membership brought up to date at a change of pump state (R77). -/
def updateMembership (b : Bay) (was now : PumpState) (s : State) : State :=
  if now.onDuty then
    if was.onDuty then s else s.setOrder (s.toTail b s.duty.order)
  else s.setOrder (s.duty.order.erase b)

/-- A DEGRADED change takes the pump out of its place in the duty order, to the tail of its new class (R78). -/
def reclass (b : Bay) (s : State) : State :=
  if s.duty.order.contains b then s.setOrder (s.toTail b s.duty.order) else s

/-! ## Changeover -/

/-- A bay's changeover timer written. -/
def setChangeover (b : Bay) (t : Timer) (s : State) : State :=
  { s with duty := { s.duty with changeoverTimer := s.duty.changeoverTimer.put b t } }

/-- A bay's replacement mark written. -/
def setReplaced (b : Bay) (on : Bool) (s : State) : State :=
  { s with duty := { s.duty with replaced := s.duty.replaced.put b on } }

/-- CHANGEOVER_DUE written in the Roster's record (R84, R85). -/
def setDue (b : Bay) (on : Bool) (s : State) : State := s.modPump b fun p => { p with changeoverDue := on }

/-- A pump entering RUNNING (R84, R85): its changeover timer is started, and, if it is a counted member of the set last
handed, a replacement mark is set on every pump with CHANGEOVER_DUE. -/
def enteredRunning (b : Bay) (s : State) : State :=
  let s := if (s.pump b).forced = .run then s else setChangeover b s.changeoverStart s
  if s.duty.counted.contains b then
    forBays (fun c s => if (s.pump c).changeoverDue then setReplaced c true s else s) s
  else s

/-- A pump leaving RUNNING: its changeover timer stopped and its replacement mark cleared (R86). -/
def leftRunning (b : Bay) (s : State) : State := setReplaced b false (setChangeover b none s)

/-- A change of forced mode of a RUNNING pump (R86). -/
def forcedChanged (b : Bay) (was now : Forced) (s : State) : State :=
  if (s.pump b).state = .running then
    if now = .run then setReplaced b false (setChangeover b none (setDue b false s))
    else if was = .run ∧ now = .none then setChangeover b s.changeoverStart s
    else s
  else s

/-! ## Stage 1: the event's own effect (R70) -/

/-- What an event does to the controller's state before the evaluation. -/
def ownEffect (n : Notice) (s : State) : State :=
  match n with
  | .queueTest => s
  | .wwReport r => { s with duty := { s.duty with report := r } }
  | .hf covered => { s with duty := { s.duty with hfCovered := covered } }
  | .lf covered => { s with duty := { s.duty with lfCovered := covered, cutoff := !covered } }
  | .allOut on => { s with duty := { s.duty with allOut := on } }
  | .storm st => { s with duty := { s.duty with storm := st } }
  | .limit k => { s with duty := { s.duty with limit := k } }
  | .changeover b =>
    let s := setChangeover b none s
    if (s.pump b).state = .running then
      let s := setReplaced b false (setDue b true s)
      s.setOrder (s.toTail b s.duty.order)
    else s
  | .pump b was now =>
    let s := updateMembership b was now s
    let s := if was = .running then leftRunning b s else s
    if now = .running then enteredRunning b s else if now.onDuty then s else leftRunning b s
  | .forced b was now => forcedChanged b was now s
  | .lapse was => forBays (fun b s => forcedChanged b (was.get b) .none s) s
  | .degraded b => reclass b s
  | .hand _ => { s with duty := { s.duty with handCount := s.handRunning } }
  | .roster _ => s
  | .restart => s

/-! ## Stages 2 and 3: the stage and its overrides -/

/-- Start level Sk of the active profile, k from 1 (R71). -/
def State.startLevel (s : State) (k : Nat) : Int :=
  match s.duty.profile with
  | .normal => s.item 4 (k - 1)
  | .storm => s.item 4 (8 + (k - 1))

/-- Stop level Pk of the active profile, k from 1 (R71). -/
def State.stopLevel (s : State) (k : Nat) : Int :=
  match s.duty.profile with
  | .normal => s.item 4 (4 + (k - 1))
  | .storm => s.item 4 (12 + (k - 1))

/-- The stage climbs while the level is at or above the next start level (R72), at most once for each stage. -/
def climb (start : Nat → Int) (level : Int) : Nat → Nat → Nat
  | 0, d => d
  | n + 1, d => if d < 4 ∧ start (d + 1) ≤ level then climb start level n (d + 1) else d

/-- The stage falls while the level is at or below its own stop level (R72). -/
def fall (stop : Nat → Int) (level : Int) : Nat → Nat
  | 0 => 0
  | d + 1 => if level ≤ stop (d + 1) then fall stop level d else d + 1

/-- The stage after a level step: raised, or, if not raised at all, lowered (R72). -/
def stepStage (start stop : Nat → Int) (level : Int) (d : Nat) : Nat :=
  let up := climb start level 4 d
  if up = d then fall stop level d else up

/-- The profile a storm state chooses (R38, R72). -/
def profileOf : StormState → Profile
  | .storm => .storm
  | .dry => .normal
  | .wet => .normal

/-- The level step of a WW report that was accepted with usable validity VALID (R72); none otherwise (R76). -/
def levelStep (r : ChannelReport) (s : State) : State :=
  match r.known with
  | none => s
  | some level =>
    if r.accepted then
      let s := { s with duty := { s.duty with profile := profileOf s.duty.storm } }
      { s with duty := { s.duty with stage := stepStage s.startLevel s.stopLevel level s.duty.stage } }
    else s

/-- The overrides of the stage, each later one prevailing (R73). -/
def overrideStage (d : Duty) : Nat :=
  if !d.lfCovered then 0 else if d.allOut then 4 else if d.hfCovered then 4 else d.stage

/-- Rotation pending brought up to date from the stage at the start of the evaluation (R79). -/
def rotationDue (before : Nat) (d : Duty) : Bool :=
  if 0 < d.stage then false else if 0 < before then true else d.rotationPending

/-! ## Stage 4: the rotation test -/

/-- The rotation test (R79): the head of the duty order goes to the tail of its own class. -/
def rotate (s : State) : State :=
  if s.duty.rotationPending ∧ s.duty.stage = 0 ∧
      s.duty.order.all (fun b => (s.pump b).state != .starting && (s.pump b).state != .running) then
    let s := { s with duty := { s.duty with rotationPending := false } }
    match s.duty.order with
    | [] => s
    | b :: _ => s.setOrder (s.toTail b s.duty.order)
  else s

/-! ## Stage 5: the wanted set -/

/-- The AUTO allowance (R80). -/
def Duty.allowance (d : Duty) : Nat := d.limit - d.handCount

/-- The target (R80). -/
def Duty.target (d : Duty) : Nat := min d.stage d.allowance

/-- Pumps of a list that pass a test join the members while these number fewer than a bound (R81, R82). -/
def joinWhile (bound : Nat) (test : Bay → Bool) (order members : List Bay) : List Bay :=
  order.foldl (fun m b => if test b && m.length < bound then m ++ [b] else m) members

/-- Step 1 of R81: the forced RUN pumps within the allowance (R82). -/
def State.forcedMembers (s : State) : List Bay :=
  joinWhile s.duty.allowance (fun b => (s.pump b).forced == .run) s.duty.order []

/-- Step 2 of R81: the pumps already committed to running. -/
def State.firstWalk (s : State) (members : List Bay) : List Bay :=
  joinWhile s.duty.target
    (fun b => (s.pump b).state.committed && (s.pump b).forced == .none && !(s.pump b).changeoverDue)
    s.duty.order members

/-- Step 3 of R81: fresh pumps in turn. -/
def State.secondWalk (s : State) (members : List Bay) : List Bay :=
  joinWhile s.duty.target
    (fun b => (s.pump b).state == .idle && !(s.pump b).startLimited && (s.pump b).forced == .none)
    s.duty.order members

/-- The wanted set being built: counted and uncounted members, changeover stops, and pumps whose flag case (d) of R85
drops. -/
structure Wanted where
  counted : List Bay
  uncounted : List Bay
  stops : List Bay
  drops : List Bay
deriving DecidableEq, Repr

/-- One pump with CHANGEOVER_DUE settled by the first case of R85 it falls into. -/
def State.settleDue (s : State) (w : Wanted) (b : Bay) : Wanted :=
  if (s.pump b).changeoverDue then
    match (s.pump b).forced with
    | .run => w
    | .stop => { w with drops := w.drops ++ [b] }
    | .none =>
      if w.counted.length < s.duty.target then { w with counted := w.counted ++ [b] }
      else if w.uncounted.length < (w.counted.filter fun c => (s.pump c).state != .running).length then
        { w with uncounted := w.uncounted ++ [b] }
      else if s.duty.replaced.get b ∧ 0 < s.duty.target then { w with stops := w.stops ++ [b] }
      else { w with drops := w.drops ++ [b] }
  else w

/-- The wanted set of an evaluation: empty while the cutoff is in force, otherwise by the steps of R81. -/
def State.wantedSet (s : State) : Wanted :=
  if s.duty.cutoff then ⟨[], [], [], []⟩
  else
    let counted := s.secondWalk (s.firstWalk s.forcedMembers)
    s.duty.order.foldl s.settleDue ⟨counted, [], [], []⟩

/-- Case (d) of R85: the flag cleared by the controller and the changeover timer restarted at full length. -/
def dropDue (b : Bay) (s : State) : State := setChangeover b s.changeoverStart (setDue b false s)

/-! ## Stage 6: the hand-over -/

/-- The cutoff notices that come before the wanted set (R75, R83, R88): in force at LF dry or at a restart with LF dry,
lifted at LF covered. -/
def cutoffNotice (n : Notice) (s : State) : State :=
  match n with
  | .lf covered => if covered then queueTest s else forBays cutoffPump s
  | .restart => if s.duty.cutoff then forBays cutoffPump s else s
  | .queueTest => s
  | .wwReport _ => s
  | .hf _ => s
  | .allOut _ => s
  | .storm _ => s
  | .limit _ => s
  | .changeover _ => s
  | .pump _ _ _ => s
  | .forced _ _ _ => s
  | .lapse _ => s
  | .degraded _ => s
  | .hand _ => s
  | .roster _ => s

/-- Stages 5 and 6: the wanted set built and handed to the Roster with its changeover stops (R81, R83, R85). -/
def handOver (n : Notice) (s : State) : State :=
  let w := s.wantedSet
  let s := w.drops.foldl (fun t b => dropDue b t) s
  takeWanted w.counted w.uncounted w.stops (cutoffNotice n s)

/-- Stages 2 and 3: the level step of a WW report, the overrides, and rotation pending (R72, R73, R79). -/
def settleStage (n : Notice) (before : Nat) (s : State) : State :=
  let s := match n with
    | .wwReport r => levelStep r s
    | .queueTest => s
    | .hf _ => s
    | .lf _ => s
    | .allOut _ => s
    | .storm _ => s
    | .limit _ => s
    | .changeover _ => s
    | .pump _ _ _ => s
    | .forced _ _ _ => s
    | .lapse _ => s
    | .degraded _ => s
    | .hand _ => s
    | .roster _ => s
    | .restart => s
  let s := { s with duty := { s.duty with stage := overrideStage s.duty } }
  { s with duty := { s.duty with rotationPending := rotationDue before s.duty } }

/-- One evaluation (R70). -/
def evaluate (n : Notice) (s : State) : State :=
  handOver n (rotate (settleStage n s.duty.stage (ownEffect n s)))

/-- One notice taken: the Roster's queue test, or an evaluation of the Duty Controller. -/
def deliver (n : Notice) (s : State) : State :=
  if n = .queueTest then queueTest s else evaluate n s

/-- Notices are taken in order until none is left, at most as many as the bound (R83, log 5). -/
def settleWithin : Nat → State → State
  | 0, s => s
  | k + 1, s =>
    match s.inbox with
    | [] => s
    | n :: rest => settleWithin k (deliver n { s with inbox := rest })

/-- The bound on the notices of one step (log 5). -/
def settleBound : Nat := 1024

/-- The end of a step: every notice handed on in it is taken (R83). -/
def settle (s : State) : State := settleWithin settleBound s

end Sys2Proof.Machine
end

