-- ==== Sys2Proof/Machine/SupplyControl.lean ====
section
/-! DEFINITION. The Supply Monitor (chapter 5): the supply state, the running limit and its sheds, the restore timer and
the hand-overs of a change. -/

namespace Sys2Proof.Machine

/-- The supply state two inputs give (R98). -/
def supplyOf (mains generator : Bool) : SupplyState :=
  if mains then .mains else if generator then .generator else .none

/-- The running limit of a supply state (R100). -/
def State.limitOf (s : State) : SupplyState → Nat
  | .mains => s.itemNat 3 10
  | .generator => s.itemNat 3 11
  | .none => 0

/-- The running limit recomputed (R100, R101): at a change the shed notices, then the limit change at the Roster, whose
queue test follows a rise and whose excess is withdrawn at a fall (R59). -/
def recomputeLimit (s : State) : State :=
  let old := s.supply.limit
  let new := s.limitOf s.supply.state
  let s := { s with supply := { s.supply with limit := new } }
  if new = old then s
  else
    let s := shedToLimit 4 s
    if old < new then s.post .queueTest else withdrawExcess 4 s

/-- The entry to NONE handed to the Roster, the Arbiter and the Screen Controller, in that order (R59, R102, R117), with all
that each hands on: the Arbiter's departure from RAMPING reaches the Screen Controller first (log 31). -/
def enterNone (s : State) : State :=
  let s := { s with supply := { s.supply with limit := 0, restoreTimer := none } }
  screensLoseSupply (arbiterLosesSupply (forBays losePump s))

/-- The restore timer at a change of supply state (R103). -/
def restoreAfter (old new : SupplyState) (delay : Nat) (t : Timer) : Timer :=
  match old, new with
  | _, .none => none
  | .none, .mains => startTimer delay
  | .none, .generator => startTimer delay
  | .generator, .mains => startTimer delay
  | .mains, .generator => if t.isSome then startTimer delay else none
  | .mains, .mains => t
  | .generator, .generator => t

/-- A change of supply state, in the order of R99; at its step 4 the Arbiter goes before the Screen Controller (log 31). A
restore delay of 0 has expired before that step, which then hands over a gate with no restore timer running, once (R103,
log 35). -/
def changeSupply (new : SupplyState) (s : State) : State :=
  let old := s.supply.state
  let s := { s with supply := { s.supply with state := new } }
  let s := if new = .none then enterNone s else recomputeLimit s
  let s := { s with
    supply := { s.supply with restoreTimer := restoreAfter old new (s.itemNat 3 9) s.supply.restoreTimer } }
  let s := arbiterGate new s.supply.restoreTimer.isSome s
  let s := if new = .none then s else screensGainSupply new s
  let s := s.post (.limit s.supply.limit)
  s.report .supplyNone (new == .none)

/-- The supply state decided anew after a change of either input (R98). -/
def decideSupply (s : State) : State :=
  let new := supplyOf s.supply.mains s.supply.generator
  if new = s.supply.state then s else changeSupply new s

/-- A change of the mains-present input (R98, R104). -/
def mainsChange (present : Bool) (s : State) : State :=
  decideSupply ({ s with supply := { s.supply with mains := present } }.report .mainsFail (!present))

/-- A change of the generator-running input (R98). -/
def generatorChange (running : Bool) (s : State) : State :=
  decideSupply { s with supply := { s.supply with generator := running } }

/-- The restore timer's expiry (R103): the Arbiter judges the starter health and makes the grant test. -/
def restoreExpired (s : State) : State :=
  let s := { s with supply := { s.supply with restoreTimer := none } }
  arbiterGate s.arbiter.gateSupply false s

/-- A write of a supply limit (R100): a change of the limit in force is handed to the Duty Controller too. -/
def limitWritten (s : State) : State :=
  let t := recomputeLimit s
  if t.supply.limit = s.supply.limit then t else t.post (.limit t.supply.limit)

end Sys2Proof.Machine
end

