-- ==== Sys2Proof/Machine/RainEpisodes.lean ====
section
/-! DEFINITION. The Rainfall Unit, the Episode Table and the Spill Meter (chapters 2, 7 and 8): storm state, episodes and
the second of a spill. -/

namespace Sys2Proof.Machine

/-! ## Storm state (R33 to R38) -/

/-- A storm state written; a change is handed to the Duty Controller and the Screen Controller (R38). -/
def setStorm (st : StormState) (s : State) : State :=
  if s.rain.storm = st then s
  else screensStorm st ({ s with rain := { s.rain with storm := st } }.post (.storm st))

/-- Entry to STORM with the quiet count at 0 (R33, R34). -/
def enterStorm (s : State) : State := setStorm .storm { s with rain := { s.rain with quiet := 0 } }

/-- The storm hold is satisfied when the quiet count exceeds the storm hold in minutes (R35). The working copy is read at
every exit test, so a written hold already counts at an episode-ended notice (R41 does not say; log 27). -/
def State.holdSatisfied (s : State) : Bool := s.itemNat 2 4 < s.rain.quiet

/-- The exit test of R36, made in STORM. -/
def stormExit (s : State) : State :=
  if s.rain.storm = .storm ∧ s.holdSatisfied ∧ s.rain.episodeFlag = false then
    setStorm (if s.rain.dryTimer.isSome then .wet else .dry) s
  else s

/-- The episode-opened notice at the Rainfall Unit (R34). -/
def episodeOpened (s : State) : State :=
  let s := { s with rain := { s.rain with episodeFlag := true } }
  if s.rain.storm = .storm then s else enterStorm s

/-- The episode-ended notice at the Rainfall Unit (R34, R36). -/
def episodeEnded (s : State) : State :=
  stormExit { s with rain := { s.rain with episodeFlag := false } }

/-- The intensity from the newest N closed bins (R32). -/
def intensityOf (bins : List Nat) (n depth : Nat) : Nat :=
  min 65535 ((bins.drop (bins.length - n)).sum * depth * 60 / n)

/-- The bin close (R31): the open bin joins as the newest, the oldest is dropped, the intensity is recomputed. -/
def Rain.closeBin (r : Rain) (n depth : Nat) : Rain :=
  let bins := (r.closedBins ++ [r.openBin]).drop 1
  { r with closedBins := bins, openBin := 0, intensity := intensityOf bins n depth, minuteTimer := some 60000 }

/-- The storm state judged anew on the new intensity (R33, R35, R36). -/
def judgeStorm (s : State) : State :=
  match s.rain.storm with
  | .dry => s
  | .wet => if s.itemNat 2 2 ≤ s.rain.intensity then enterStorm s else s
  | .storm =>
    stormExit { s with
      rain := { s.rain with
        quiet := if s.rain.intensity < s.itemNat 2 3 then satAdd 255 s.rain.quiet 1 else 0 } }

/-! ## Receiving records (R134 to R136) -/

/-- Volume added by the carrying rule: whole litres, the remainder in tenths, saturating with VOLUME_SATURATED (R134). A
record with that flag takes no further volume. -/
def Tally.addVolume (litres tenths : Nat) (t : Tally) : Tally :=
  if t.flags.volumeSaturated then t
  else
    let whole := t.litres + litres + (t.rem + tenths) / 10
    if 4294967295 < whole then
      { t with litres := 4294967295, rem := 0, flags := { t.flags with volumeSaturated := true } }
    else { t with litres := whole, rem := (t.rem + tenths) % 10 }

/-- Peak flow raised by a greater flow, with its time (R135). -/
def Tally.raiseFlow (flow time : Nat) (t : Tally) : Tally :=
  if t.peakFlow < flow then { t with peakFlow := flow, peakTime := time } else t

/-- Peak head raised by a greater head (R135). -/
def Tally.raiseHead (head : Int) (t : Tally) : Tally := if t.peakHead < head then { t with peakHead := head } else t

/-- One counted tip (R145). -/
def Tally.addTip (t : Tally) : Tally := { t with tips := satAdd 65535 t.tips 1 }

/-- Flags added (R145). -/
def Tally.addFlags (f : RecordFlags) (t : Tally) : Tally := { t with flags := t.flags.union f }

/-- What the Spill Meter hands the Episode Table at an integration (R133). -/
structure SpillSecond where
  before : Bool
  now : Bool
  flow : Nat
  head : Option Int
  marks : RecordFlags
deriving DecidableEq, Repr

/-- A BEGAN or CONTINUING second added to its receiving record: marks, tags, volume, spill seconds and peaks (R134, R135,
R144, R145). -/
def Tally.addSecond (r : SpillSecond) (tags : Causes) (time : Nat) (t : Tally) : Tally :=
  let t := { t.addFlags r.marks with causes := t.causes.union tags }
  let t := Tally.raiseFlow r.flow time (t.addVolume 0 r.flow)
  let t := { t with seconds := satAdd 4294967295 t.seconds 1 }
  match r.head with
  | some h => t.raiseHead h
  | none => t

/-! ## Episode Table (chapter 8) -/

/-- The slot numbers in order. -/
def slotNumbers : List (Fin 16) := [0, 1, 2, 3, 4, 5, 6, 7, 8, 9, 10, 11, 12, 13, 14, 15]

/-- The Episode Table's state written, ATTN_EPISODE judged anew (R155). -/
def State.setEpisodes (s : State) (t : EpisodeTable) : State := { s with episodes := { t with attn := episodeAttn t } }

/-- A slot written. -/
def EpisodeTable.setSlot (t : EpisodeTable) (i : Fin 16) (e : Option Episode) : EpisodeTable :=
  { t with slots := t.slots.set i e i.isLt }

/-- The lowest-numbered FREE slot (R147). -/
def EpisodeTable.lowestFree (t : EpisodeTable) : Option (Fin 16) :=
  slotNumbers.find? fun i => (t.slots.get i).isNone

/-- Whether all sixteen slots are occupied (R155). -/
def EpisodeTable.full (t : EpisodeTable) : Bool := t.lowestFree.isNone

/-- The number of occupied slots (R156). -/
def EpisodeTable.occupied (t : EpisodeTable) : Nat := (slotNumbers.filter fun i => (t.slots.get i).isSome).length

/-- The state of the episode in progress, if there is one (R140). -/
def EpisodeTable.progressState (t : EpisodeTable) : Option EpisodeState :=
  match t.inProgress with
  | .none => none
  | .slot i => (t.slots.get i).map (·.state)
  | .accumulator => t.acc.current.map fun p => if p.closing then .closing else .opened

/-- Whether the episode in progress is OPEN (R74, R155). -/
def EpisodeTable.isOpen (t : EpisodeTable) : Bool := t.progressState == some .opened

/-- The serial of the episode in progress: its slot's, or the last taken by the accumulator (R149, R155). -/
def EpisodeTable.progressSerial (t : EpisodeTable) : Nat :=
  match t.inProgress with
  | .none => 0
  | .slot i => match t.slots.get i with
    | some e => e.serial
    | none => 0
  | .accumulator => t.acc.lastSerial

/-- OVERFLOW_ACTIVE reported as it stands (R155). -/
def reportOverflow (s : State) : State :=
  if s.episodes.isOpen then s.report .overflowActive true (some (.serial s.episodes.progressSerial))
  else s.report .overflowActive false

/-- EPISODE_TABLE_FULL reported as it stands (R155). -/
def reportFull (s : State) : State := s.report .episodeTableFull s.episodes.full

/-- The totals of the episode in progress changed, in its slot or in the accumulator. -/
def EpisodeTable.modProgress (t : EpisodeTable) (f : Tally → Tally) : EpisodeTable :=
  match t.inProgress with
  | .none => t
  | .slot i => t.setSlot i ((t.slots.get i).map fun e => { e with tally := f e.tally })
  | .accumulator => { t with acc := { t.acc with tally := f t.acc.tally } }

/-- The pending accumulation's totals changed, if it is present (R136). -/
def State.modPending (s : State) (f : Tally → Tally) : State :=
  { s with
    spill := { s.spill with
      accumulation := s.spill.accumulation.map fun a => { a with tally := f a.tally } } }

/-- The totals of the episode in progress changed. -/
def State.modProgress (s : State) (f : Tally → Tally) : State := s.setEpisodes (s.episodes.modProgress f)

/-- A counted tip at the Episode Table (R145). -/
def episodeTip (s : State) : State :=
  if s.episodes.qualifying then s.modPending Tally.addTip else s.modProgress Tally.addTip

/-- Qualification begins (R146): the pending accumulation, qualifying, the qualify timer; CLOCK_UNSET if the clock is not
set (R145). -/
def beginQualification (s : State) : State :=
  let tally := (Tally.begin s.clock.time).addFlags { RecordFlags.empty with clockUnset := !s.clock.isSet }
  let s := { s with spill := { s.spill with accumulation := some ⟨s.clock.time, tally⟩ } }
  { s with
    episodes := { s.episodes with qualifying := true, qualifyTimer := some (seconds (s.itemNat 6 36)) } }

/-- Qualification discarded (R146). -/
def discardQualification (s : State) : State :=
  let s := { s with spill := { s.spill with accumulation := none } }
  { s with episodes := { s.episodes with qualifying := false, qualifyTimer := none } }

/-- The episode in progress becomes CLOSED (R152), the notice aside. -/
def EpisodeTable.settled (t : EpisodeTable) : EpisodeTable :=
  let t := { t with mergeTimer := none }
  match t.inProgress with
  | .none => t
  | .slot i =>
    { t.setSlot i ((t.slots.get i).map fun e => { e with state := .closed }) with inProgress := .none }
  | .accumulator =>
    let last := match t.acc.current with
      | some p => p.finish.getD t.acc.latest
      | none => t.acc.latest
    { t with acc := { t.acc with latest := last, current := none }, inProgress := .none }

/-- Settlement (R152): the episode-ended notice goes to the Rainfall Unit. -/
def settleEpisode (s : State) : State := episodeEnded (s.setEpisodes s.episodes.settled)

/-- The end time of the episode in progress and its state CLOSING or OPEN (R150, R151). -/
def EpisodeTable.setProgress (t : EpisodeTable) (closing : Bool) (finish : Option Nat) : EpisodeTable :=
  match t.inProgress with
  | .none => t
  | .slot i =>
    t.setSlot i ((t.slots.get i).map fun e =>
      { e with state := if closing then .closing else .opened, finish := finish })
  | .accumulator =>
    { t with acc := { t.acc with
        current := t.acc.current.map fun p => { p with closing := closing, finish := finish } } }

/-- An ENDED second closes the OPEN episode (R150), settling it at once at a merge gap of 0, before the all-out-ended notice
(log 32). -/
def closeEpisode (s : State) : State :=
  let gap := s.itemNat 6 37
  let s := s.setEpisodes (s.episodes.setProgress true (some s.clock.time))
  let s := if gap = 0 then settleEpisode s
    else s.setEpisodes { s.episodes with mergeTimer := some (seconds gap) }
  reportOverflow (s.post (.allOut false))

/-- Merges counted at a resumption (R151). -/
def EpisodeTable.countMerge (t : EpisodeTable) : EpisodeTable :=
  match t.inProgress with
  | .none => t
  | .slot i => t.setSlot i ((t.slots.get i).map fun e => { e with merges := satAdd 255 e.merges 1 })
  | .accumulator => { t with acc := { t.acc with merges := satAdd 65535 t.acc.merges 1 } }

/-- A BEGAN second resumes the CLOSING episode (R151). -/
def resumeEpisode (s : State) : State :=
  let t := { s.episodes.setProgress false none with mergeTimer := none }
  reportOverflow ((s.setEpisodes t.countMerge).post (.allOut true))

/-- The next serial value, from 65535 to 1 (R148). -/
def nextSerial (n : Nat) : Nat := if n = 65535 then 1 else n + 1

/-- Whether an occupied slot holds a serial (R148). -/
def EpisodeTable.holdsSerial (t : EpisodeTable) (n : Nat) : Bool :=
  slotNumbers.any fun i => match t.slots.get i with
    | some e => e.serial == n
    | none => false

/-- The first value from the counter on that no occupied slot holds, within seventeen trials (R148). -/
def EpisodeTable.freeSerial (t : EpisodeTable) : Nat → Nat → Nat
  | 0, n => n
  | k + 1, n => if t.holdsSerial n then t.freeSerial k (nextSerial n) else n

/-- The accumulator takes an opening (R149). -/
def Accumulator.take (a : Accumulator) (serial : Nat) (p : Accumulation) : Accumulator :=
  let first := a.count = 0
  let q := p.tally
  let tally := (a.tally.addVolume q.litres q.rem).raiseFlow q.peakFlow q.peakTime |>.raiseHead q.peakHead
  { a with
    count := satAdd 65535 a.count 1
    earliest := if first then p.start else a.earliest
    firstSerial := if first then serial else a.firstSerial
    lastSerial := serial
    current := some ⟨false, p.start, none⟩
    tally := { tally with
      seconds := satAdd 4294967295 tally.seconds q.seconds
      tips := satAdd 65535 tally.tips q.tips
      causes := tally.causes.union q.causes
      flags := tally.flags.union q.flags } }

/-- The opening (R147): a place, the record, the notices and the sources. -/
def openEpisode (s : State) : State :=
  match s.spill.accumulation with
  | none => s
  | some p =>
    let p := { p with tally := p.tally.addFlags { RecordFlags.empty with clockUnset := !s.clock.isSet } }
    let t := s.episodes
    let serial := t.freeSerial 17 t.serialCounter
    let t := { t with qualifying := false, qualifyTimer := none, serialCounter := nextSerial serial }
    let place := t.lowestFree
    let t := match place with
      | some i =>
        { t.setSlot i (some ⟨serial, .opened, p.start, none, p.tally, 0, s.rain.storm⟩) with inProgress := .slot i }
      | none => { t with acc := t.acc.take serial p, inProgress := .accumulator }
    let s := { s.setEpisodes t with spill := { s.spill with accumulation := none } }
    let s := (episodeOpened s).post (.allOut true)
    let s := reportOverflow s
    if place.isSome then reportFull s else s

/-! ## The spill second at the Episode Table (R143) -/

/-- The record a second is added into. -/
inductive Receiving where
  | none | pending | progress
deriving DecidableEq, Repr

/-- The action of R143 on a spill second (BEGAN or CONTINUING), and the receiving record of the resulting state: a CLOSING
episode is resumed, an OPEN one or a qualification goes on, and otherwise qualification begins (log 16). -/
def takeSpill (s : State) : State × Receiving :=
  if s.episodes.qualifying then (s, .pending)
  else
    match s.episodes.progressState with
    | some .opened => (s, .progress)
    | some .closing => (resumeEpisode s, .progress)
    | some .closed => (beginQualification s, .pending)
    | none => (beginQualification s, .pending)

/-- The action of R143 on an ENDED second. -/
def takeEnded (s : State) : State :=
  if s.episodes.qualifying then discardQualification s
  else if s.episodes.isOpen then closeEpisode s
  else s

/-- A spill second report taken by the Episode Table, and the second added to its receiving record with the tags present at
the integration (R143 to R145). -/
def takeSecond (r : SpillSecond) (s : State) : State :=
  let tags := s.causeTags
  if r.now then
    let add := Tally.addSecond r tags s.clock.time
    match takeSpill s with
    | (s, .pending) => s.modPending add
    | (s, .progress) => s.modProgress add
    | (s, .none) => s
  else
    let s := if r.before then takeEnded s else s
    if r.marks.settingsChanged then
      s.modProgress (Tally.addFlags { RecordFlags.empty with settingsChanged := true })
    else s

/-! ## The integration (R126 to R133) -/

/-- The flow of the segment that holds a head, point by point (R129): the first pair is at or below the head. -/
def segmentFlow (head : Int) : Int × Nat → List (Int × Nat) → Nat
  | p, [] => p.2
  | p, q :: rest =>
    if q.1 ≤ head then segmentFlow head q rest
    else p.2 + ((((q.2 - p.2 : Nat) : Int) * (head - p.1)) / (q.1 - p.1)).toNat

/-- The rated flow of a head (R129). -/
def Rating.flow (r : Rating) (head : Int) : Nat :=
  match r.points with
  | [] => 0
  | p :: rest => if head ≤ p.1 then p.2 else segmentFlow head p rest

/-- The last head of a rating (R130). -/
def Rating.lastHead (r : Rating) : Int :=
  match r.points.getLast? with
  | some p => p.1
  | none => 0

/-- The spill state judged by the head, with hysteresis on the state before (R131). -/
def spillsByHead (start finish head : Int) (before : Bool) : Bool :=
  if before then finish < head else start < head

/-- Steps 2 and 3 of an integration: head, flows, above rating, spill state, basis and flow used (R126, R128 to R132). -/
def Spill.judge (m : Spill) (start finish : Int) (probeFlow : Nat) : Spill :=
  let before := m.spilling || m.fromSpilling
  match m.report.known with
  | some level =>
    let head := level - m.rating.crest
    let q := m.rating.flow head
    let now := spillsByHead start finish head before
    { m with
      head := some head, rated := some q, held := q, above := m.rating.lastHead < head,
      spilling := now, fromSpilling := false, basis := .head, flowUsed := if now then q else 0 }
  | none =>
    let q := if 0 < m.held then m.held else probeFlow
    { m with
      head := none, rated := none, spilling := m.spWet, fromSpilling := false, basis := .probe,
      flowUsed := if m.spWet then q else 0 }

/-- One integration (R126). -/
def integrate (s : State) : State :=
  let working := s.store.working.rating
  let changed := working != s.spill.rating
  let old := s.spill
  let m := { old with rating := working, integrationTimer := some 1000 }.judge
    (s.item 6 34) (s.item 6 35) (flowOf (s.item 6 38))
  let r : SpillSecond :=
    { before := old.spilling || old.fromSpilling
      now := m.spilling
      flow := m.flowUsed
      head := m.head
      marks := { RecordFlags.empty with
        estimated := m.spilling && m.basis == .probe
        aboveRating := m.basis == .head && m.above
        settingsChanged := changed } }
  let s := takeSecond r { s with spill := m }
  if m.above = old.above then s else s.report .ratingExceeded m.above

end Sys2Proof.Machine
end

