-- ==== Sys2Proof/Machine/Replies.lean ====
section
/-! DEFINITION. What a request is answered with (R182), and the multi-record reads of R183. -/

namespace Sys2Proof.Machine

/-- The reply status codes (R182). -/
inductive Status where
  | ok | more | adjusted | busy | noAuthority | badRequest | badIndex | notSettled | stale | notShelvable | conflict
  | stillFaulted | localControl | barred | notPermitted
deriving DecidableEq, Repr

/-- The code of a status (R182). -/
def Status.code : Status → Nat
  | .ok => 0
  | .more => 1
  | .adjusted => 2
  | .busy => 3
  | .noAuthority => 4
  | .badRequest => 5
  | .badIndex => 6
  | .notSettled => 7
  | .stale => 8
  | .notShelvable => 9
  | .conflict => 10
  | .stillFaulted => 11
  | .localControl => 12
  | .barred => 13
  | .notPermitted => 14

/-- What the owning block answers a request with: the state after its action, a status and a reply payload (R180). -/
structure Answer where
  state : State
  status : Status
  payload : List Byte
deriving DecidableEq, Repr

/-- An answer that changes nothing. -/
def Answer.refuse (s : State) (st : Status) : Answer := ⟨s, st, []⟩

/-- OK with an empty payload. -/
def Answer.done (s : State) : Answer := ⟨s, .ok, []⟩

/-! ## Multi-record reads (R183) -/

/-- The most characters a reply payload holds. -/
def payloadLimit : Nat := 200

/-- The longest run of records from the front whose characters fit in a room. -/
def longestRun : Nat → List (List Byte) → List (List Byte)
  | _, [] => []
  | room, r :: rest => if r.length ≤ room then r :: longestRun (room - r.length) rest else []

/-- The payload of a read of records that lie in the range asked for: all of them with OK, or the longest run that fits
with MORE and the next index. -/
def packRecords (start : Nat) (records : List (List Byte)) : Status × List Byte :=
  if 2 + records.flatten.length ≤ payloadLimit then
    (.ok, byte start :: byte records.length :: records.flatten)
  else
    let run := longestRun (payloadLimit - 3) records
    (.more, byte start :: byte run.length :: byte (start + run.length) :: run.flatten)

/-- A multi-record read of indices 0 to `size` - 1 (R183): a count of 0, then a start past the last index, are refused; a
count that runs past the last index is cut to it. -/
def readRecords (size : Nat) (record : Nat → List Byte) (start count : Nat) (s : State) : Answer :=
  if count = 0 then .refuse s .badRequest
  else if size ≤ start then .refuse s .badIndex
  else
    let packed := packRecords start ((List.range' start (min count (size - start))).map record)
    ⟨s, packed.1, packed.2⟩

end Sys2Proof.Machine
end

