-- ==== Sys2Proof/Machine/AuthorityControl.lean ====
section
/-! DEFINITION. The Authority Monitor (chapter 11): challenge and answer, failures and the bar, the lapse and the check of a
privileged request. -/

namespace Sys2Proof.Machine

/-- The next challenge (R188). -/
def nextChallenge (c : Nat) : Nat := (c * 109 + 89) % 65536

/-- The correct answer to a challenge at a station address (R188). -/
def correctAnswer (c address : Nat) : Nat := (c * 8 % 65536 + c / 8192 + address) % 65536

/-- The challenge seeded at a restart (R188). -/
def challengeSeed (address : Nat) : Nat := address * 257

/-- The answer expected now: the challenge that stands, at the station address in effect (R188). -/
def State.expectedAnswer (s : State) : Nat := correctAnswer s.authority.challenge s.line.address

/-- The state with the Authority Monitor's state replaced. -/
def State.setAuthority (s : State) (a : Authority) : State := { s with authority := a }

/-- Entry or re-entry to CHALLENGED: the challenge advanced, the answer window started (R189, R191). -/
def challenge (s : State) : State :=
  s.setAuthority
    { s.authority with
      state := .challenged
      challenge := nextChallenge s.authority.challenge
      answerTimer := some (seconds (s.itemNat 0 5)) }

/-- A correct answer: GRANTED, the challenge advanced, the supervision timer started or restarted (R189 to R191). -/
def grantAuthority (s : State) : State :=
  s.setAuthority
    { s.authority with
      state := .granted
      challenge := nextChallenge s.authority.challenge
      answerTimer := none
      supervisionTimer := some (seconds (s.itemNat 0 6)) }

/-- A correct answer in CHALLENGED: the failure count goes to 0 with the grant (R189). -/
def grantAnew (s : State) : State :=
  let s := grantAuthority s
  s.setAuthority { s.authority with failures := 0 }

/-- Departure to NONE with both timers stopped (R189, R191, R192). -/
def dropAuthority (s : State) : State :=
  s.setAuthority { s.authority with state := .none, answerTimer := none, supervisionTimer := none }

/-- A failure counted: the state becomes NONE, or BARRED when the count reaches 3 (R187). -/
def countFailure (s : State) : State :=
  let n := min 3 (s.authority.failures + 1)
  s.setAuthority
    { s.authority with
      state := if n = 3 then .barred else .none
      failures := n
      answerTimer := none
      supervisionTimer := none }

/-- A pump record with the forced mode NONE. -/
def PumpRec.unforced (p : PumpRec) : PumpRec := { p with forced := .none }

/-- Every forced mode set to NONE at a lapse, the change handed to the Duty Controller in one hand-over (R64, R193). -/
def cancelForced (s : State) : State :=
  let was := s.roster.pumps.map (·.forced)
  if was = PerBay.all .none then s
  else
    { s with roster := { s.roster with pumps := s.roster.pumps.map PumpRec.unforced } }.post (.lapse was)

/-- The lapse notices to the Pump Roster, the Screen Controller and the Condition Table (R193). -/
def lapse (s : State) : State :=
  let s := forScreens inhibitOff (cancelForced s)
  { s with conditions := s.conditions.modifyAll (·.unshelve s.clock.time) }

/-- A change of the REMOTE PERMIT keyswitch (R192). -/
def permitChange (on : Bool) (s : State) : State :=
  let s := s.setAuthority { s.authority with permit := on }
  if on then
    match s.authority.state with
    | .barred => s.setAuthority { s.authority with state := .none, failures := 0 }
    | .none => s
    | .challenged => s
    | .granted => s
  else
    match s.authority.state with
    | .challenged => dropAuthority s
    | .granted => lapse (dropAuthority s)
    | .none => s
    | .barred => s

/-- A privileged request judged before its owner sees it (R190). -/
def privileged (ans : Nat) (act : State → Answer) (s : State) : Answer :=
  match s.authority.state with
  | .none => .refuse s .noAuthority
  | .challenged => .refuse s .noAuthority
  | .granted =>
    if ans = s.expectedAnswer then act (grantAuthority s) else .refuse (lapse (countFailure s)) .noAuthority
  | .barred => .refuse s .barred

end Sys2Proof.Machine
end

