-- ==== Sys2Proof/Machine/Restarting.lean ====
section
/-! DEFINITION. Supply loss and the restarts (00_scope.md 3.7): the settings loaded, every block's restart values, the
owners' reports, the restart evaluation and the pulses. -/

namespace Sys2Proof.Machine

/-! ## Supply loss (R199) -/

/-- One table of a stored copy whose commit was cut short: each item as it was or as it was being copied, a free value
(R199, log 7). -/
def cutCopy {k : Nat} (n table : Nat) (old new : Vector Int k) : Vector Int k :=
  Vector.ofFn fun i => if Config.copiedPart n table i.val then new.get i else old.get i

/-- A stored copy whose commit was cut short (R199). -/
def Settings.cut (n : Nat) (old new : Settings) : Settings where
  t0 := cutCopy n 0 old.t0 new.t0
  t1 := cutCopy n 1 old.t1 new.t1
  t2 := cutCopy n 2 old.t2 new.t2
  t3 := cutCopy n 3 old.t3 new.t3
  t4 := cutCopy n 4 old.t4 new.t4
  t5 := cutCopy n 5 old.t5 new.t5
  t6 := cutCopy n 6 old.t6 new.t6
  t8 := cutCopy n 8 old.t8 new.t8

/-- A commit in progress ends unfinished and unmarked (R199). -/
def cutCommit (s : State) : State :=
  match s.store.commit with
  | none => s
  | some _ =>
    { s with
      store := { s.store with stored := s.store.stored.cut s.freeCount s.store.working, marker := false, commit := none }
      freeCount := s.freeCount + 1 }

/-- Loss of the controller's own supply: the part halts (R199). A part already halted is left as it is. -/
def loseSupply (s : State) : State :=
  match s.power with
  | .halted => s
  | .on => { cutCommit s with power := .halted }

/-! ## Restart values, block by block -/

/-- The load of the working copy (R200). -/
def loadSettings (s : State) : State :=
  { s with store := { s.store with working := if s.store.marker then s.store.stored else .defaults, commit := none } }

/-- The Station Clock at a restart (R201). -/
def restartClock (cold : Bool) (s : State) : State :=
  { s with clock := if cold then ⟨0, false, some 1000⟩ else { s.clock with secondTimer := some 1000 } }

/-- A contact record at a restart: the raw value as it stands is taken as filtered (R28). -/
def Filtered.retake {α : Type} (r : Filtered α) : Filtered α := .settled r.raw

/-- The Contact Input Unit at a restart (R28). -/
def Contacts.retaken (k : Contacts) : Contacts where
  hf := k.hf.retake
  lf := k.lf.retake
  sp := k.sp.retake
  selectorH := k.selectorH
  selectorA := k.selectorA
  selector := k.selector.map Filtered.retake
  runFeedback := k.runFeedback.map Filtered.retake
  overload := k.overload.map Filtered.retake
  sealLeak := k.sealLeak.map Filtered.retake
  screenSelector := k.screenSelector.map Filtered.retake
  topLimit := k.topLimit.map Filtered.retake
  homeLimit := k.homeLimit.map Filtered.retake
  rakeOverload := k.rakeOverload.map Filtered.retake
  starterReady := k.starterReady.retake
  starterFault := k.starterFault.retake
  mainsPresent := k.mainsPresent.retake
  generatorRunning := k.generatorRunning.retake
  accept := k.accept.retake
  remotePermit := k.remotePermit.retake

/-- The contacts taken at a restart. -/
def restartContacts (s : State) : State := { s with contacts := s.contacts.retaken }

/-- A record's severity and reportable as T8 has them (R171). -/
def CondRec.configure (σ : Settings) (i : Nat) (r : CondRec) : CondRec :=
  { r with urgent := σ.get 8 i == 1, reportable := σ.get 8 (25 + i) == 1 }

/-- The Condition Table at a restart, before the owners' reports (R172, R173). -/
def restartConditions (cold : Bool) (s : State) : State :=
  let old := s.conditions.recs
  let recs := Vector.ofFn fun i : Fin 25 =>
    let r := if cold then CondRec.cold false else old.get i
    (r.configure s.store.working i.val).unshelve s.clock.time
  { s with conditions := { s.conditions with recs := recs }.judge }

/-- The Level Channel Unit at a restart (R2, R22). -/
def restartChannels (s : State) : State :=
  let fresh (c : Channel) : ChannelRec := .restarted (s.itemNat 1 (c.base + 3)) (s.itemNat 1 (c.base + 4))
  { s with
    channels := ⟨⟨fresh .ww, fresh .inlet, fresh .sa, fresh .sb⟩, ⟨some 200, some 200, some 200, some 200⟩⟩ }

/-- An Episode Table with nothing in it (R159). -/
def EpisodeTable.blank : EpisodeTable where
  slots := Vector.replicate 16 none
  acc := .empty
  serialCounter := 1
  inProgress := .none
  qualifying := false
  qualifyTimer := none
  mergeTimer := none
  attn := false

/-- The Episode Table at a warm restart (R158): the episode in progress is INTERRUPTED, and one CLOSING starts its merge
timer anew or, at a merge gap of 0, settles without a notice. -/
def EpisodeTable.rewarmed (t : EpisodeTable) (gap : Nat) : EpisodeTable :=
  let t := { t with qualifying := false, qualifyTimer := none, mergeTimer := none }
  let t := t.modProgress (Tally.addFlags { RecordFlags.empty with interrupted := true })
  if t.progressState = some .closing then
    if gap = 0 then t.settled else { t with mergeTimer := some (seconds gap) }
  else t

/-- The Episode Table at a restart. -/
def restartEpisodes (cold : Bool) (s : State) : State :=
  s.setEpisodes (if cold then .blank else s.episodes.rewarmed (s.itemNat 6 37))

/-- The Rainfall Unit at a restart (R42). -/
def restartRain (cold : Bool) (s : State) : State :=
  let kept := s.episodes.inProgress != .none
  { s with
    rain :=
      { storm := if kept then .storm else .dry, episodeFlag := kept, quiet := 0, openBin := 0,
        closedBins := List.replicate 60 0, intensity := 0, total := if cold then 0 else s.rain.total,
        clearedAt := if cold then 0 else s.rain.clearedAt, minuteTimer := some 60000, dryTimer := none,
        dryRestarted := false, bounceTimer := none } }

/-- The Supply Monitor at a restart (R107). -/
def restartSupply (s : State) : State :=
  let mains := s.closed .mainsPresent
  let generator := s.closed .generatorRunning
  let st := supplyOf mains generator
  { s with
    supply :=
      { state := st, limit := s.limitOf st
        restoreTimer := if st = .none then none else startTimer (s.itemNat 3 9), mains := mains, generator := generator } }

/-- A pump record at a restart (R44, R68, log 24). -/
def restartPump (cold : Bool) (s : State) (b : Bay) : PumpRec :=
  let old := s.pump b
  let inService := cold || old.inService
  let fresh : PumpRec :=
    { PumpRec.cold .absent with
      selector := (s.contacts.selector.get b).filtered
      inService := inService
      runSeconds := if cold then 0 else old.runSeconds
      startsTotal := if cold then 0 else old.startsTotal
      lockouts := if cold then 0 else old.lockouts }
  if s.itemNat 3 0 < b.number then fresh
  else
    let fresh := { fresh with degraded := s.closed (.sealLeak b) }
    if cold = false ∧ old.state = .lockedOut then { fresh with state := .lockedOut, reason := old.reason }
    else if fresh.selector ≠ .auto ∨ inService = false then { fresh with state := .unavailable }
    else if s.overloadTripped b then
      { fresh with state := .lockedOut, reason := some .overload, lockouts := satAdd 255 fresh.lockouts 1 }
    else if s.feedback b then { fresh with state := .stopping, stopConfirm := some (seconds (s.itemNat 3 4)) }
    else { fresh with state := .resting, minRest := some (seconds (s.itemNat 3 2)) }

/-- The Pump Roster at a restart (R44, R68). -/
def restartRoster (cold : Bool) (s : State) : State :=
  { s with
    roster :=
      { pumps := ⟨restartPump cold s .b1, restartPump cold s .b2, restartPump cold s .b3, restartPump cold s .b4⟩
        installed := s.itemNat 3 0
        secondTimer := some 1000
        restartHold := startTimer (s.itemNat 3 6) } }

/-- The Starter Arbiter at a restart, its health judged on the inputs taken (R107). -/
def restartArbiter (s : State) : State :=
  judgeStarter { s with
    arbiter :=
      { state := .idle, held := none, queue := [], rampTimer := none, gapTimer := none, runOutput := false,
        health := .healthy, gateSupply := s.supply.state, gateRestore := s.supply.restoreTimer.isSome,
        holdExpired := s.roster.restartHold.isNone } }

/-- Whether a screen is in use by T5 (R109). -/
def State.screenInUse (s : State) : Screen → Bool
  | .a => s.item 5 7 == 1
  | .b => s.item 5 8 == 1

/-- A screen record at a restart, before HOMING is entered (R124, log 26). -/
def restartScreenRec (cold : Bool) (s : State) (x : Screen) : ScreenRec :=
  let old := s.screen x
  let inUse := s.screenInUse x
  let fresh : ScreenRec :=
    { ScreenRec.cold with
      inUse := inUse
      selectorAuto := s.closed (.screenSelector x)
      cycles := if cold then 0 else old.cycles
      lastCycle := if cold then 0 else old.lastCycle
      interval := ⟨if inUse then some 0 else none, s.rakeInterval s.rain.storm⟩ }
  if cold = false ∧ inUse ∧ old.state = .jammed then { fresh with state := .jammed, jam := old.jam } else fresh

/-- A screen whose selector is AUTO is brought home at a restart: STALLED with the supply NONE, HOMING otherwise
(R117, R124). -/
def restartHoming (x : Screen) (s : State) : State :=
  if (s.screen x).inUse ∧ (s.screen x).state = .off ∧ (s.screen x).selectorAuto then enterHoming x s else s

/-- The Screen Controller at a restart (R124). -/
def restartScreens (cold : Bool) (s : State) : State :=
  forScreens restartHoming { s with
    screens :=
      { recs := ⟨restartScreenRec cold s .a, restartScreenRec cold s .b⟩, inReport := .unknown, saReport := .unknown,
        sbReport := .unknown, storm := s.rain.storm, supply := s.supply.state, ramping := false } }

/-- The duty order brought into line with the Roster (R88). -/
def State.lineUp (s : State) (order : List Bay) : List Bay :=
  let kept := order.filter fun b => (s.pump b).state.onDuty
  s.inClasses (kept ++ Bay.all.filter fun b => (s.pump b).state.onDuty && !kept.contains b)

/-- The Duty Controller at a restart, before its evaluation (R88). -/
def restartDuty (cold : Bool) (s : State) : State :=
  { s with
    duty :=
      { stage := 0, profile := profileOf s.rain.storm, storm := s.rain.storm, report := .unknown,
        hfCovered := s.closed .hf, lfCovered := s.closed .lf, allOut := s.episodes.isOpen, cutoff := !s.closed .lf,
        limit := s.supply.limit, handCount := s.handRunning,
        order := s.lineUp (if cold then Bay.all else s.duty.order), rotationPending := false, counted := [],
        uncounted := [], changeoverTimer := ⟨none, none, none, none⟩, replaced := ⟨false, false, false, false⟩ } }

/-- The Spill Meter at a restart (R139). -/
def restartSpill (s : State) : State :=
  { s with
    spill :=
      { report := .unknown, spWet := s.closed .sp, rating := s.store.working.rating, head := none, rated := none,
        held := 0, spilling := false, fromSpilling := s.episodes.isOpen, basis := .head, flowUsed := 0, above := false,
        accumulation := none, integrationTimer := some 1000 } }

/-- The Line Interface at a restart (R185). -/
def restartLine (s : State) : State :=
  { s with
    line :=
      { receiver := .waiting, frame := none, gapTimer := none, turnaroundTimer := none, reply := none,
        restartPending := false, latch := false, linkTimer := some (seconds (s.itemNat 0 4)), baud := s.itemNat 0 0,
        address := s.itemNat 0 1 } }

/-- The Authority Monitor at a restart (R188, R195). -/
def restartAuthority (cold : Bool) (s : State) : State :=
  let barred := !cold && s.authority.state == .barred
  s.setAuthority
    { state := if barred then .barred else .none, challenge := challengeSeed s.line.address,
      failures := if cold then 0 else if barred then 3 else s.authority.failures, answerTimer := none,
      supervisionTimer := none, permit := s.closed .remotePermit }

/-! ## The owners' reports at a restart -/

/-- PUMPn_LOCKOUT of a bay as it stands (R68). -/
def reportLockout (b : Bay) (s : State) : State :=
  match (s.pump b).state, (s.pump b).reason with
  | .lockedOut, some r => s.report (lockoutSource b) true (some (.lockout r))
  | .lockedOut, none => s.report (lockoutSource b) true
  | _, _ => s.report (lockoutSource b) false

/-- SCREEN_x_JAM of a screen as it stands (R124). -/
def reportJam (x : Screen) (s : State) : State :=
  match (s.screen x).state, (s.screen x).jam with
  | .jammed, some r => s.report (jamSource x) true (some (.jam r))
  | .jammed, none => s.report (jamSource x) true
  | _, _ => s.report (jamSource x) false

/-- Every level source reported by its owner at a restart (R22, R27, R68, R97, R104, R124, R139, R155, R185). -/
def restartReports (s : State) : State :=
  let s := [Source.wwHigh, .wwLow, .inHigh, .chWwInvalid, .chInInvalid, .chSaInvalid, .chSbInvalid].foldl
    (fun t src => t.report src false) s
  let s := s.report .wwFloatHigh (s.closed .hf)
  let s := (forBays reportLockout s).report .pumpSeal s.anyDegraded
  let s := (forScreens reportJam s).report .screenBlinded false
  let s := reportStarter s
  let s := (s.report .mainsFail (!s.supply.mains)).report .supplyNone (s.supply.state == .none)
  let s := s.report .ratingExceeded false
  (reportFull (reportOverflow s)).report .linkLost false

/-! ## The restart -/

/-- A restart of a kind (R200 and the restart rules of the chapters): the settings are loaded, the blocks take their
restart values, the owners report, the restart evaluation is made, and RESTART and SETTINGS_DEFAULTED are pulsed. -/
def restart (cause : RestartCause) (s : State) : State :=
  let cold := cause == .cold
  let s := { s with power := .on, restartCause := cause, inbox := [] }
  let defaulted := !s.store.marker
  let s := restartContacts (restartClock cold (loadSettings s))
  let s := restartChannels (restartConditions cold s)
  let s := restartSupply (restartRain cold (restartEpisodes cold s))
  let s := restartScreens cold (restartArbiter (restartRoster cold s))
  let s := restartSpill (restartDuty cold s)
  let s := restartAuthority cold (restartLine s)
  let s := settle ((restartReports s).post .restart)
  let s := s.pulse .restart (some (.cause cause))
  if defaulted then s.pulse .settingsDefaulted else s

end Sys2Proof.Machine
end

