-- ==== Sys2Proof/Machine/LineControl.lean ====
section
/-! DEFINITION. The Line Interface's receiver and replies (chapter 10): address characters, frames begun and abandoned, the
taking of an addressed frame's request, and the whole addressed frame that a request command stands for (log 6). -/

namespace Sys2Proof.Machine

/-- The state with the Line Interface's state replaced. -/
def State.setLine (s : State) (l : Line) : State := { s with line := l }

/-- The gap timer's start: the gap limit of T0 item 3 in milliseconds (R176). -/
def State.gapStart (s : State) : Timer := some (s.itemNat 0 3)

/-- A partial frame is abandoned (R178): dropped whole, the latch set, the receiver WAITING. -/
def abandonFrame (s : State) : State :=
  s.setLine { s.line with receiver := .waiting, frame := none, gapTimer := none, latch := true }

/-- Entry to RECEIVING with an empty frame (R176). -/
def beginFrame (broadcast : Bool) (s : State) : State :=
  s.setLine { s.line with receiver := .receiving, frame := some ⟨broadcast, []⟩, gapTimer := s.gapStart }

/-- An address character as WAITING takes it (R175): the station's own address, 0, or any other. -/
def hearAddress (a : Nat) (s : State) : State :=
  if a = s.line.address then beginFrame false s
  else if a = 0 then beginFrame true s
  else s.setLine { s.line with receiver := .waiting }

/-- The pending reply is discarded (R181). -/
def discardReply (s : State) : State :=
  s.setLine { s.line with receiver := .waiting, turnaroundTimer := none, reply := none }

/-- A good address character (R175). One that discards the reply to RESTART brings the warm restart, and its frame is lost
with it (R194). -/
def addressCharacter (a : Nat) (s : State) : State :=
  match s.line.receiver with
  | .waiting => hearAddress a s
  | .receiving => hearAddress a (abandonFrame s)
  | .turnaround => if s.line.restartPending then restart .warmRequest s else hearAddress a (discardReply s)
  | .sending => s

/-! ## Replies (R181, R182) -/

/-- The challenge shown in a reply header (R182). -/
def State.shownChallenge (s : State) : Nat :=
  match s.authority.state with
  | .challenged => s.authority.challenge
  | .granted => s.authority.challenge
  | .none => 0
  | .barred => 0

/-- The characters of a reply from LEN through the payload (R182, R186). -/
def replyBody (s : State) (code : Nat) (st : Status) (payload : List Byte) : List Byte :=
  [byte (6 + payload.length), byte code ||| 0x80#8, byte st.code, byte s.line.address, s.attnByte] ++
    word s.shownChallenge ++ payload

/-- A whole reply as it is sent: the master's address 254 with mark bit 1, then the body and CHECK with mark bit 0, each
character with its parity bit and its stop bit (R174, R177, R186). -/
def replyFrame (s : State) (code : Nat) (st : Status) (payload : List Byte) : List Character :=
  Character.run (byte 254) (replyBody s code st payload ++ checkChars (replyBody s code st payload))

/-- A valid addressed frame: the assembly ends, the link timer restarts and LINK_LOST is reported inactive (R177, R179),
before the frame's request is taken, an acknowledgement of LINK_LOST among them (R164, log 37), and a write of T0 item 4
(R197, log 38). -/
def validFrame (s : State) : State :=
  (s.setLine { s.line with frame := none, gapTimer := none, linkTimer := some (seconds (s.itemNat 0 4)) }).report
    .linkLost false

/-- TURNAROUND with the reply to a request built from the state after its effects (R180 to R182). The turnaround is the one that
the request leaves in the working copy: a write of T0 item 2 acts on its own frame's turnaround (R181, R197, log 38). -/
def enterTurnaround (code : Nat) (a : Answer) : State :=
  let s := settle a.state
  s.setLine { s.line with
    receiver := .turnaround
    turnaroundTimer := some (s.itemNat 0 2)
    reply := some (replyFrame s code a.status a.payload) }

/-- An addressed frame's request taken (R177, R180). -/
def answerFrame (code : Nat) (act : State → Answer) (s : State) : State := enterTurnaround code (act (validFrame s))

/-- A request command: the whole good addressed frame that carries it (log 6). A receiver that does not listen takes
none of it, and one whose address character brings a restart loses the rest. -/
def addressed (code : Nat) (act : State → Answer) (s : State) : Answered :=
  powered (fun s =>
    let t := addressCharacter s.line.address s
    if t.line.receiver = .receiving then answerFrame code act t else t) s

/-- A broadcast frame's end: the receiver returns to WAITING (R177). -/
def endBroadcast (s : State) : State := s.setLine { s.line with receiver := .waiting, frame := none, gapTimer := none }

end Sys2Proof.Machine
end

