-- ==== Sys2Proof/Machine/Annunciation.lean ====
section
/-! DEFINITION. The Condition Table's commands (chapter 9): acknowledgement, shelving, READ_CONDITIONS. -/

namespace Sys2Proof

/-- Whether a source may be shelved (R160). -/
def Source.shelvable : Source → Bool
  | .wwFloatHigh => false
  | .supplyNone => false
  | .overflowActive => false
  | .restart => false
  | .settingsDefaulted => false
  | .wwHigh | .wwLow | .inHigh | .chWwInvalid | .chInInvalid | .chSaInvalid | .chSbInvalid | .pump1Lockout
  | .pump2Lockout | .pump3Lockout | .pump4Lockout | .pumpSeal | .screenAJam | .screenBJam | .screenBlinded
  | .starterFault | .mainsFail | .ratingExceeded | .episodeTableFull | .linkLost => true

end Sys2Proof

namespace Sys2Proof.Machine

/-- An acknowledgement of a record (R164, R165). -/
def CondRec.acknowledge (now : Nat) (r : CondRec) : CondRec := r.moveTo now r.state.acknowledged

/-- A record shelved for a time in milliseconds: entry to SHELVED, or the timer restarted in it (R166). -/
def CondRec.shelve (now ms : Nat) (r : CondRec) : CondRec := { r.moveTo now .shelved with shelf := some ms }

/-- A source's record changed. -/
def State.modCond (s : State) (src : Source) (f : CondRec → CondRec) : State :=
  { s with conditions := s.conditions.modify src f }

/-- Every record acknowledged, by ACK_ALL or a press of ACCEPT (R165). -/
def acknowledgeAll (s : State) : State :=
  { s with conditions := s.conditions.modifyAll (·.acknowledge s.clock.time) }

/-- The number of records an acknowledgement of all would move (R165). -/
def State.acknowledgeable (s : State) : Nat := (Source.all.filter fun i => (s.cond i).state.calls).length

/-- A record as the acknowledging and shelving replies carry it: index, state, change number (R164, R166, R167). -/
def condBrief (s : State) (src : Source) : List Byte :=
  [byte src.index.val, byte (s.cond src).state.code, byte (s.cond src).change]

/-- ACK_CONDITION at the Condition Table (R164). For an index above 24 the state reads 255 and the change number 0
(R182). -/
def ackCondition (index change : Nat) (s : State) : Answer :=
  match Source.ofIndex index with
  | none => ⟨s, .badIndex, [byte index, byte 255, byte 0]⟩
  | some src =>
    if (s.cond src).change ≠ change then ⟨s, .stale, condBrief s src⟩
    else
      let t := s.modCond src (·.acknowledge s.clock.time)
      ⟨t, .ok, condBrief t src⟩

/-- ACK_CONDITION (R164). -/
def execAckCondition (index change : Nat) (s : State) : Answered := addressed 0x04 (ackCondition index change) s

/-- ACK_ALL at the Condition Table (R165). -/
def ackAll (s : State) : Answer := ⟨acknowledgeAll s, .ok, [byte s.acknowledgeable]⟩

/-- ACK_ALL (R165). -/
def execAckAll (s : State) : Answered := addressed 0x05 ackAll s

/-- SHELVE at the Condition Table (R166). -/
def shelve (index mins : Nat) (s : State) : Answer :=
  if mins < 1 ∨ 1440 < mins then .refuse s .badRequest
  else
    match Source.ofIndex index with
    | none => .refuse s .badIndex
    | some src =>
      if src.shelvable then
        let t := s.modCond src (·.shelve s.clock.time (minutes mins))
        ⟨t, .ok, condBrief t src ++ long (secondsLeft (t.cond src).shelf)⟩
      else .refuse s .notShelvable

/-- SHELVE (R166). -/
def execShelve (ans index mins : Nat) (s : State) : Answered := addressed 0x06 (privileged ans (shelve index mins)) s

/-- UNSHELVE at the Condition Table (R167). -/
def unshelve (index : Nat) (s : State) : Answer :=
  match Source.ofIndex index with
  | none => .refuse s .badIndex
  | some src =>
    let t := s.modCond src (·.unshelve s.clock.time)
    ⟨t, .ok, condBrief t src⟩

/-- UNSHELVE (R167). -/
def execUnshelve (ans index : Nat) (s : State) : Answered := addressed 0x07 (privileged ans (unshelve index)) s

/-- SHELVE_TIMER_EXPIRY (R167): it comes while the record's shelve timer runs. -/
def execShelveTimerExpiry (src : Source) (s : State) : Answered :=
  powered (fun s => if (s.cond src).shelf.isSome then s.modCond src (·.unshelve s.clock.time) else s) s

/-- The wire layout of a condition record (R170, R186). -/
def conditionChars (s : State) (n : Nat) : List Byte :=
  match Source.ofIndex n with
  | none => []
  | some src =>
    let r := s.cond src
    [byte n, byte r.state.code, flagByte [r.active, r.urgent, r.reportable], byte r.change, byte r.raises] ++
      long r.changedAt ++ long (secondsLeft r.shelf) ++ word (Detail.code r.detail)

/-- READ_CONDITIONS at the Condition Table (R170). -/
def readConditions (start count : Nat) (s : State) : Answer := readRecords 25 (conditionChars s) start count s

/-- READ_CONDITIONS (R170). -/
def execReadConditions (start count : Nat) (s : State) : Answered := addressed 0x03 (readConditions start count) s

end Sys2Proof.Machine
end

