-- ==== Sys2Proof/Machine/FieldContacts.lean ====
section
/-! DEFINITION. The Contact Input Unit (chapter 2): RAW_CONTACT_CHANGE, FILTER_TIMER_EXPIRY and the hand-over of each
change to its owner. -/

namespace Sys2Proof.Machine

/-- An input's filter at a change of its raw value, at a filter time in milliseconds (R25). -/
def Filtered.change {α : Type} [DecidableEq α] (time : Nat) (v : α) (r : Filtered α) : Filtered α :=
  if v = r.filtered then { r with raw := v, pendingState := none, timer := none }
  else { r with raw := v, pendingState := some v, timer := some time }

/-- An input's raw value changes: while the part has supply the filter acts (R25); while halted the raw value alone moves,
and the restart takes it (R28, log 4). A raw value that does not change is no event. -/
def Filtered.move {α : Type} [DecidableEq α] (power : Power) (time : Nat) (v : α) (r : Filtered α) : Filtered α :=
  if r.raw = v then r
  else
    match power with
    | .on => r.change time v
    | .halted => { r with raw := v }

/-- A bay selector's raw position follows its two contacts (R24, R25). -/
def moveSelector (b : Bay) (s : State) : State :=
  let pos := decodeSelector (s.contacts.selectorH.get b) (s.contacts.selectorA.get b)
  let r := (s.contacts.selector.get b).move s.power (s.itemNat 2 selectorFilterItem) pos
  { s with contacts := { s.contacts with selector := s.contacts.selector.put b r } }

/-- RAW_CONTACT_CHANGE (R25). -/
def execRawContactChange (c : RawContact) (closed : Bool) (s : State) : Answered :=
  match c with
  | .switch w =>
    .next { s with
      contacts := s.contacts.put w ((s.contacts.get w).move s.power (s.itemNat 2 w.filterItem) closed) }
  | .selectorH b =>
    .next (moveSelector b { s with
      contacts := { s.contacts with selectorH := s.contacts.selectorH.put b closed } })
  | .selectorA b =>
    .next (moveSelector b { s with
      contacts := { s.contacts with selectorA := s.contacts.selectorA.put b closed } })

/-- A change of an input's filtered contact handed to its owner (R23, R26). -/
def handSwitch (w : Switch) (closed : Bool) (s : State) : State :=
  match w with
  | .hf => (s.report .wwFloatHigh closed).post (.hf closed)
  | .lf => s.post (.lf closed)
  | .sp => { s with spill := { s.spill with spWet := closed } }
  | .runFeedback b => feedbackChange b closed s
  | .overload b => if closed then s else overloadTrip b s
  | .sealLeak b => sealChange b closed s
  | .screenSelector x => screenSelectorChange x closed s
  | .topLimit x => if closed then topMade x s else s
  | .homeLimit x => if closed then homeMade x s else s
  | .rakeOverload x => if closed then s else rakeTrip x s
  | .starterReady => judgeStarter s
  | .starterFault => judgeStarter s
  | .mainsPresent => mainsChange closed s
  | .generatorRunning => generatorChange closed s
  | .accept => if closed then acknowledgeAll s else s
  | .remotePermit => permitChange closed s

/-- The pending state of a record taken as filtered, if its filter timer runs (R26). -/
def Filtered.expire {α : Type} (r : Filtered α) : Option (α × Filtered α) :=
  if r.timer.isSome then r.pendingState.map fun v => (v, { r with filtered := v, pendingState := none, timer := none })
  else none

/-- The expiry of an input's filter timer (R26). -/
def filterExpires (i : Input) (s : State) : State :=
  match i with
  | .switch w =>
    match (s.contacts.get w).expire with
    | none => s
    | some (v, r) => settle (handSwitch w v { s with contacts := s.contacts.put w r })
  | .selector b =>
    match (s.contacts.selector.get b).expire with
    | none => s
    | some (v, r) =>
      settle (selectorChange b v { s with contacts := { s.contacts with selector := s.contacts.selector.put b r } })

/-- FILTER_TIMER_EXPIRY (R26). -/
def execFilterTimerExpiry (i : Input) (s : State) : Answered := powered (filterExpires i) s

end Sys2Proof.Machine
end

