-- ==== Sys2Proof/Machine/Channels.lean ====
section
/-! DEFINITION. The Level Channel Unit (chapter 1): SAMPLE_ARRIVAL, CLEAR_CHANNEL, READ_CHANNELS. -/

namespace Sys2Proof

/-- Whether a channel keeps alarm status (R1): WW and IN do. -/
def Channel.keepsAlarms : Channel → Bool
  | .ww => true
  | .inlet => true
  | .sa => false
  | .sb => false

end Sys2Proof

namespace Sys2Proof.Machine

/-! ## Bands and scaling (R3, R4) -/

/-- The band of a raw current in µA (R3). -/
def bandOf (i : Nat) : Band :=
  if i < 1000 then .loopOpen
  else if i < 3600 then .under
  else if i < 4000 then .lowClamp
  else if i ≤ 20000 then .normal
  else if i ≤ 20800 then .highClamp
  else .over

/-- The clamped current of an in-band sample, none if the sample is not in-band (R3). -/
def clampedCurrent (i : Nat) : Option Nat :=
  match bandOf i with
  | .lowClamp => some 4000
  | .normal => some i
  | .highClamp => some 20000
  | .loopOpen => none
  | .under => none
  | .over => none
  | .none => none

/-- The fault kind of a band that is not in-band (R3). -/
def Band.faultKind : Band → FaultKind
  | .loopOpen => .loopOpen
  | .under => .under
  | .over => .over
  | .none => .none
  | .lowClamp => .none
  | .normal => .none
  | .highClamp => .none

/-- The candidate level of a clamped current (R4). -/
def scaledLevel (span offset : Int) (ic : Nat) : Int := offset + span * ((ic : Int) - 4000) / 16000

/-- The candidate level under a channel's span and offset in the working copy (R4). -/
def State.candidate (s : State) (c : Channel) (ic : Nat) : Int :=
  scaledLevel (s.item 1 c.base) (s.item 1 (c.base + 1)) ic

/-! ## The validity counter (R5, R10 to R12) -/

/-- The limit and hold taken from the working copy, and the counter reconciled with them (R12). -/
def ChannelRec.reconcile (limit hold : Nat) (r : ChannelRec) : ChannelRec :=
  { r with
    limit := limit
    hold := hold
    counter :=
      if r.pinned then limit + hold
      else if r.valid then min r.counter (limit - 1)
      else min (max r.counter limit) (limit + hold) }

/-- A faulted sample's step of the counter, its kind written (R9, R10). -/
def ChannelRec.countFault (k : FaultKind) (r : ChannelRec) : ChannelRec :=
  if r.limit ≤ r.counter + 2 then { r with lastFault := k, counter := r.limit + r.hold, valid := false }
  else { r with lastFault := k, counter := r.counter + 2 }

/-- A LOOP_OPEN sample: pinned, the counter at limit + hold, INVALID (R5). -/
def ChannelRec.openLoop (r : ChannelRec) : ChannelRec :=
  { r with lastFault := .loopOpen, pinned := true, counter := r.limit + r.hold, valid := false }

/-- A clean sample's step of the counter (R11). -/
def ChannelRec.countClean (r : ChannelRec) : ChannelRec :=
  let n := if r.pinned then r.counter else r.counter - 1
  { r with counter := n, valid := r.valid || n < r.limit }

/-! ## Plausibility (R6 to R8) -/

/-- The STEP check (R6): against the step reference rescaled, passed when there is none. -/
def State.failsStep (s : State) (c : Channel) (level : Int) (ref : Option Nat) : Bool :=
  match ref with
  | none => false
  | some ic => s.item 1 (c.base + 2) < |level - s.candidate c ic|

/-- The CROSS check of WW against the floats (R7) and of IN against the spill probe (R8). -/
def State.failsCross (s : State) (c : Channel) (level : Int) : Bool :=
  match c with
  | .ww =>
    (s.closed .hf && level < s.item 1 27 - s.item 1 29) || (!s.closed .lf && s.item 1 28 + s.item 1 29 < level)
  | .inlet => s.closed .sp && level - s.item 6 0 < s.item 6 35 - s.item 1 30
  | .sa => false
  | .sb => false

/-! ## Alarm status (R14 to R16) -/

/-- A status set at one test, cleared at another, otherwise unchanged; where both hold it is set (log 9). -/
def latch (set clear was : Bool) : Bool := if set then true else if clear then false else was

/-- HIGH after an accepted sample, against a high level and the deadband (R15, R16). -/
def highStatus (band : Band) (level high deadband : Int) (was : Bool) : Bool :=
  match band with
  | .lowClamp => false
  | .highClamp => true
  | .normal => latch (high ≤ level) (level ≤ high - deadband) was
  | .none => was
  | .loopOpen => was
  | .under => was
  | .over => was

/-- LOW after an accepted sample, against a low level and the deadband (R15). -/
def lowStatus (band : Band) (level low deadband : Int) (was : Bool) : Bool :=
  match band with
  | .lowClamp => true
  | .highClamp => false
  | .normal => latch (level ≤ low) (low + deadband ≤ level) was
  | .none => was
  | .loopOpen => was
  | .under => was
  | .over => was

/-- The alarm status of a record brought up to date by an accepted sample on a VALID channel (R14 to R16). -/
def State.alarmed (s : State) (c : Channel) (level : Int) (r : ChannelRec) : ChannelRec :=
  if r.valid then
    match c with
    | .ww =>
      { r with
        high := highStatus r.band level (s.item 1 20) (s.item 1 23) r.high
        low := lowStatus r.band level (s.item 1 21) (s.item 1 23) r.low }
    | .inlet => { r with high := highStatus r.band level (s.item 1 22) (s.item 1 23) r.high }
    | .sa => r
    | .sb => r
  else r

/-! ## The arrival -/

/-- The record and whether the sample was accepted, after one sample (R3 to R12, R14 to R16). -/
def State.sampled (s : State) (c : Channel) (current : Nat) : ChannelRec × Bool :=
  let i := min current 24000
  let r := (s.channel c).reconcile (s.itemNat 1 (c.base + 3)) (s.itemNat 1 (c.base + 4))
  let r := { r with band := bandOf i, current := i }
  match clampedCurrent i with
  | none => if bandOf i = .loopOpen then (r.openLoop, false) else (r.countFault (bandOf i).faultKind, false)
  | some ic =>
    let level := s.candidate c ic
    let ref := r.stepRef
    let r := { r with stepRef := some ic }
    if s.failsStep c level ref then (r.countFault .step, false)
    else
      let r := { r with level := some level }
      let r := if s.failsCross c level then r.countFault .cross else r.countClean
      (s.alarmed c level r, true)

/-- The report of a record to the channel's consumers (R13). -/
def ChannelRec.report (r : ChannelRec) (accepted : Bool) : ChannelReport := ⟨accepted, r.level, r.usable⟩

/-- The CH_x_INVALID source of a channel (R18). -/
def invalidSource : Channel → Source
  | .ww => .chWwInvalid
  | .inlet => .chInInvalid
  | .sa => .chSaInvalid
  | .sb => .chSbInvalid

/-- The condition sources of a channel reported at an arrival (R17, R18). -/
def reportChannel (c : Channel) (s : State) : State :=
  let r := s.channel c
  let s := match c with
    | .ww => (s.report .wwHigh (r.high && s.item 1 24 == 1)).report .wwLow (r.low && s.item 1 25 == 1)
    | .inlet => s.report .inHigh (r.high && s.item 1 26 == 1)
    | .sa => s
    | .sb => s
  s.report (invalidSource c) (!r.valid) (if r.valid then none else some (.fault r.lastFault))

/-- The channel report handed to the consumers of the channel (R13). -/
def handReport (c : Channel) (r : ChannelReport) (s : State) : State :=
  match c with
  | .ww => s.post (.wwReport r)
  | .inlet => screensReport .inlet r { s with spill := { s.spill with report := r } }
  | .sa => screensReport .sa r s
  | .sb => screensReport .sb r s

/-- A channel's sample timer with 200 ms to run (R2). -/
def State.restartSample (s : State) (c : Channel) : State :=
  { s with channels := { s.channels with sampleTimers := s.channels.sampleTimers.put c (some 200) } }

/-- A sample arrival, whole (R2). -/
def sampleArrives (c : Channel) (current : Nat) (s : State) : State :=
  let out := s.sampled c current
  let s := reportChannel c ((s.restartSample c).setChannel c out.1)
  settle (handReport c (out.1.report out.2) s)

/-- SAMPLE_ARRIVAL (R2): an arrival comes when the channel's sample timer runs. -/
def execSampleArrival (c : Channel) (current : Nat) (s : State) : Answered :=
  powered (fun s => if (s.channels.sampleTimers.get c).isSome then sampleArrives c current s else s) s

/-! ## Requests -/

/-- CLEAR_CHANNEL at the Level Channel Unit (R19). -/
def clearChannel (index : Nat) (s : State) : Answer :=
  match Channel.ofIndex index with
  | none => .refuse s .badIndex
  | some c =>
    if (s.channel c).band = .normal then .done (s.setChannel c { s.channel c with pinned := false })
    else .refuse s .stillFaulted

/-- CLEAR_CHANNEL (R19). -/
def execClearChannel (ans index : Nat) (s : State) : Answered := addressed 0x1E (privileged ans (clearChannel index)) s

/-- The wire layout of a channel record (R20, R186). -/
def channelChars (s : State) (n : Nat) : List Byte :=
  match Channel.ofIndex n with
  | none => []
  | some c =>
    let r := s.channel c
    [byte n] ++ signedOr r.level ++
      [flagByte [!r.valid, !r.usable, r.pinned, c.keepsAlarms && r.high, c == .ww && r.low], byte r.counter,
       byte r.lastFault.code, byte r.band.code] ++ word r.current ++ [byte r.limit, byte r.hold]

/-- READ_CHANNELS at the Level Channel Unit (R20). -/
def readChannels (start count : Nat) (s : State) : Answer := readRecords 4 (channelChars s) start count s

/-- READ_CHANNELS (R20). -/
def execReadChannels (start count : Nat) (s : State) : Answered := addressed 0x02 (readChannels start count) s

end Sys2Proof.Machine
end

