-- ==== Sys2Proof/Machine/Episodes.lean ====
section
/-! DEFINITION. The commands of the Spill Meter and the Episode Table (chapters 7 and 8): the integration, the qualify and
merge timers, retirement, READ_EPISODES and READ_ACCUMULATOR. -/

namespace Sys2Proof.Machine

/-! ## Timers -/

/-- INTEGRATION_TIMER_EXPIRY (R126). -/
def execIntegrationTimerExpiry (s : State) : Answered :=
  powered (fun s => if s.spill.integrationTimer.isSome then settle (integrate s) else s) s

/-- QUALIFY_TIMER_EXPIRY (R147): the opening. -/
def execQualifyTimerExpiry (s : State) : Answered :=
  powered (fun s => if s.episodes.qualifyTimer.isSome then settle (openEpisode s) else s) s

/-- MERGE_TIMER_EXPIRY (R152): settlement. -/
def execMergeTimerExpiry (s : State) : Answered :=
  powered (fun s => if s.episodes.mergeTimer.isSome then settle (settleEpisode s) else s) s

/-! ## Retirement -/

/-- The slot a request names. -/
def slotOf (n : Nat) : Option (Fin 16) := if h : n < 16 then some ⟨n, h⟩ else none

/-- The record in the slot a request names, with its slot (R153). -/
def EpisodeTable.named (t : EpisodeTable) (n : Nat) : Option (Fin 16 × Episode) :=
  (slotOf n).bind fun i => (t.slots.get i).map fun e => (i, e)

/-- RETIRE_EPISODE at the Episode Table (R153). -/
def retireEpisode (slot serial : Nat) (s : State) : Answer :=
  match s.episodes.named slot with
  | none => .refuse s .badIndex
  | some (i, e) =>
    if serial ≠ e.serial then ⟨s, .stale, word e.serial⟩
    else if e.state ≠ .closed then .refuse s .notSettled
    else .done (reportFull (s.setEpisodes (s.episodes.setSlot i none)))

/-- RETIRE_EPISODE (R153). -/
def execRetireEpisode (slot serial : Nat) (s : State) : Answered := addressed 0x11 (retireEpisode slot serial) s

/-- RETIRE_ACCUMULATOR at the Episode Table (R154). -/
def retireAccumulator (count : Nat) (s : State) : Answer :=
  if count ≠ s.episodes.acc.count then ⟨s, .stale, word s.episodes.acc.count⟩
  else if s.episodes.acc.current.isSome then .refuse s .notSettled
  else .done (s.setEpisodes { s.episodes with acc := .empty })

/-- RETIRE_ACCUMULATOR (R154). -/
def execRetireAccumulator (count : Nat) (s : State) : Answered := addressed 0x13 (retireAccumulator count) s

/-! ## Reads -/

/-- The wire layout of an episode entry (R156, R186): a FREE slot ends after its state. -/
def episodeChars (s : State) (n : Nat) : List Byte :=
  match s.episodes.named n with
  | none => [byte n, byte 0]
  | some (_, e) =>
    let t := e.tally
    [byte n, byte e.state.code] ++ word e.serial ++ long e.start ++ long (e.finish.getD 0) ++ long t.seconds ++
      long t.litres ++ signed t.peakHead ++ word t.peakFlow ++ long t.peakTime ++ word t.tips ++
      [flagByte t.causes.bits, flagByte t.flags.bits, byte e.merges, byte e.stormAtOpen.code]

/-- READ_EPISODES at the Episode Table (R156). -/
def readEpisodes (start count : Nat) (s : State) : Answer := readRecords 16 (episodeChars s) start count s

/-- READ_EPISODES (R156). -/
def execReadEpisodes (start count : Nat) (s : State) : Answered := addressed 0x10 (readEpisodes start count) s

/-- The in-progress part of the accumulator record: flags, start and end, 0 where absent (R142, R186). -/
def progressChars : Option AccProgress → List Byte
  | none => flagByte [false, false] :: (long 0 ++ long 0)
  | some p => flagByte [true, p.closing] :: (long p.start ++ long (p.finish.getD 0))

/-- The wire layout of the accumulator record (R156, R186). -/
def accumulatorChars (a : Accumulator) : List Byte :=
  let t := a.tally
  word a.count ++ progressChars a.current ++ long t.seconds ++ long t.litres ++ signed t.peakHead ++ word t.peakFlow ++
    long t.peakTime ++ word t.tips ++ long a.earliest ++ long a.latest ++
    [flagByte t.causes.bits, flagByte t.flags.bits] ++ word a.firstSerial ++ word a.lastSerial ++ word a.merges

/-- READ_ACCUMULATOR at the Episode Table (R156). -/
def readAccumulator (s : State) : Answer := ⟨s, .ok, accumulatorChars s.episodes.acc⟩

/-- READ_ACCUMULATOR (R156). -/
def execReadAccumulator (s : State) : Answered := addressed 0x12 readAccumulator s

end Sys2Proof.Machine
end

