-- ==== Sys2Proof/Machine/Pumps.lean ====
section
/-! DEFINITION. The Pump Roster's commands (chapter 3), with the changeover timer of chapter 4: the second, the pumps' timers,
PUMP_RESET, PUMP_FORCE, PUMP_SERVICE and READ_PUMPS. -/

namespace Sys2Proof.Machine

/-! ## The second (R48) -/

/-- One second in a pump record: run seconds, seconds in state, and the window's ages (R48). -/
def PumpRec.second (running : Bool) (p : PumpRec) : PumpRec :=
  { p with
    runSeconds := if running then satAdd 4294967295 p.runSeconds 1 else p.runSeconds
    secondsInState := satAdd 4294967295 p.secondsInState 1
    window := (p.window.map fun e => { e with age := e.age + 1 }).dropWhile fun e => 3600 ≤ e.age }

/-- One second at one bay, not ABSENT (R48). -/
def bayExpires (b : Bay) (s : State) : State :=
  if (s.pump b).state = .absent then s
  else judgeStartLimited b (s.modPump b (·.second (s.feedback b)))

/-- The Roster's second (R48). -/
def rosterSecond (s : State) : State :=
  forBays bayExpires { s with roster := { s.roster with secondTimer := some 1000 } }

/-- ROSTER_SECOND_TIMER_EXPIRY (R48). -/
def execRosterSecondTimerExpiry (s : State) : Answered :=
  powered (fun s => if s.roster.secondTimer.isSome then settle (rosterSecond s) else s) s

/-! ## The timers of a pump -/

/-- FEEDBACK_LOSS_TIMER_EXPIRY (R55): LOCKED_OUT with FEEDBACK_LOST. -/
def execFeedbackLossTimerExpiry (b : Bay) (s : State) : Answered :=
  powered (fun s => if (s.pump b).feedbackLoss.isSome then settle (lockOut b .feedbackLost s) else s) s

/-- STOP_CONFIRM_TIMER_EXPIRY (R56): LOCKED_OUT with FAIL_TO_STOP, the feedback still on. -/
def execStopConfirmTimerExpiry (b : Bay) (s : State) : Answered :=
  powered (fun s =>
    if (s.pump b).stopConfirm.isSome then
      if s.feedback b then settle (lockOut b .failToStop s) else settle (stopConfirmed b s)
    else s) s

/-- The min run is served (R54): a pump not in the last wanted set stops. -/
def minRunServed (b : Bay) (s : State) : State :=
  let s := s.modPump b fun p => { p with minRun := none }
  if (s.pump b).state = .running ∧ s.duty.wanted.contains b = false then goStopping b s else s

/-- MIN_RUN_TIMER_EXPIRY (R54). -/
def execMinRunTimerExpiry (b : Bay) (s : State) : Answered :=
  powered (fun s => if (s.pump b).minRun.isSome then settle (minRunServed b s) else s) s

/-- The min rest is served (R57): IDLE, START_LIMITED judged, the queue test. -/
def minRestServed (b : Bay) (s : State) : State :=
  let s := s.modPump b fun p => { p with minRest := none }
  if (s.pump b).state = .resting then judgeStartLimited b (goIdle b s) else s

/-- MIN_REST_TIMER_EXPIRY (R57). -/
def execMinRestTimerExpiry (b : Bay) (s : State) : Answered :=
  powered (fun s => if (s.pump b).minRest.isSome then settle (minRestServed b s) else s) s

/-- The restart hold ends (R68): the queue test is made, and the Arbiter is told and makes the grant test (R91). -/
def holdEnds (s : State) : State :=
  let s := { s with roster := { s.roster with restartHold := none } }
  grantTest ({ s with arbiter := { s.arbiter with holdExpired := true } }.post .queueTest)

/-- RESTART_HOLD_EXPIRY (R68). -/
def execRestartHoldExpiry (s : State) : Answered :=
  powered (fun s => if s.roster.restartHold.isSome then settle (holdEnds s) else s) s

/-- CHANGEOVER_TIMER_EXPIRY (R84): an event at the Duty Controller. -/
def execChangeoverTimerExpiry (b : Bay) (s : State) : Answered :=
  powered (fun s =>
    if (s.duty.changeoverTimer.get b).isSome then settle (s.post (.changeover b)) else s) s

/-! ## Requests -/

/-- The bay a request names: one of 1 to 4 that is not ABSENT (R62, R64, R65). -/
def State.namedBay (s : State) (n : Nat) : Option Bay :=
  match Bay.ofNumber n with
  | none => none
  | some b => if (s.pump b).state = .absent then none else some b

/-- PUMP_RESET at the Pump Roster (R62). -/
def pumpReset (bay : Nat) (s : State) : Answer :=
  match s.namedBay bay with
  | none => .refuse s .badIndex
  | some b =>
    if (s.pump b).selector ≠ .auto then .refuse s .localControl
    else if (s.pump b).state ≠ .lockedOut then .done s
    else if s.overloadTripped b then .refuse s .stillFaulted
    else .done (releaseLockout b s)

/-- PUMP_RESET (R62). -/
def execPumpReset (ans bay : Nat) (s : State) : Answered := addressed 0x0B (privileged ans (pumpReset bay)) s

/-- The forced mode a request value names (R64). -/
def forcedOf : Nat → Option Forced
  | 0 => some .none
  | 1 => some .run
  | 2 => some .stop
  | _ => none

/-- PUMP_FORCE at the Pump Roster (R64). -/
def pumpForce (bay mode : Nat) (s : State) : Answer :=
  match forcedOf mode with
  | none => .refuse s .badRequest
  | some f =>
    match s.namedBay bay with
    | none => .refuse s .badIndex
    | some b =>
      if (s.pump b).selector ≠ .auto then .refuse s .localControl
      else if (s.pump b).inService = false ∧ f ≠ .none then .refuse s .conflict
      else .done (setForced b f s)

/-- PUMP_FORCE (R64). -/
def execPumpForce (ans bay mode : Nat) (s : State) : Answered := addressed 0x0A (privileged ans (pumpForce bay mode)) s

/-- A pump made OUT_OF_SERVICE, by state (R50, R53, R54, R56, R57, R65); the forced mode is handed over first (log 28). -/
def outOfService (b : Bay) (s : State) : State :=
  let s := setForced b .none (s.modPump b fun p => { p with inService := false })
  match (s.pump b).state with
  | .idle => goUnavailable b s
  | .resting => goUnavailable b s
  | .queued => goUnavailable b s
  | .starting => goStopping b s
  | .running => goStopping b s
  | .absent => s
  | .unavailable => s
  | .stopping => s
  | .lockedOut => s

/-- A pump made IN_SERVICE (R47, R65). -/
def intoService (b : Bay) (s : State) : State :=
  let s := s.modPump b fun p => { p with inService := true }
  if (s.pump b).state = .unavailable then leaveUnavailable b s else s

/-- PUMP_SERVICE at the Pump Roster (R65). -/
def pumpService (bay value : Nat) (s : State) : Answer :=
  if 1 < value then .refuse s .badRequest
  else
    match s.namedBay bay with
    | none => .refuse s .badIndex
    | some b =>
      if (s.pump b).selector ≠ .auto then .refuse s .localControl
      else if (s.pump b).inService = (value == 0) then .done s
      else if value = 0 then .done (intoService b s)
      else .done (outOfService b s)

/-- PUMP_SERVICE (R65). -/
def execPumpService (ans bay value : Nat) (s : State) : Answered :=
  addressed 0x09 (privileged ans (pumpService bay value)) s

/-- The seconds until the oldest entry of a window ages out, 0 if there is none (R66). -/
def oldestLeaves : List StartEntry → Nat
  | [] => 0
  | e :: _ => 3600 - e.age

/-- The bay a record index names: index 0 is bay 1 (R66). -/
def Bay.ofIndex (n : Nat) : Option Bay := Bay.ofNumber (n + 1)

/-- The wire layout of a pump record (R66, R186). -/
def pumpChars (s : State) (n : Nat) : List Byte :=
  match Bay.ofIndex n with
  | none => []
  | some b =>
    let p := s.pump b
    [byte b.number, byte p.state.code,
     byte (p.selector.code + (if p.inService then 0 else 4) + 8 * p.forced.code), byte (LockoutReason.code p.reason),
     flagByte [p.degraded, p.startLimited, p.changeoverDue, s.feedback b, s.overloadTripped b, s.closed (.sealLeak b)]] ++
      long p.runSeconds ++ long p.startsTotal ++ [byte p.lockouts] ++ long p.secondsInState ++
      [byte p.window.length] ++ word (oldestLeaves p.window)

/-- READ_PUMPS at the Pump Roster (R66). -/
def readPumps (start count : Nat) (s : State) : Answer := readRecords 4 (pumpChars s) start count s

/-- READ_PUMPS (R66). -/
def execReadPumps (start count : Nat) (s : State) : Answered := addressed 0x08 (readPumps start count) s

end Sys2Proof.Machine
end

