-- ==== Sys2Proof/Machine/Rainfall.lean ====
section
/-! DEFINITION. The Rainfall Unit's commands (chapter 2): tips, the bin close, the dry timer, CLEAR_RAIN and READ_RAIN. -/

namespace Sys2Proof.Machine

/-- The counts and timers of a counted tip in the Rainfall Unit (R29, R30), with whether it restarted the dry timer
(log 34). -/
def Rain.countTip (dryMinutes : Nat) (r : Rain) : Rain :=
  { r with
    openBin := satAdd 255 r.openBin 1
    total := satAdd 4294967295 r.total 1
    dryTimer := some (minutes dryMinutes)
    dryRestarted := r.dryTimer.isSome
    bounceTimer := some 250 }

/-- A counted tip, with all its effects (R30, R37). -/
def countTip (s : State) : State :=
  let s := episodeTip { s with rain := s.rain.countTip (s.itemNat 2 5) }
  if s.rain.storm = .dry then setStorm .wet s else s

/-- TIP_ARRIVAL (R29): ignored as bounce while the bounce timer runs. -/
def execTipArrival (s : State) : Answered :=
  powered (fun s => if s.rain.bounceTimer.isSome then s else settle (countTip s)) s

/-- BOUNCE_TIMER_EXPIRY (R29). -/
def execBounceTimerExpiry (s : State) : Answered :=
  powered (fun s => { s with rain := { s.rain with bounceTimer := none } }) s

/-- The bin close, in the order of R31. -/
def closeBin (s : State) : State :=
  judgeStorm { s with rain := s.rain.closeBin (s.itemNat 2 1) (s.itemNat 2 0) }

/-- BIN_CLOSE (R31): the expiry of the minute timer. -/
def execBinClose (s : State) : Answered :=
  powered (fun s => if s.rain.minuteTimer.isSome then settle (closeBin s) else s) s

/-- A dry timer's expiry comes together with a counted tip that was taken first: the tip restarted the running timer, and no
millisecond has passed since, so its bounce timer stands at its full 250 ms (R37, log 34). -/
def Rain.tippedFirst (r : Rain) : Bool := r.dryRestarted && r.bounceTimer == some 250

/-- The expiry that a counted tip came before: the timer has restarted, and the state stays as it is (R37, log 34). -/
def lateExpiry (s : State) : State := { s with rain := { s.rain with dryRestarted := false } }

/-- The dry timer's expiry (R37). -/
def dryOut (s : State) : State :=
  let s := { s with rain := { s.rain with dryTimer := none } }
  if s.rain.storm = .wet then setStorm .dry s else s

/-- DRY_TIMER_EXPIRY (R37): it acts while the dry timer runs, but for one that comes together with the tip before it
(log 34). -/
def execDryTimerExpiry (s : State) : Answered :=
  powered (fun s =>
    if s.rain.dryTimer.isNone then s else if s.rain.tippedFirst then lateExpiry s else settle (dryOut s)) s

/-- CLEAR_RAIN at the Rainfall Unit (R39). -/
def clearRain (s : State) : Answer :=
  ⟨{ s with rain := { s.rain with total := 0, clearedAt := s.clock.time } }, .ok, long s.rain.total⟩

/-- CLEAR_RAIN (R39). -/
def execClearRain (s : State) : Answered := addressed 0x15 clearRain s

/-- The wire layout of the rain record (R40, R186). -/
def rainChars (r : Rain) : List Byte :=
  long r.total ++ long r.clearedAt ++ word r.intensity ++ [byte r.storm.code, byte r.quiet, byte r.openBin] ++
    r.closedBins.map byte

/-- READ_RAIN at the Rainfall Unit (R40). -/
def readRain (s : State) : Answer := ⟨s, .ok, rainChars s.rain⟩

/-- READ_RAIN (R40). -/
def execReadRain (s : State) : Answered := addressed 0x14 readRain s

end Sys2Proof.Machine
end

