-- ==== Sys2Proof/Machine/RemoteAuthority.lean ====
section
/-! DEFINITION. The Authority Monitor's commands (chapter 11): OPEN_AUTHORITY, ANSWER, RELEASE_AUTHORITY, RESTART and the two
timers. -/

namespace Sys2Proof.Machine

/-- OPEN_AUTHORITY at the Authority Monitor (R189, log 19). -/
def openAuthority (s : State) : Answer :=
  if s.authority.permit then
    match s.authority.state with
    | .none => .done (challenge s)
    | .challenged => .done (challenge s)
    | .granted => .done s
    | .barred => .refuse s .barred
  else .refuse s .notPermitted

/-- OPEN_AUTHORITY (R189). -/
def execOpenAuthority (s : State) : Answered := addressed 0x1A openAuthority s

/-- ANSWER at the Authority Monitor (R189). -/
def answerChallenge (value : Nat) (s : State) : Answer :=
  match s.authority.state with
  | .none => .refuse s .noAuthority
  | .challenged =>
    if value = s.expectedAnswer then .done (grantAnew s) else .refuse (countFailure s) .noAuthority
  | .granted =>
    if value = s.expectedAnswer then .done (grantAuthority s) else .refuse (lapse (countFailure s)) .noAuthority
  | .barred => .refuse s .barred

/-- ANSWER (R189). -/
def execAnswer (value : Nat) (s : State) : Answered := addressed 0x1B (answerChallenge value) s

/-- RELEASE_AUTHORITY at the Authority Monitor (R189). -/
def releaseAuthority (s : State) : Answer :=
  match s.authority.state with
  | .none => .done s
  | .challenged => .done (dropAuthority s)
  | .granted => .done (lapse (dropAuthority s))
  | .barred => .refuse s .barred

/-- RELEASE_AUTHORITY (R189). -/
def execReleaseAuthority (s : State) : Answered := addressed 0x1C releaseAuthority s

/-- ANSWER_WINDOW_EXPIRY (R191). -/
def execAnswerWindowExpiry (s : State) : Answered :=
  powered (fun s => if s.authority.answerTimer.isSome then countFailure s else s) s

/-- SUPERVISION_TIMER_EXPIRY (R191): a lapse with a failure counted. -/
def execSupervisionTimerExpiry (s : State) : Answered :=
  powered (fun s => if s.authority.supervisionTimer.isSome then settle (lapse (countFailure s)) else s) s

/-- RESTART once the monitor has let it through (R194). -/
def restartRequest (s : State) : Answer :=
  if s.store.commit.isSome then .refuse s .busy
  else .done (s.setLine { s.line with restartPending := true })

/-- RESTART (R194). -/
def execRestart (ans : Nat) (s : State) : Answered := addressed 0x1D (privileged ans restartRequest) s

end Sys2Proof.Machine
end

