-- ==== Sys2Proof/Machine/Screens.lean ====
section
/-! DEFINITION. The Screen Controller's commands (chapter 6): its timers, SCREEN_INHIBIT, SCREEN_RAKE, SCREEN_RESET and
READ_SCREENS. -/

namespace Sys2Proof.Machine

/-! ## Timers -/

/-- INTERVAL_TIMER_EXPIRY (R112). -/
def execIntervalTimerExpiry (x : Screen) (s : State) : Answered :=
  powered (fun s => if (s.screen x).interval.elapsed.isSome then settle (intervalExpired x s) else s) s

/-- STROKE_TIMER_EXPIRY (R115). -/
def execStrokeTimerExpiry (x : Screen) (s : State) : Answered :=
  powered (fun s => if (s.screen x).strokeTimer.isSome then settle (strokeExpired x s) else s) s

/-- CLEAR_TIMER_EXPIRY (R114). -/
def execClearTimerExpiry (x : Screen) (s : State) : Answered :=
  powered (fun s => if (s.screen x).clearTimer.isSome then settle (clearExpired x s) else s) s

/-! ## Requests -/

/-- The screen a request names: 0 or 1, and in use (R119 to R121). -/
def State.namedScreen (s : State) (n : Nat) : Option Screen :=
  match Screen.ofIndex n with
  | none => none
  | some x => if (s.screen x).inUse then some x else none

/-- SCREEN_INHIBIT at the Screen Controller (R119). -/
def screenInhibit (screen value : Nat) (s : State) : Answer :=
  if 1 < value then .refuse s .badRequest
  else
    match s.namedScreen screen with
    | none => .refuse s .badIndex
    | some x =>
      if (s.screen x).selectorAuto = false then .refuse s .localControl
      else .done (if value = 1 then inhibitOn x s else inhibitOff x s)

/-- SCREEN_INHIBIT (R119). -/
def execScreenInhibit (ans screen value : Nat) (s : State) : Answered :=
  addressed 0x0E (privileged ans (screenInhibit screen value)) s

/-- SCREEN_RAKE at the Screen Controller (R120): the reply carries the state after the trigger. -/
def screenRake (screen : Nat) (s : State) : Answer :=
  match s.namedScreen screen with
  | none => .refuse s .badIndex
  | some x =>
    if (s.screen x).selectorAuto = false then .refuse s .localControl
    else
      let t := trigger x s
      ⟨t, .ok, [byte (t.screen x).state.code]⟩

/-- SCREEN_RAKE (R120). -/
def execScreenRake (screen : Nat) (s : State) : Answered := addressed 0x0D (screenRake screen) s

/-- SCREEN_RESET at the Screen Controller (R121). -/
def screenReset (screen : Nat) (s : State) : Answer :=
  match s.namedScreen screen with
  | none => .refuse s .badIndex
  | some x =>
    if (s.screen x).selectorAuto = false then .refuse s .localControl
    else if (s.screen x).state ≠ .jammed then .done s
    else if s.rakeTripped x then .refuse s .stillFaulted
    else .done (clearJam x s)

/-- SCREEN_RESET (R121). -/
def execScreenReset (ans screen : Nat) (s : State) : Answered := addressed 0x0F (privileged ans (screenReset screen)) s

/-- The seconds until an interval timer's expiry, 0 if it is stopped (R122, log 15). -/
def IntervalTimer.left (t : IntervalTimer) : Nat :=
  match t.elapsed with
  | none => 0
  | some ms => (Sys2Proof.Machine.minutes t.minutes - ms) / 1000

/-- The wire layout of a screen record (R122, R186). -/
def screenChars (s : State) (n : Nat) : List Byte :=
  match Screen.ofIndex n with
  | none => []
  | some x =>
    let r := s.screen x
    [byte n, byte r.state.code,
     flagByte [r.inUse, r.selectorAuto, r.inhibit, r.pending, r.overloadSeen, r.resetMark, r.blinded],
     byte (JamReason.code r.jam),
     flagByte [s.closed (.topLimit x), s.closed (.homeLimit x), s.rakeTripped x, r.forward, r.reverse]] ++
      signedOr r.differential ++ long r.cycles ++ long r.lastCycle ++ word r.interval.minutes ++ word r.interval.left

/-- READ_SCREENS at the Screen Controller (R122). -/
def readScreens (start count : Nat) (s : State) : Answer := readRecords 2 (screenChars s) start count s

/-- READ_SCREENS (R122). -/
def execReadScreens (start count : Nat) (s : State) : Answered := addressed 0x0C (readScreens start count) s

end Sys2Proof.Machine
end

