-- ==== Sys2Proof/Machine/SettingsClock.lean ====
section
/-! DEFINITION. The commands of the part's supply, the Settings Store and the Station Clock (chapter 12): COLD_START,
WARM_SUPPLY_RESTART, SUPPLY_LOSS, READ_SETTINGS, WRITE_SETTING, commits, SET_CLOCK and the clock's second. -/

namespace Sys2Proof.Machine

/-! ## Supply of the part -/

/-- COLD_START (R200): power applied after the retained state was lost. A part that has supply loses it first
(log 20). -/
def execColdStart (s : State) : Answered := .next (restart .cold (loseSupply s))

/-- WARM_SUPPLY_RESTART (R172, R200): recovery from a supply dip with the retained state held (log 20). -/
def execWarmSupplyRestart (s : State) : Answered := .next (restart .warmSupply (loseSupply s))

/-- SUPPLY_LOSS (R199). -/
def execSupplyLoss (s : State) : Answered := .next (loseSupply s)

/-! ## Settings -/

/-- READ_SETTINGS at the Settings Store (R183, R196). -/
def readSettings (table start count : Nat) (s : State) : Answer :=
  match tableSize table with
  | none => .refuse s .badIndex
  | some size => readRecords size (fun i => signed (s.item table i)) start count s

/-- READ_SETTINGS (R196). -/
def execReadSettings (table start count : Nat) (s : State) : Answered := addressed 0x16 (readSettings table start count) s

/-- An item of the working copy written (R197). -/
def State.setItem (s : State) (table item : Nat) (v : Int) : State :=
  { s with store := { s.store with working := s.store.working.write table item v } }

/-- The source whose severity or reportable an item of T8 sets (R171). -/
def configuredSource (item : Nat) : Option Source := Source.ofIndex (item % 25)

/-- A record's severity or reportable set by a write of an item of T8 (R171). -/
def CondRec.configureItem (σ : Settings) (item : Nat) (r : CondRec) : CondRec :=
  if item < 25 then { r with urgent := σ.get 8 item == 1 } else { r with reportable := σ.get 8 item == 1 }

/-- What a write does at the write itself: severities and report items (R171), supply limits (R100). -/
def writeEffects (table item : Nat) (s : State) : State :=
  if table = 8 then
    match configuredSource item with
    | some src => { s with conditions := s.conditions.modify src (·.configureItem s.store.working item) }
    | none => s
  else if table = 3 ∧ (item = 10 ∨ item = 11) then limitWritten s
  else s

/-- The writing of a value into an item that exists, with no commit in progress (R197). -/
def writeItem (table item : Nat) (value : Int) (s : State) : Answer :=
  let v := s.store.working.taken table item value
  if s.store.working.sound table item v then
    ⟨writeEffects table item (s.setItem table item v), if v = value then .ok else .adjusted,
     [byte table, byte item] ++ signed v⟩
  else .refuse s .conflict

/-- WRITE_SETTING at the Settings Store (R197). -/
def writeSetting (table item : Nat) (value : Int) (s : State) : Answer :=
  match tableSize table with
  | none => .refuse s .badIndex
  | some size =>
    if size ≤ item then .refuse s .badIndex
    else if s.store.commit.isSome then .refuse s .busy
    else writeItem table item value s

/-- WRITE_SETTING (R197). -/
def execWriteSetting (ans table item : Nat) (value : Int) (s : State) : Answered :=
  addressed 0x17 (privileged ans (writeSetting table item value)) s

/-- The most milliseconds a commit takes (R198). -/
def commitTime : Nat := 2000

/-- COMMIT_SETTINGS at the Settings Store (R198): the marker is cleared and the commit begins. -/
def commitSettings (s : State) : Answer :=
  if s.store.commit.isSome then .refuse s .busy
  else .done { s with store := { s.store with marker := false, commit := some commitTime } }

/-- COMMIT_SETTINGS (R198). -/
def execCommitSettings (ans : Nat) (s : State) : Answered := addressed 0x18 (privileged ans commitSettings) s

/-- COMMIT_COMPLETION (R198): the stored copy is the working copy, the marker is written and the commit ends. -/
def execCommitCompletion (s : State) : Answered :=
  powered (fun s =>
    if s.store.commit.isSome then
      { s with store := { s.store with stored := s.store.working, marker := true, commit := none } }
    else s) s

/-! ## The station clock -/

/-- The range of the station time (R201). -/
def timeRange : Nat := 4294967296

/-- The station time set (R202). -/
def setClock (time : Nat) (s : State) : State :=
  { s with clock := { s.clock with time := time % timeRange, isSet := true } }

/-- SET_CLOCK at the Station Clock (R202). -/
def setClockRequest (time : Nat) (s : State) : Answer := .done (setClock time s)

/-- A broadcast SET_CLOCK: the whole good broadcast frame that carries it, with no reply (R180, R202, log 6). -/
def broadcastClock (time : Nat) (s : State) : State :=
  let t := addressCharacter 0 s
  if t.line.receiver = .receiving then endBroadcast (setClock time t) else t

/-- SET_CLOCK (R202), addressed or broadcast. -/
def execSetClock (broadcast : Bool) (time : Nat) (s : State) : Answered :=
  if broadcast then powered (broadcastClock time) s else addressed 0x19 (setClockRequest time) s

/-- CLOCK_SECOND_EXPIRY (R201). -/
def execClockSecondExpiry (s : State) : Answered :=
  powered (fun s =>
    if s.clock.secondTimer.isSome then
      { s with clock := { s.clock with time := (s.clock.time + 1) % timeRange, secondTimer := some 1000 } }
    else s) s

end Sys2Proof.Machine
end

