-- ==== Sys2Proof/Machine/StatusRecord.lean ====
section
/-! DEFINITION. READ_STATUS (R87, R105, R137, R156, R168, R180, R186): the status record of 51 characters. -/

namespace Sys2Proof.Machine

/-- Bay numbers in four characters, 0 after the last (R186). -/
def bayList (l : List Bay) : List Byte := ((l.map fun b => byte b.number) ++ List.replicate 4 (byte 0)).take 4

/-- A held pump, 0 for none (R186). -/
def heldChar : Option Bay → Byte
  | none => byte 0
  | some b => byte b.number

/-- The condition summary: bit n set for index n (R186). -/
def summaryBits (l : List Source) : Nat := bitsToNat (Source.all.map fun i => l.contains i)

/-- Where the episode in progress stands: a slot, 16 for the accumulator, 255 for none (R186). -/
def InProgress.char : InProgress → Byte
  | .none => byte 255
  | .slot i => byte i.val
  | .accumulator => byte 16

/-- Its state: 0 none, 1 OPEN, 2 CLOSING (R186). -/
def progressChar : Option EpisodeState → Byte
  | none => byte 0
  | some .opened => byte 1
  | some .closing => byte 2
  | some .closed => byte 0

/-- The present flow (R137): the rated flow with the IN report usable VALID, the flow used otherwise. A usable VALID
report since the last integration with the rated flow UNKNOWN gives a free value (log 8). -/
def State.presentFlow (s : State) : List Byte :=
  if s.spill.report.usable then
    match s.spill.rated with
    | some q => word q
    | none => word (Config.unstatedFlow s.freeCount).toNat
  else word s.spill.flowUsed

/-- Pending spill seconds and volume, 0 when not qualifying (R186). -/
def pendingChars : Option Accumulation → List Byte
  | none => long 0 ++ long 0
  | some a => long a.tally.seconds ++ long a.tally.litres

/-- The status record (R186). -/
def statusChars (s : State) : List Byte :=
  [byte s.restartCause.code,
   flagByte [s.clock.isSet, s.line.latch, s.store.commit.isSome, s.duty.cutoff, s.arbiter.holdExpired, s.supply.mains,
     s.supply.generator, s.spill.spWet]] ++
    long s.clock.time ++ [byte s.supply.state.code, byte s.supply.limit] ++ word (secondsLeft s.supply.restoreTimer) ++
    [byte s.rain.storm.code, byte s.duty.stage, byte s.duty.profile.code] ++ bayList s.duty.order ++
    [byte s.arbiter.state.code, heldChar s.arbiter.held] ++ bayList s.arbiter.queue ++ [byte s.arbiter.health.code] ++
    long (summaryBits s.conditions.summary) ++
    [byte s.episodes.occupied, s.episodes.inProgress.char, progressChar s.episodes.progressState,
     flagByte [s.episodes.qualifying, s.spill.spilling, s.spill.basis == .probe, s.spill.above]] ++
    word s.episodes.serialCounter ++ signedOr s.spill.head ++ s.presentFlow ++ word s.spill.held ++
    signed s.spill.rating.crest ++ [byte s.spill.rating.points.length] ++ pendingChars s.spill.accumulation

/-- READ_STATUS taken: the record, and the line-fault latch cleared (R178, R180). The free-value counter moves on
(log 8). -/
def readStatus (s : State) : Answer :=
  ⟨{ s with line := { s.line with latch := false }, freeCount := s.freeCount + 1 }, .ok, statusChars s⟩

/-- READ_STATUS (R180). -/
def execReadStatus (s : State) : Answered := addressed 0x01 readStatus s

end Sys2Proof.Machine
end

