-- ==== Sys2Proof/Machine/Requests.lean ====
section
/-! DEFINITION. The request table of 10.9: the code and payload of each request command, the command a code and payload
carry, and the owner's answer to it. -/

namespace Sys2Proof

open Sys2Proof.Machine (byte word long signed ofWord ofLong ofSigned)

/-- A request command's code and payload characters (R186); none for a command that is not a request of an addressed
frame. -/
def Instr.request : Instr → Option (Nat × List Byte)
  | .readStatus => some (0x01, [])
  | .readChannels st c => some (0x02, [byte st, byte c])
  | .readConditions st c => some (0x03, [byte st, byte c])
  | .ackCondition i n => some (0x04, byte i :: word n)
  | .ackAll => some (0x05, [])
  | .shelve a i m => some (0x06, word a ++ byte i :: word m)
  | .unshelve a i => some (0x07, word a ++ [byte i])
  | .readPumps st c => some (0x08, [byte st, byte c])
  | .pumpService a b v => some (0x09, word a ++ [byte b, byte v])
  | .pumpForce a b m => some (0x0A, word a ++ [byte b, byte m])
  | .pumpReset a b => some (0x0B, word a ++ [byte b])
  | .readScreens st c => some (0x0C, [byte st, byte c])
  | .screenRake x => some (0x0D, [byte x])
  | .screenInhibit a x v => some (0x0E, word a ++ [byte x, byte v])
  | .screenReset a x => some (0x0F, word a ++ [byte x])
  | .readEpisodes st c => some (0x10, [byte st, byte c])
  | .retireEpisode i n => some (0x11, byte i :: word n)
  | .readAccumulator => some (0x12, [])
  | .retireAccumulator n => some (0x13, word n)
  | .readRain => some (0x14, [])
  | .clearRain => some (0x15, [])
  | .readSettings t st c => some (0x16, [byte t, byte st, byte c])
  | .writeSetting a t i v => some (0x17, word a ++ [byte t, byte i] ++ signed v)
  | .commitSettings a => some (0x18, word a)
  | .setClock _ t => some (0x19, long t)
  | .openAuthority => some (0x1A, [])
  | .answer v => some (0x1B, word v)
  | .releaseAuthority => some (0x1C, [])
  | .restart a => some (0x1D, word a)
  | .clearChannel a i => some (0x1E, word a ++ [byte i])
  | .coldStart | .warmSupplyRestart | .supplyLoss | .sampleArrival _ _ | .rawContactChange _ _
  | .filterTimerExpiry _ | .tipArrival | .bounceTimerExpiry | .binClose | .dryTimerExpiry | .rosterSecondTimerExpiry
  | .rampTimerExpiry | .gapTimerExpiry | .feedbackLossTimerExpiry _ | .stopConfirmTimerExpiry _ | .minRunTimerExpiry _
  | .minRestTimerExpiry _ | .restartHoldExpiry | .changeoverTimerExpiry _ | .restoreTimerExpiry
  | .intervalTimerExpiry _ | .strokeTimerExpiry _ | .clearTimerExpiry _ | .integrationTimerExpiry
  | .qualifyTimerExpiry | .mergeTimerExpiry | .shelveTimerExpiry _ | .receiveCharacter _ | .lineBreak
  | .gapLimitExpiry | .turnaroundTimerExpiry | .replySent | .linkTimerExpiry | .answerWindowExpiry
  | .supervisionTimerExpiry | .commitCompletion | .clockSecondExpiry => none

/-- The request command that a code and payload carry in an addressed frame; none where the code is not in the table or
the payload has another length, which is refused with BAD_REQUEST (R180). -/
def Instr.ofRequest (code : Nat) (p : List Byte) : Option Instr :=
  match code, p with
  | 0x01, [] => some .readStatus
  | 0x02, [st, c] => some (.readChannels st.toNat c.toNat)
  | 0x03, [st, c] => some (.readConditions st.toNat c.toNat)
  | 0x04, [i, n1, n0] => some (.ackCondition i.toNat (ofWord n1 n0))
  | 0x05, [] => some .ackAll
  | 0x06, [a1, a0, i, m1, m0] => some (.shelve (ofWord a1 a0) i.toNat (ofWord m1 m0))
  | 0x07, [a1, a0, i] => some (.unshelve (ofWord a1 a0) i.toNat)
  | 0x08, [st, c] => some (.readPumps st.toNat c.toNat)
  | 0x09, [a1, a0, b, v] => some (.pumpService (ofWord a1 a0) b.toNat v.toNat)
  | 0x0A, [a1, a0, b, m] => some (.pumpForce (ofWord a1 a0) b.toNat m.toNat)
  | 0x0B, [a1, a0, b] => some (.pumpReset (ofWord a1 a0) b.toNat)
  | 0x0C, [st, c] => some (.readScreens st.toNat c.toNat)
  | 0x0D, [x] => some (.screenRake x.toNat)
  | 0x0E, [a1, a0, x, v] => some (.screenInhibit (ofWord a1 a0) x.toNat v.toNat)
  | 0x0F, [a1, a0, x] => some (.screenReset (ofWord a1 a0) x.toNat)
  | 0x10, [st, c] => some (.readEpisodes st.toNat c.toNat)
  | 0x11, [i, n1, n0] => some (.retireEpisode i.toNat (ofWord n1 n0))
  | 0x12, [] => some .readAccumulator
  | 0x13, [n1, n0] => some (.retireAccumulator (ofWord n1 n0))
  | 0x14, [] => some .readRain
  | 0x15, [] => some .clearRain
  | 0x16, [t, st, c] => some (.readSettings t.toNat st.toNat c.toNat)
  | 0x17, [a1, a0, t, i, v1, v0] => some (.writeSetting (ofWord a1 a0) t.toNat i.toNat (ofSigned v1 v0))
  | 0x18, [a1, a0] => some (.commitSettings (ofWord a1 a0))
  | 0x19, [t3, t2, t1, t0] => some (.setClock false (ofLong t3 t2 t1 t0))
  | 0x1A, [] => some .openAuthority
  | 0x1B, [v1, v0] => some (.answer (ofWord v1 v0))
  | 0x1C, [] => some .releaseAuthority
  | 0x1D, [a1, a0] => some (.restart (ofWord a1 a0))
  | 0x1E, [a1, a0, i] => some (.clearChannel (ofWord a1 a0) i.toNat)
  | _, _ => none

end Sys2Proof

namespace Sys2Proof.Machine

/-- The owner's answer to a request command, the Authority Monitor asked first for a privileged one (R180). A command that
is no request of an addressed frame is refused with BAD_REQUEST. -/
def ownerAnswer : Instr → State → Answer
  | .readStatus => readStatus
  | .readChannels st c => readChannels st c
  | .readConditions st c => readConditions st c
  | .ackCondition i n => ackCondition i n
  | .ackAll => ackAll
  | .shelve a i m => privileged a (shelve i m)
  | .unshelve a i => privileged a (unshelve i)
  | .readPumps st c => readPumps st c
  | .pumpService a b v => privileged a (pumpService b v)
  | .pumpForce a b m => privileged a (pumpForce b m)
  | .pumpReset a b => privileged a (pumpReset b)
  | .readScreens st c => readScreens st c
  | .screenRake x => screenRake x
  | .screenInhibit a x v => privileged a (screenInhibit x v)
  | .screenReset a x => privileged a (screenReset x)
  | .readEpisodes st c => readEpisodes st c
  | .retireEpisode i n => retireEpisode i n
  | .readAccumulator => readAccumulator
  | .retireAccumulator n => retireAccumulator n
  | .readRain => readRain
  | .clearRain => clearRain
  | .readSettings t st c => readSettings t st c
  | .writeSetting a t i v => privileged a (writeSetting t i v)
  | .commitSettings a => privileged a commitSettings
  | .setClock _ t => setClockRequest t
  | .openAuthority => openAuthority
  | .answer v => answerChallenge v
  | .releaseAuthority => releaseAuthority
  | .restart a => privileged a restartRequest
  | .clearChannel a i => privileged a (clearChannel i)
  | .coldStart | .warmSupplyRestart | .supplyLoss | .sampleArrival _ _ | .rawContactChange _ _
  | .filterTimerExpiry _ | .tipArrival | .bounceTimerExpiry | .binClose | .dryTimerExpiry | .rosterSecondTimerExpiry
  | .rampTimerExpiry | .gapTimerExpiry | .feedbackLossTimerExpiry _ | .stopConfirmTimerExpiry _ | .minRunTimerExpiry _
  | .minRestTimerExpiry _ | .restartHoldExpiry | .changeoverTimerExpiry _ | .restoreTimerExpiry
  | .intervalTimerExpiry _ | .strokeTimerExpiry _ | .clearTimerExpiry _ | .integrationTimerExpiry
  | .qualifyTimerExpiry | .mergeTimerExpiry | .shelveTimerExpiry _ | .receiveCharacter _ | .lineBreak
  | .gapLimitExpiry | .turnaroundTimerExpiry | .replySent | .linkTimerExpiry | .answerWindowExpiry
  | .supervisionTimerExpiry | .commitCompletion | .clockSecondExpiry => fun s => .refuse s .badRequest

/-- The answer to a code and payload (R180): BAD_REQUEST where the table has no such request of that length. -/
def answerRequest (code : Nat) (payload : List Byte) (s : State) : Answer :=
  match Instr.ofRequest code payload with
  | some i => ownerAnswer i s
  | none => .refuse s .badRequest

end Sys2Proof.Machine
end

