-- ==== Sys2Proof/Machine/LineReceiver.lean ====
section
/-! DEFINITION. The Line Interface's commands (chapter 10): characters, breaks, frame completion and the line's timers. -/

namespace Sys2Proof.Machine

/-- A whole frame's last character has come: the characters from LEN through CHECK number LEN + 3 (R176). -/
def frameComplete : List Byte → Bool
  | [] => false
  | len :: rest => rest.length == len.toNat + 2

/-- The LEN of a frame is one that is kept: 1 to 64 (R176). -/
def lenKept : List Byte → Bool
  | [] => true
  | len :: _ => 1 ≤ len.toNat && len.toNat ≤ 64

/-- The characters a frame's check covers: LEN, REQ and the payload (R177). -/
def checkedPart (chars : List Byte) : List Byte := chars.take (chars.length - 2)

/-- A valid broadcast frame (R180): a SET_CLOCK of four characters is handed to the Station Clock, any other is not acted
on, and the receiver returns to WAITING. -/
def takeBroadcast (code : Nat) (payload : List Byte) (s : State) : State :=
  match code, payload with
  | 0x19, [t3, t2, t1, t0] => endBroadcast (setClock (ofLong t3 t2 t1 t0) s)
  | _, _ => endBroadcast s

/-- The frame's completion (R177). -/
def completeFrame (broadcast : Bool) (chars : List Byte) (s : State) : State :=
  if chars.drop (chars.length - 2) = checkChars (checkedPart chars) then
    match checkedPart chars with
    | _ :: req :: payload =>
      if broadcast then takeBroadcast req.toNat payload s
      else answerFrame req.toNat (answerRequest req.toNat payload) s
    | _ => abandonFrame s
  else abandonFrame s

/-- A good data character in RECEIVING (R176). -/
def takeCharacter (f : Frame) (d : Byte) (s : State) : State :=
  let chars := f.chars ++ [d]
  if lenKept chars = false then abandonFrame s
  else if frameComplete chars then completeFrame f.broadcast chars s
  else s.setLine { s.line with frame := some { f with chars := chars }, gapTimer := s.gapStart }

/-- A good data character (R175). -/
def dataCharacter (d : Byte) (s : State) : State :=
  match s.line.receiver, s.line.frame with
  | .receiving, some f => takeCharacter f d s
  | .receiving, none => s
  | .waiting, _ => s
  | .turnaround, _ => s
  | .sending, _ => s

/-- An errored character or a break (R175): it abandons a frame being received, and is ignored otherwise. -/
def lineError (s : State) : State :=
  match s.line.receiver with
  | .receiving => abandonFrame s
  | .waiting => s
  | .turnaround => s
  | .sending => s

/-- A received character (R174, R175). -/
def receive (c : Character) (s : State) : State :=
  if c.good then if c.mark then addressCharacter c.data.toNat s else dataCharacter c.data s
  else lineError s

/-- RECEIVE_CHARACTER (R175). -/
def execReceiveCharacter (c : Character) (s : State) : Answered := powered (receive c) s

/-- LINE_BREAK (R175). -/
def execLineBreak (s : State) : Answered := powered lineError s

/-- GAP_LIMIT_EXPIRY (R176): the frame is abandoned. -/
def execGapLimitExpiry (s : State) : Answered :=
  powered (fun s => if s.line.gapTimer.isSome then abandonFrame s else s) s

/-- TURNAROUND_TIMER_EXPIRY (R181): the reply is sent. -/
def execTurnaroundTimerExpiry (s : State) : Answered :=
  powered (fun s =>
    if s.line.turnaroundTimer.isSome then
      s.setLine { s.line with receiver := .sending, turnaroundTimer := none }
    else s) s

/-- The end of the last CHECK character of a reply (R181): WAITING, and the warm restart that RESTART set pending
(R194). -/
def replyEnds (s : State) : State :=
  if s.line.restartPending then restart .warmRequest s
  else s.setLine { s.line with receiver := .waiting, reply := none }

/-- REPLY_SENT (R181). -/
def execReplySent (s : State) : Answered :=
  powered (fun s => if s.line.receiver = .sending then replyEnds s else s) s

/-- LINK_TIMER_EXPIRY (R179). -/
def execLinkTimerExpiry (s : State) : Answered :=
  powered (fun s =>
    if s.line.linkTimer.isSome then (s.setLine { s.line with linkTimer := none }).report .linkLost true else s) s

end Sys2Proof.Machine
end

