-- ==== Sys2Proof/Machine/StarterSupply.lean ====
section
/-! DEFINITION. The commands of the Starter Arbiter and the Supply Monitor (chapter 5): ramp, gap and restore timers. -/

namespace Sys2Proof.Machine

/-- A pump enters RUNNING with its min-run timer at T3 item 1 (R52). -/
def goRunning (b : Bay) (s : State) : State :=
  (enterState b .running s).modPump b fun p => { p with minRun := some (seconds (s.itemNat 3 1)) }

/-- Ramp completion settled on the run feedback (R52). -/
def settleStart (b : Bay) (s : State) : State :=
  if (s.pump b).state = .starting then
    if s.feedback b then goRunning b s else lockOut b .failToStart s
  else s

/-- The ramp timer's expiry (R92): the starter is let go into GAP, the start settled, and the departure from RAMPING handed
to the Screen Controller. -/
def rampExpires (s : State) : State :=
  let held := s.arbiter.held
  let s := enterGap s
  let s := match held with
    | some b => settleStart b s
    | none => s
  screensRamping false s

/-- RAMP_TIMER_EXPIRY (R92). -/
def execRampTimerExpiry (s : State) : Answered :=
  powered (fun s => if s.arbiter.rampTimer.isSome then settle (rampExpires s) else s) s

/-- The gap timer's expiry (R94): from GAP, where alone it runs, the starter is IDLE and the grant test is made. -/
def gapExpires (s : State) : State :=
  if s.arbiter.state = .gap then grantTest { s with arbiter := { s.arbiter with gapTimer := none, state := .idle } }
  else { s with arbiter := { s.arbiter with gapTimer := none } }

/-- GAP_TIMER_EXPIRY (R94). -/
def execGapTimerExpiry (s : State) : Answered :=
  powered (fun s => if s.arbiter.gapTimer.isSome then settle (gapExpires s) else s) s

/-- RESTORE_TIMER_EXPIRY (R103). -/
def execRestoreTimerExpiry (s : State) : Answered :=
  powered (fun s => if s.supply.restoreTimer.isSome then settle (restoreExpired s) else s) s

end Sys2Proof.Machine
end

