-- ==== Sys2Proof/Machine/Dispatch.lean ====
section
/-! DEFINITION. The one meaning of each command: an arm for every constructor of Instr. -/

namespace Sys2Proof.Machine

def exec (i : Instr) (s : State) : Host.Outcome State Fault Refusal :=
  match i with
  | .coldStart => Sys2Proof.Machine.execColdStart s
  | .warmSupplyRestart => Sys2Proof.Machine.execWarmSupplyRestart s
  | .supplyLoss => Sys2Proof.Machine.execSupplyLoss s
  | .sampleArrival ch current => Sys2Proof.Machine.execSampleArrival ch current s
  | .clearChannel ans index => Sys2Proof.Machine.execClearChannel ans index s
  | .readChannels start count => Sys2Proof.Machine.execReadChannels start count s
  | .rawContactChange c closed => Sys2Proof.Machine.execRawContactChange c closed s
  | .filterTimerExpiry inp => Sys2Proof.Machine.execFilterTimerExpiry inp s
  | .tipArrival => Sys2Proof.Machine.execTipArrival s
  | .bounceTimerExpiry => Sys2Proof.Machine.execBounceTimerExpiry s
  | .binClose => Sys2Proof.Machine.execBinClose s
  | .dryTimerExpiry => Sys2Proof.Machine.execDryTimerExpiry s
  | .clearRain => Sys2Proof.Machine.execClearRain s
  | .readRain => Sys2Proof.Machine.execReadRain s
  | .rosterSecondTimerExpiry => Sys2Proof.Machine.execRosterSecondTimerExpiry s
  | .rampTimerExpiry => Sys2Proof.Machine.execRampTimerExpiry s
  | .gapTimerExpiry => Sys2Proof.Machine.execGapTimerExpiry s
  | .feedbackLossTimerExpiry b => Sys2Proof.Machine.execFeedbackLossTimerExpiry b s
  | .stopConfirmTimerExpiry b => Sys2Proof.Machine.execStopConfirmTimerExpiry b s
  | .minRunTimerExpiry b => Sys2Proof.Machine.execMinRunTimerExpiry b s
  | .minRestTimerExpiry b => Sys2Proof.Machine.execMinRestTimerExpiry b s
  | .restartHoldExpiry => Sys2Proof.Machine.execRestartHoldExpiry s
  | .changeoverTimerExpiry b => Sys2Proof.Machine.execChangeoverTimerExpiry b s
  | .restoreTimerExpiry => Sys2Proof.Machine.execRestoreTimerExpiry s
  | .pumpReset ans bay => Sys2Proof.Machine.execPumpReset ans bay s
  | .pumpForce ans bay mode => Sys2Proof.Machine.execPumpForce ans bay mode s
  | .pumpService ans bay value => Sys2Proof.Machine.execPumpService ans bay value s
  | .readPumps start count => Sys2Proof.Machine.execReadPumps start count s
  | .intervalTimerExpiry x => Sys2Proof.Machine.execIntervalTimerExpiry x s
  | .strokeTimerExpiry x => Sys2Proof.Machine.execStrokeTimerExpiry x s
  | .clearTimerExpiry x => Sys2Proof.Machine.execClearTimerExpiry x s
  | .screenInhibit ans screen value => Sys2Proof.Machine.execScreenInhibit ans screen value s
  | .screenRake screen => Sys2Proof.Machine.execScreenRake screen s
  | .screenReset ans screen => Sys2Proof.Machine.execScreenReset ans screen s
  | .readScreens start count => Sys2Proof.Machine.execReadScreens start count s
  | .integrationTimerExpiry => Sys2Proof.Machine.execIntegrationTimerExpiry s
  | .qualifyTimerExpiry => Sys2Proof.Machine.execQualifyTimerExpiry s
  | .mergeTimerExpiry => Sys2Proof.Machine.execMergeTimerExpiry s
  | .retireEpisode slot serial => Sys2Proof.Machine.execRetireEpisode slot serial s
  | .retireAccumulator count => Sys2Proof.Machine.execRetireAccumulator count s
  | .readEpisodes start count => Sys2Proof.Machine.execReadEpisodes start count s
  | .readAccumulator => Sys2Proof.Machine.execReadAccumulator s
  | .ackCondition index change => Sys2Proof.Machine.execAckCondition index change s
  | .ackAll => Sys2Proof.Machine.execAckAll s
  | .shelve ans index minutes => Sys2Proof.Machine.execShelve ans index minutes s
  | .unshelve ans index => Sys2Proof.Machine.execUnshelve ans index s
  | .shelveTimerExpiry src => Sys2Proof.Machine.execShelveTimerExpiry src s
  | .readConditions start count => Sys2Proof.Machine.execReadConditions start count s
  | .receiveCharacter c => Sys2Proof.Machine.execReceiveCharacter c s
  | .lineBreak => Sys2Proof.Machine.execLineBreak s
  | .gapLimitExpiry => Sys2Proof.Machine.execGapLimitExpiry s
  | .turnaroundTimerExpiry => Sys2Proof.Machine.execTurnaroundTimerExpiry s
  | .replySent => Sys2Proof.Machine.execReplySent s
  | .linkTimerExpiry => Sys2Proof.Machine.execLinkTimerExpiry s
  | .readStatus => Sys2Proof.Machine.execReadStatus s
  | .openAuthority => Sys2Proof.Machine.execOpenAuthority s
  | .answer value => Sys2Proof.Machine.execAnswer value s
  | .releaseAuthority => Sys2Proof.Machine.execReleaseAuthority s
  | .answerWindowExpiry => Sys2Proof.Machine.execAnswerWindowExpiry s
  | .supervisionTimerExpiry => Sys2Proof.Machine.execSupervisionTimerExpiry s
  | .restart ans => Sys2Proof.Machine.execRestart ans s
  | .readSettings table start count => Sys2Proof.Machine.execReadSettings table start count s
  | .writeSetting ans table item value => Sys2Proof.Machine.execWriteSetting ans table item value s
  | .commitSettings ans => Sys2Proof.Machine.execCommitSettings ans s
  | .commitCompletion => Sys2Proof.Machine.execCommitCompletion s
  | .setClock broadcast time => Sys2Proof.Machine.execSetClock broadcast time s
  | .clockSecondExpiry => Sys2Proof.Machine.execClockSecondExpiry s

end Sys2Proof.Machine
end

