-- ==== Sys2Proof/Machine/Passage.lean ====
section
/-! DEFINITION. The passing of time: what step does when no command waits (log 2). -/

namespace Sys2Proof.Machine

/-- One millisecond of a timer; a timer with nothing left waits for its expiry (log 2, log 3). -/
def passTimer (t : Timer) : Timer := t.map (· - 1)

/-- One millisecond of an input's filter timer. -/
def passFiltered {α : Type} (r : Filtered α) : Filtered α := { r with timer := passTimer r.timer }

/-- One millisecond of the filter timers. -/
def passContacts (k : Contacts) : Contacts where
  hf := passFiltered k.hf
  lf := passFiltered k.lf
  sp := passFiltered k.sp
  selectorH := k.selectorH
  selectorA := k.selectorA
  selector := k.selector.map passFiltered
  runFeedback := k.runFeedback.map passFiltered
  overload := k.overload.map passFiltered
  sealLeak := k.sealLeak.map passFiltered
  screenSelector := k.screenSelector.map passFiltered
  topLimit := k.topLimit.map passFiltered
  homeLimit := k.homeLimit.map passFiltered
  rakeOverload := k.rakeOverload.map passFiltered
  starterReady := passFiltered k.starterReady
  starterFault := passFiltered k.starterFault
  mainsPresent := passFiltered k.mainsPresent
  generatorRunning := passFiltered k.generatorRunning
  accept := passFiltered k.accept
  remotePermit := passFiltered k.remotePermit

/-- One millisecond of a pump's timers. -/
def passPump (p : PumpRec) : PumpRec :=
  { p with
    minRun := passTimer p.minRun
    minRest := passTimer p.minRest
    stopConfirm := passTimer p.stopConfirm
    feedbackLoss := passTimer p.feedbackLoss }

/-- One millisecond of a screen's timers. -/
def passScreen (r : ScreenRec) : ScreenRec :=
  { r with
    strokeTimer := passTimer r.strokeTimer
    clearTimer := passTimer r.clearTimer
    interval := { r.interval with elapsed := r.interval.elapsed.map (· + 1) } }

/-- One millisecond of a record's shelve timer. -/
def passShelf (r : CondRec) : CondRec := { r with shelf := passTimer r.shelf }

/-- One millisecond of every running timer, and nothing else (log 2). -/
def passMillisecond (s : State) : State :=
  { s with
    store := { s.store with commit := passTimer s.store.commit }
    clock := { s.clock with secondTimer := passTimer s.clock.secondTimer }
    contacts := passContacts s.contacts
    channels := { s.channels with sampleTimers := s.channels.sampleTimers.map passTimer }
    rain := { s.rain with
      minuteTimer := passTimer s.rain.minuteTimer
      dryTimer := passTimer s.rain.dryTimer
      bounceTimer := passTimer s.rain.bounceTimer }
    roster := { s.roster with
      pumps := s.roster.pumps.map passPump
      secondTimer := passTimer s.roster.secondTimer
      restartHold := passTimer s.roster.restartHold }
    duty := { s.duty with changeoverTimer := s.duty.changeoverTimer.map passTimer }
    arbiter := { s.arbiter with
      rampTimer := passTimer s.arbiter.rampTimer
      gapTimer := passTimer s.arbiter.gapTimer }
    supply := { s.supply with restoreTimer := passTimer s.supply.restoreTimer }
    screens := { s.screens with recs := s.screens.recs.map passScreen }
    spill := { s.spill with integrationTimer := passTimer s.spill.integrationTimer }
    episodes := { s.episodes with
      qualifyTimer := passTimer s.episodes.qualifyTimer
      mergeTimer := passTimer s.episodes.mergeTimer }
    conditions := { s.conditions with recs := s.conditions.recs.map passShelf }
    line := { s.line with
      gapTimer := passTimer s.line.gapTimer
      turnaroundTimer := passTimer s.line.turnaroundTimer
      linkTimer := passTimer s.line.linkTimer }
    authority := { s.authority with
      answerTimer := passTimer s.authority.answerTimer
      supervisionTimer := passTimer s.authority.supervisionTimer } }

/-- What the block does when no command waits: a millisecond passes while it has supply (R199, log 2). -/
def idle (s : State) : Answered := powered passMillisecond s

end Sys2Proof.Machine
end

