-- ==== Sys2Proof/WellFormed.lean ====
section
/-! DEFINITION. When a command's operands are ones the wire or the wiring can carry: every number fits the
characters 10.9 gives it. A command whose operands do not fit still has a meaning; this check only says which
commands can come from outside. -/

namespace Sys2Proof

/-- A number that one character carries. -/
abbrev fitsByte (n : Nat) : Prop := n < 256

/-- A number that two characters carry, high byte first. -/
abbrev fitsWord (n : Nat) : Prop := n < 65536

/-- A station time: four characters (R202). -/
abbrev fitsTime (n : Nat) : Prop := n < 4294967296

/-- A setting's value: a signed 16-bit number (R196). -/
abbrev fitsItem (v : Int) : Prop := -32768 ≤ v ∧ v ≤ 32767

/-- The operands of each command fit the request table and the wiring. -/
def Instr.WellFormed : Instr → Prop
  | .clearChannel a i => fitsWord a ∧ fitsByte i
  | .readChannels s c => fitsByte s ∧ fitsByte c
  | .pumpReset a b => fitsWord a ∧ fitsByte b
  | .pumpForce a b m => fitsWord a ∧ fitsByte b ∧ fitsByte m
  | .pumpService a b v => fitsWord a ∧ fitsByte b ∧ fitsByte v
  | .readPumps s c => fitsByte s ∧ fitsByte c
  | .screenInhibit a x v => fitsWord a ∧ fitsByte x ∧ fitsByte v
  | .screenRake x => fitsByte x
  | .screenReset a x => fitsWord a ∧ fitsByte x
  | .readScreens s c => fitsByte s ∧ fitsByte c
  | .retireEpisode i n => fitsByte i ∧ fitsWord n
  | .retireAccumulator c => fitsWord c
  | .readEpisodes s c => fitsByte s ∧ fitsByte c
  | .ackCondition i n => fitsByte i ∧ fitsWord n
  | .shelve a i m => fitsWord a ∧ fitsByte i ∧ fitsWord m
  | .unshelve a i => fitsWord a ∧ fitsByte i
  | .readConditions s c => fitsByte s ∧ fitsByte c
  | .answer v => fitsWord v
  | .restart a => fitsWord a
  | .readSettings t s c => fitsByte t ∧ fitsByte s ∧ fitsByte c
  | .writeSetting a t i v => fitsWord a ∧ fitsByte t ∧ fitsByte i ∧ fitsItem v
  | .commitSettings a => fitsWord a
  | .setClock _ t => fitsTime t
  | .coldStart | .warmSupplyRestart | .supplyLoss | .sampleArrival _ _ | .rawContactChange _ _
  | .filterTimerExpiry _ | .tipArrival | .bounceTimerExpiry | .binClose | .dryTimerExpiry | .clearRain | .readRain
  | .rosterSecondTimerExpiry | .rampTimerExpiry | .gapTimerExpiry | .feedbackLossTimerExpiry _
  | .stopConfirmTimerExpiry _ | .minRunTimerExpiry _ | .minRestTimerExpiry _ | .restartHoldExpiry
  | .changeoverTimerExpiry _ | .restoreTimerExpiry | .intervalTimerExpiry _ | .strokeTimerExpiry _
  | .clearTimerExpiry _ | .integrationTimerExpiry | .qualifyTimerExpiry | .mergeTimerExpiry | .readAccumulator
  | .ackAll | .shelveTimerExpiry _ | .receiveCharacter _ | .lineBreak | .gapLimitExpiry | .turnaroundTimerExpiry
  | .replySent | .linkTimerExpiry | .readStatus | .openAuthority | .releaseAuthority | .answerWindowExpiry
  | .supervisionTimerExpiry | .commitCompletion | .clockSecondExpiry => True

end Sys2Proof
end

