-- ==== Sys2Proof/Safety.lean ====
section
/-! DEFINITION. What counts as a safe run of the BX-440, in the terms the statements use: the laws of the device that every
step keeps, and the state a request leaves when its whole addressed frame has been heard and answered. -/

namespace Sys2Proof.Machine

/-! ## Laws of the device -/

/-- The law of a level channel (R11): INVALID exactly when the counter is at or above the limit, the counter within
limit + hold, and a pinned channel's counter equal to it. -/
def ChannelRec.Lawful (r : ChannelRec) : Prop :=
  1 ≤ r.limit ∧ (r.valid = false ↔ r.limit ≤ r.counter) ∧ r.counter ≤ r.limit + r.hold ∧
    (r.pinned = true → r.counter = r.limit + r.hold)

/-- A copy of the settings whose validity limits and holds are as T1 allows (R21). -/
def Settings.LimitsLawful (σ : Settings) : Prop :=
  ∀ c : Channel, 1 ≤ σ.get 1 (c.base + 3) ∧ 0 ≤ σ.get 1 (c.base + 4) ∧ σ.get 1 (c.base + 3) + σ.get 1 (c.base + 4) ≤ 255

/-- Every channel keeps the law of R11, and the working copy and a marked stored copy hold limits of R21. -/
def State.ChannelsLawful (s : State) : Prop :=
  (∀ c : Channel, (s.channel c).Lawful) ∧ s.store.working.LimitsLawful ∧
    (s.store.marker = true → s.store.stored.LimitsLawful)

/-- A run of characters as R174 and R186 have a reply: the address 254 with its mark bit 1, then data characters with theirs
0, each with even parity and its stop bit at mark. -/
def Sent (l : List Character) : Prop :=
  ∃ a rest, l = a :: rest ∧ a.data = 254#8 ∧ a.mark = true ∧ (∀ c ∈ rest, c.mark = false) ∧ ∀ c ∈ l, c.good = true

/-- The outputs of the pumps, the starter and the screens follow the states that drive them (R45, R91, R109), and the line is
sent whole characters (R174). -/
def State.OutputsFollow (s : State) : Prop :=
  (∀ b : Bay, (s.pump b).starterSelect = ((s.pump b).state == .starting) ∧
    (s.pump b).runContactor = ((s.pump b).state == .running)) ∧
  (∀ x : Screen, (s.screen x).forward = ((s.screen x).state == .rising) ∧
    (s.screen x).reverse =
      ((s.screen x).state == .lowering || (s.screen x).state == .clearing || (s.screen x).state == .homing)) ∧
  s.arbiter.runOutput = (s.arbiter.state == .ramping) ∧
  ∀ l, s.line.reply = some l → Sent l

/-- The dry-run cutoff is in force exactly while the Duty Controller holds LF dry, and while it is in force no pump is queued,
starting or running (R58, R75). -/
def State.CutoffKeepsDry (s : State) : Prop :=
  s.duty.cutoff = !s.duty.lfCovered ∧ (s.duty.cutoff = true → ∀ b : Bay, (s.pump b).state.committed = false)

/-- While an episode is in progress the storm state is STORM (R34), the episode flag following the Episode Table, and sixty
bins are closed (R31). -/
def State.StormLawful (s : State) : Prop :=
  s.rain.episodeFlag = (s.episodes.inProgress != .none) ∧ (s.rain.episodeFlag = true → s.rain.storm = .storm) ∧
    s.rain.closedBins.length = 60

/-- The summary, ATTN_CONDITION, the beacon, the horn and ATTN_EPISODE stand as the records give them (R155, R168, R169). -/
def State.AttentionLawful (s : State) : Prop :=
  s.conditions.summary = summaryOf s.conditions.recs ∧ s.conditions.attn = attnOf s.conditions.recs ∧
    s.conditions.beacon = beaconOf s.conditions.recs ∧ s.conditions.horn = hornOf s.conditions.recs ∧
    s.episodes.attn = episodeAttn s.episodes

/-- Forced modes, inhibits and shelved records exist only while authority is GRANTED (R193), and the monitor's timers and
failure count stand as its state allows (R187). -/
def State.AuthorityLawful (s : State) : Prop :=
  (s.authority.state ≠ .granted →
    (∀ b : Bay, (s.pump b).forced = .none) ∧ (∀ x : Screen, (s.screen x).inhibit = false) ∧
      (∀ i : Source, (s.cond i).state ≠ .shelved)) ∧
  (s.authority.answerTimer.isSome = true → s.authority.state = .challenged) ∧
  (s.authority.supervisionTimer.isSome = true → s.authority.state = .granted) ∧
  s.authority.failures ≤ 3 ∧ (s.authority.failures = 3 ↔ s.authority.state = .barred)

/-- The serials of occupied slots are distinct and none is 0, and the serial counter is 1 to 65535 (R148). -/
def State.SerialsLawful (s : State) : Prop :=
  (1 ≤ s.episodes.serialCounter ∧ s.episodes.serialCounter ≤ 65535) ∧
  (∀ i e, s.episodes.slots.get i = some e → e.serial ≠ 0) ∧
  (∀ i j e f, s.episodes.slots.get i = some e → s.episodes.slots.get j = some f → e.serial = f.serial → i = j)

/-- A safe state keeps every law. -/
structure State.Safe (s : State) : Prop where
  channels : s.ChannelsLawful
  outputs : s.OutputsFollow
  cutoff : s.CutoffKeepsDry
  storm : s.StormLawful
  attention : s.AttentionLawful
  authority : s.AuthorityLawful
  serials : s.SerialsLawful

/-! ## Frames: what a command leaves alone -/

/-- The part of the state that no notice reaches. -/
structure Plant where
  power : Power
  restartCause : RestartCause
  store : Store
  clock : Clock
  contacts : Contacts
  channels : Channels
  rain : Rain
  supply : Supply
  spill : Spill
  episodes : EpisodeTable
  line : Line
  authority : Authority
  freeCount : Nat
  pending : List Instr

/-- The part of a state that no notice reaches. -/
def State.plant (s : State) : Plant :=
  ⟨s.power, s.restartCause, s.store, s.clock, s.contacts, s.channels, s.rain, s.supply, s.spill, s.episodes, s.line,
   s.authority, s.freeCount, s.pending⟩

/-! ## Requests heard and answered -/

/-- The part has supply and no notice waits. -/
abbrev State.live (s : State) : Prop := s.power = .on ∧ s.inbox = []

/-- The part has supply, no notice waits, and the receiver listens for an address character. -/
abbrev State.ready (s : State) : Prop := s.live ∧ s.line.receiver = .waiting

/-- The state once a whole good frame addressed to the station has been heard (R176, R177, R179): the assembly ended, the
link timer restarted at T0 item 4, LINK_LOST reported inactive. -/
def State.heard (s : State) : State :=
  { s with
    line := { s.line with
      receiver := .receiving
      frame := none
      gapTimer := none
      linkTimer := some (s.itemNat 0 4 * 1000) }
    conditions := (s.report .linkLost false).conditions }

/-- The characters of a reply from LEN to the end of its payload (R182): LEN, REQ with its top bit set, STATUS, the station
address, ATTN, CHALLENGE, the payload. -/
def State.replyChars (s : State) (code : Nat) (st : Status) (payload : List Byte) : List Byte :=
  [byte (6 + payload.length), byte code ||| 0x80#8, byte st.code, byte s.line.address,
    byte ((if s.conditions.attn then 1 else 0) + (if s.episodes.attn then 2 else 0) + (if s.line.latch then 4 else 0) +
      8 * s.authority.state.code)] ++
    word (if s.authority.state = .challenged ∨ s.authority.state = .granted then s.authority.challenge else 0) ++ payload

/-- The state with a reply waiting for its turnaround, T0 item 2 as the request has left it (R174, R177, R181, R182, log 38): to the master's address 254 with its mark bit
1, then data characters, its header taken from the state as it stands, its CHECK over LEN to the last payload character. -/
def State.replying (s : State) (code : Nat) (st : Status) (payload : List Byte) : State :=
  { s with
    line := { s.line with
      receiver := .turnaround
      turnaroundTimer := some (s.itemNat 0 2)
      reply := some (Character.make (byte 254) true ::
        (s.replyChars code st payload ++ checkChars (s.replyChars code st payload)).map (Character.make · false)) } }

/-- The answer that a request needs now (R188). -/
def State.answerNow (s : State) : Nat :=
  (s.authority.challenge * 8 % 65536 + s.authority.challenge / 8192 + s.line.address) % 65536

/-- The state once the Authority Monitor has let a request through (R190): GRANTED, the challenge advanced, the supervision
timer restarted at T0 item 6. -/
def State.spent (s : State) : State :=
  { s with
    authority := { s.authority with
      state := .granted
      challenge := (s.authority.challenge * 109 + 89) % 65536
      answerTimer := none
      supervisionTimer := some (s.itemNat 0 6 * 1000) } }

/-- Ready for a request, with authority held and the answer field right. -/
abbrev State.cleared (s : State) (ans : Nat) : Prop :=
  s.ready ∧ s.authority.state = .granted ∧ ans = s.answerNow

/-! ## Frames on the wire -/

/-- The characters of an addressed request frame from LEN to the end of its payload (R176). -/
def requestChars (code : Nat) (payload : List Byte) : List Byte := byte (1 + payload.length) :: byte code :: payload

/-- The characters of a whole frame as the master sends them (R174, R176, R177): the address character with its mark bit set,
then LEN, REQ, the payload and CHECK. -/
def requestFrame (address code : Nat) (payload : List Byte) : List Character :=
  Character.make (byte address) true ::
    (requestChars code payload ++ checkChars (requestChars code payload)).map (Character.make · false)

/-- A run of characters received one after another, with nothing between them. -/
def hearAll (chars : List Character) (s : State) : State := chars.foldl (fun t c => receive c t) s

end Sys2Proof.Machine
end

