-- ==== Sys2Proof/Certificates/Slice0/Obligations.lean ====
section
/-! DEFINITION. The statements about the BX-440 that the provers prove. Each docstring names the rule of spec/ it comes from;
OBLIGATIONS.json lists them. -/

open Sys2Proof Sys2Proof.Machine

/-! ## Steps, commands and the queue -/

/-- A step takes the command at the front of the queue and runs it with the queue's rest. -/
def Obligations.StepRunsTheFrontCommand : Prop :=
  ∀ (c : Instr) (rest : List Instr) (s : State), s.pending = c :: rest → step s = exec c { s with pending := rest }

/-- The model's choice (log 2): with no command waiting a millisecond passes on every running timer of a part with supply,
and nothing passes on a halted part. Nothing but timers moves. -/
def Obligations.IdleStepPassesOneMillisecond : Prop :=
  ∀ s : State, s.pending = [] →
    (s.power = .halted → step s = .next s) ∧
    (s.power = .on → ∃ t : State, step s = .next t ∧
      t.power = s.power ∧ t.restartCause = s.restartCause ∧ t.freeCount = s.freeCount ∧ t.inbox = s.inbox ∧ t.pending = [] ∧
      t.store = { s.store with commit := s.store.commit.map (· - 1) } ∧
      t.clock = { s.clock with secondTimer := s.clock.secondTimer.map (· - 1) } ∧
      t.contacts.selectorH = s.contacts.selectorH ∧ t.contacts.selectorA = s.contacts.selectorA ∧
      (∀ w, t.contacts.get w = { s.contacts.get w with timer := (s.contacts.get w).timer.map (· - 1) }) ∧
      (∀ b, t.contacts.selector.get b =
        { s.contacts.selector.get b with timer := (s.contacts.selector.get b).timer.map (· - 1) }) ∧
      (∀ c, t.channel c = s.channel c ∧ t.channels.sampleTimers.get c = (s.channels.sampleTimers.get c).map (· - 1)) ∧
      t.rain = { s.rain with
        minuteTimer := s.rain.minuteTimer.map (· - 1)
        dryTimer := s.rain.dryTimer.map (· - 1)
        bounceTimer := s.rain.bounceTimer.map (· - 1) } ∧
      (∀ b, t.pump b = { s.pump b with
        minRun := (s.pump b).minRun.map (· - 1)
        minRest := (s.pump b).minRest.map (· - 1)
        stopConfirm := (s.pump b).stopConfirm.map (· - 1)
        feedbackLoss := (s.pump b).feedbackLoss.map (· - 1) }) ∧
      t.roster = { s.roster with
        pumps := t.roster.pumps
        secondTimer := s.roster.secondTimer.map (· - 1), restartHold := s.roster.restartHold.map (· - 1) } ∧
      (∀ b, t.duty.changeoverTimer.get b = (s.duty.changeoverTimer.get b).map (· - 1)) ∧
      t.duty = { s.duty with changeoverTimer := t.duty.changeoverTimer } ∧
      t.arbiter = { s.arbiter with
        rampTimer := s.arbiter.rampTimer.map (· - 1), gapTimer := s.arbiter.gapTimer.map (· - 1) } ∧
      t.supply = { s.supply with restoreTimer := s.supply.restoreTimer.map (· - 1) } ∧
      (∀ x, t.screen x = { s.screen x with
        strokeTimer := (s.screen x).strokeTimer.map (· - 1)
        clearTimer := (s.screen x).clearTimer.map (· - 1)
        interval := { (s.screen x).interval with elapsed := (s.screen x).interval.elapsed.map (· + 1) } }) ∧
      t.screens = { s.screens with recs := t.screens.recs } ∧
      t.spill = { s.spill with integrationTimer := s.spill.integrationTimer.map (· - 1) } ∧
      t.episodes = { s.episodes with
        qualifyTimer := s.episodes.qualifyTimer.map (· - 1), mergeTimer := s.episodes.mergeTimer.map (· - 1) } ∧
      (∀ i, t.cond i = { s.cond i with shelf := (s.cond i).shelf.map (· - 1) }) ∧
      t.conditions = { s.conditions with recs := t.conditions.recs } ∧
      t.line = { s.line with
        gapTimer := s.line.gapTimer.map (· - 1)
        turnaroundTimer := s.line.turnaroundTimer.map (· - 1)
        linkTimer := s.line.linkTimer.map (· - 1) } ∧
      t.authority = { s.authority with
        answerTimer := s.authority.answerTimer.map (· - 1)
        supervisionTimer := s.authority.supervisionTimer.map (· - 1) })

/-- Every command answers a next state, in every state, and leaves the queue of waiting commands alone: what a request asks
in vain is answered with a status code (R182) and a supply loss is a state (R199). That the expiry of a stopped timer does
nothing is the model's choice (log 3), and so is what a halted part takes (log 4). -/
def Obligations.EveryCommandAnswersANextState : Prop :=
  ∀ (c : Instr) (s : State), ∃ t : State, exec c s = .next t ∧ t.pending = s.pending

/-- The state right after reset keeps every law of the device, and it is what a cold start of a part with no stored copy and
every contact open leaves (R22, R42, R68, R88, R107, R124, R139, R159, R173, R185, R195, R200, R201; log 1). -/
def Obligations.ResetIsSafeAndAColdStart : Prop :=
  (State.reset.Safe) ∧
  (exec .coldStart State.reset = .next State.reset)

/-! ## Screens, in the terms of chapter 6 -/

namespace Sys2Proof.Spec

/-- The state with one screen's record replaced, and nothing else. -/
def withScreen (s : State) (x : Screen) (r : ScreenRec) : State :=
  { s with screens := { s.screens with recs := s.screens.recs.put x r } }

/-- R109, R112, R113: a screen record at a cycle start. -/
def cycling (s : State) (r : ScreenRec) : ScreenRec :=
  { r with
    state := .rising, forward := true, reverse := false, pending := false, overloadSeen := false
    interval := ⟨some 0, if s.screens.storm = .storm then s.itemNat 5 6 else s.itemNat 5 5⟩
    strokeTimer := some (s.itemNat 5 3 * 1000) }

/-- R113, R114, R115: a screen record that has begun a cycle: backed off at once with the overload tripped, lowering at once
with TOP made, and rising otherwise. -/
def begun (s : State) (x : Screen) (r : ScreenRec) : ScreenRec :=
  if (s.contacts.rakeOverload.get x).filtered = false then
    { cycling s r with
      state := .clearing, forward := false, reverse := true, overloadSeen := true, strokeTimer := none
      clearTimer := some (s.itemNat 5 4 * 1000) }
  else if (s.contacts.topLimit.get x).filtered = true then
    { cycling s r with state := .lowering, forward := false, reverse := true }
  else cycling s r

/-- R116: a screen record that has entered JAMMED. -/
def jammed (why : JamReason) (r : ScreenRec) : ScreenRec :=
  { r with
    state := .jammed, forward := false, reverse := false, strokeTimer := none, clearTimer := none, resetMark := false
    jam := some why }

/-- R116, R163: what a jam leaves: the screen JAMMED and its source active with the reason; everything else as it was. -/
def Jams (s u : State) (x : Screen) (why : JamReason) : Prop :=
  (u.cond (jamSource x)).active = true ∧ (u.cond (jamSource x)).detail = some (.jam why) ∧
  (∀ i, i ≠ jamSource x → u.cond i = s.cond i) ∧
  u = { withScreen s x (jammed why { s.screen x with clearTimer := none }) with conditions := u.conditions }

/-- R111: no start is held: the supply is not NONE, and the Arbiter is not RAMPING on the generator. -/
abbrev FreeToRake (s : State) : Prop :=
  s.screens.supply ≠ .none ∧ ¬ (s.screens.supply = .generator ∧ s.screens.ramping = true)

/-- R115: a screen record at the return to rest: INHIBITED with inhibit set; otherwise IDLE, and a trigger that is pending is
answered if the screen is free to rake. -/
def atRest (s : State) (x : Screen) (r : ScreenRec) : ScreenRec :=
  let rest := { r with
    state := if r.inhibit = true then .inhibited else .idle
    forward := false, reverse := false, strokeTimer := none, clearTimer := none }
  if r.inhibit = false ∧ r.pending = true ∧ FreeToRake s then begun s x rest else rest

/-- R117: a screen record at entry to HOMING: STALLED with the supply NONE, at rest with HOME made, HOMING otherwise. -/
def homed (s : State) (x : Screen) (r : ScreenRec) : ScreenRec :=
  if s.screens.supply = .none then
    { r with state := .stalled, forward := false, reverse := false, strokeTimer := none, clearTimer := none }
  else if (s.contacts.homeLimit.get x).filtered = true then atRest s x r
  else
    { r with
      state := .homing, forward := false, reverse := true
      strokeTimer := some (s.itemNat 5 3 * 1000), clearTimer := none }

/-- R111: a screen as the hold is judged anew: one IDLE with a trigger pending begins its cycle if it is free to rake. -/
def retried (s : State) (x : Screen) (r : ScreenRec) : ScreenRec :=
  if r.inUse = true ∧ r.state = .idle ∧ r.pending = true ∧ FreeToRake s then begun s x r else r

/-- R89, R111: the screens as the Arbiter leaves RAMPING: a trigger that was held is answered. -/
def RampEnds (s u : State) : Prop :=
  u.screens = { s.screens with recs := u.screens.recs, ramping := false } ∧
    ∀ x, u.screen x = retried { s with screens := { s.screens with ramping := false } } x (s.screen x)

/-- R112: a screen as the storm state passes into or out of STORM: the interval in effect is read again, and a timer that has run
for it or longer makes its trigger. -/
def reread (s : State) (x : Screen) (r : ScreenRec) : ScreenRec :=
  let minutes := if s.screens.storm = .storm then s.itemNat 5 6 else s.itemNat 5 5
  let read : ScreenRec := { r with interval := { r.interval with minutes := minutes } }
  let expired : ScreenRec := { r with interval := ⟨none, minutes⟩ }
  if r.inUse = false then r
  else match r.interval.elapsed with
    | none => read
    | some ms =>
      if ms < minutes * 60000 then read
      else if r.state = .idle ∧ FreeToRake s then begun s x expired
      else { expired with pending := true }

/-- R38, R112: the screens at a change of storm state. -/
def StormPasses (new : StormState) (s u : State) : Prop :=
  u.screens = { s.screens with recs := u.screens.recs, storm := new } ∧
    ∀ x, u.screen x = if (s.screens.storm == .storm) = (new == .storm) then s.screen x
      else reread { s with screens := { s.screens with storm := new } } x (s.screen x)

/-- R162, R163: a source's record after its owner's report at the present station time, as O42 gives it. -/
def told (s : State) (i : Source) (active : Bool) (detail : Option Detail) : CondRec :=
  (s.cond i).takeReport s.clock.time active detail

end Sys2Proof.Spec


/-! ## Level channels -/

namespace Sys2Proof.Spec

/-- R12: a channel record with the limit and hold of the working copy in effect, and its counter reconciled with them. -/
def reconciled (s : State) (c : Channel) : ChannelRec :=
  let r := s.channel c
  let limit := s.itemNat 1 (c.base + 3)
  let hold := s.itemNat 1 (c.base + 4)
  { r with
    limit := limit
    hold := hold
    counter :=
      if r.pinned = true then limit + hold
      else if r.valid = true then min r.counter (limit - 1)
      else if r.counter < limit then min limit (limit + hold)
      else min r.counter (limit + hold) }

/-- R10: the counter after a faulted sample. -/
def faultCounter (r : ChannelRec) : Nat := if r.limit ≤ r.counter + 2 then r.limit + r.hold else r.counter + 2

/-- R10: the validity after a faulted sample. -/
def faultValid (r : ChannelRec) : Bool := if r.limit ≤ r.counter + 2 then false else r.valid

/-- R11: the counter after a clean sample. -/
def cleanCounter (r : ChannelRec) : Nat := if r.pinned then r.counter else r.counter - 1

/-- R11: the validity after a clean sample. -/
def cleanValid (r : ChannelRec) : Bool := r.valid || decide (cleanCounter r < r.limit)

/-- R3: the current used. -/
def clamped (i : Nat) : Nat := if i < 4000 then 4000 else if 20000 < i then 20000 else i

/-- R4: the candidate level of a clamped current. -/
def candidate (s : State) (c : Channel) (ic : Nat) : Int :=
  s.item 1 (c.base + 1) + s.item 1 c.base * ((ic : Int) - 4000) / 16000

/-- R6: a sample fails STEP. -/
def StepFails (s : State) (c : Channel) (level : Int) : Prop :=
  ∃ ref, (s.channel c).stepRef = some ref ∧ s.item 1 (c.base + 2) < |level - candidate s c ref|

/-- R7, R8: a sample that passed STEP fails CROSS. -/
def CrossFails (s : State) (c : Channel) (level : Int) : Prop :=
  (c = .ww ∧ ((s.contacts.hf.filtered = true ∧ level < s.item 1 27 - s.item 1 29) ∨
    (s.contacts.lf.filtered = false ∧ s.item 1 28 + s.item 1 29 < level))) ∨
  (c = .inlet ∧ s.contacts.sp.filtered = true ∧ level - s.item 6 0 < s.item 6 35 - s.item 1 30)

/-- R13: a report of a channel record. -/
def reported (accepted : Bool) (r : ChannelRec) : ChannelReport := ⟨accepted, r.level, r.valid && r.level.isSome⟩

/-- R2, R13: what a sample arrival on a channel leaves of everything no notice reaches: the other channels as they were, the
sample timer with its period to run, the Spill Meter's report of IN. -/
def SampleFrame (s t : State) (c : Channel) (accepted : Bool) : Prop :=
  (∀ d, d ≠ c → t.channel d = s.channel d) ∧
  t.channels.sampleTimers = s.channels.sampleTimers.put c (some 200) ∧
  t.plant = { s.plant with
    channels := t.channels
    spill := { s.spill with report := if c = .inlet then reported accepted (t.channel c) else s.spill.report } }

/-- The CH_x_INVALID source of a channel (R18). -/
def invalidOf : Channel → Source
  | .ww => .chWwInvalid
  | .inlet => .chInInvalid
  | .sa => .chSaInvalid
  | .sb => .chSbInvalid

/-- R17, R18: what an arrival reports to the Condition Table, from the channel's record after the sample: CH_x_INVALID with
the last fault kind, WW's two alarms, IN's alarm, each under its enable; SCREEN_BLINDED apart, no other record moves. -/
def SourcesFollow (c : Channel) (s u : State) : Prop :=
  let r := u.channel c
  u.cond (invalidOf c) = told s (invalidOf c) (!r.valid) (if r.valid = true then none else some (.fault r.lastFault)) ∧
  (c = .ww → u.cond .wwHigh = told s .wwHigh (r.high && decide (s.item 1 24 = 1)) none ∧
    u.cond .wwLow = told s .wwLow (r.low && decide (s.item 1 25 = 1)) none) ∧
  (c = .inlet → u.cond .inHigh = told s .inHigh (r.high && decide (s.item 1 26 = 1)) none) ∧
  ∀ i, i ≠ invalidOf c → i ≠ .screenBlinded → ¬ (c = .ww ∧ (i = .wwHigh ∨ i = .wwLow)) → ¬ (c = .inlet ∧ i = .inHigh) →
    u.cond i = s.cond i

/-- R110: the differential that two reports give. -/
def lossOfHead (up down : ChannelReport) : Option Int :=
  match up.level, down.level with
  | some i, some d => if up.usable = true ∧ down.usable = true then some (i - d) else none
  | _, _ => none

/-- R110, R111: a screen record after a report that gives it a differential: the differential written, BLINDED set at the
blinding threshold, cleared at the threshold less the deadband (set prevailing, log 9), and the trigger of an accepted
sample at or above the rake threshold: a cycle from IDLE if the screen is free to rake, and pending otherwise. -/
def measured (s : State) (x : Screen) (accepted : Bool) (d : Option Int) : ScreenRec :=
  let blinded := match d with
    | none => (s.screen x).blinded
    | some v =>
      if s.item 5 1 ≤ v then true else if v ≤ s.item 5 1 - s.item 5 2 then false else (s.screen x).blinded
  let r := { s.screen x with differential := d, blinded := blinded }
  match d with
  | none => r
  | some v =>
    if accepted = true ∧ s.item 5 0 ≤ v then
      if r.state = .idle ∧ FreeToRake s then begun s x r else { r with pending := true }
    else r

/-- Whether a screen in use is BLINDED. -/
def someBlinded (s : State) : Bool := Screen.all.any fun x => (s.screen x).inUse && (s.screen x).blinded

/-- R110, R111: what a channel report does at the Screen Controller: an IN report works out both screens in use, an SA or SB
report its own, a WW report none; the report is held; SCREEN_BLINDED is reported at a change of either flag and stands as
the flags give. -/
def ScreensHear (c : Channel) (rep : ChannelReport) (s u : State) : Prop :=
  let up := if c = .inlet then rep else s.screens.inReport
  let downA := if c = .sa then rep else s.screens.saReport
  let downB := if c = .sb then rep else s.screens.sbReport
  u.screen .a = (if (c = .inlet ∨ c = .sa) ∧ (s.screen .a).inUse = true then
    measured s .a rep.accepted (lossOfHead up downA) else s.screen .a) ∧
  u.screen .b = (if (c = .inlet ∨ c = .sb) ∧ (s.screen .b).inUse = true then
    measured s .b rep.accepted (lossOfHead up downB) else s.screen .b) ∧
  u.screens = { s.screens with recs := u.screens.recs, inReport := up, saReport := downA, sbReport := downB } ∧
  ((u.screen .a).blinded = (s.screen .a).blinded → (u.screen .b).blinded = (s.screen .b).blinded →
    u.cond .screenBlinded = s.cond .screenBlinded) ∧
  ((s.cond .screenBlinded).active = someBlinded s → (u.cond .screenBlinded).active = someBlinded u)

end Sys2Proof.Spec

open Sys2Proof.Spec

/-- A sample out of band is faulted and not accepted: its band, current and kind are written, the counter steps by R10, an
open loop pins the channel, and the level, the step reference and the alarm status stay (R3, R5, R10). The sample timer
starts again at its own expiry (log 22). -/
def Obligations.OutOfBandSampleIsFaulted : Prop :=
  ∀ (c : Channel) (current : Nat) (s : State), s.power = .on → (s.channels.sampleTimers.get c).isSome = true →
    current < 3600 ∨ 20800 < current →
    ∃ t : State, exec (.sampleArrival c current) s = .next t ∧ SampleFrame s t c false ∧
      t.channel c = { reconciled s c with
        band := if current < 1000 then .loopOpen else if current < 3600 then .under else .over
        current := min current 24000
        lastFault := if current < 1000 then .loopOpen else if current < 3600 then .under else .over
        pinned := (s.channel c).pinned || decide (current < 1000)
        counter :=
          if current < 1000 then (reconciled s c).limit + (reconciled s c).hold else faultCounter (reconciled s c)
        valid := if current < 1000 then false else faultValid (reconciled s c) }

/-- A sample in band is scaled, becomes the step reference, and is judged by STEP and CROSS: a STEP fault is not accepted, a
CROSS fault is, and a clean sample lowers the counter (R3, R4, R6 to R11). The alarm status follows an accepted sample on a
channel that is VALID after the counter step (R14 to R16); a level that meets the set condition sets, whatever the deadband
(log 9). Every sample, in band or not, has its sources reported (R17, R18), its report handed to the Duty Controller, the
Spill Meter or the Screen Controller (R13), and the differential, BLINDED and the differential trigger worked out there
(R110, R111). The sample timer starts again at its own expiry (log 22). -/
def Obligations.InBandSampleIsJudged : Prop :=
  (∀ (c : Channel) (current : Nat) (s : State), s.power = .on → (s.channels.sampleTimers.get c).isSome = true →
      3600 ≤ current → current ≤ 20800 →
      let r := reconciled s c
      let level := candidate s c (clamped current)
      ∃ t : State, exec (.sampleArrival c current) s = .next t ∧
        (t.channel c).band = (if current < 4000 then .lowClamp else if current ≤ 20000 then .normal else .highClamp) ∧
        (t.channel c).current = current ∧ (t.channel c).stepRef = some (clamped current) ∧
        (t.channel c).limit = r.limit ∧ (t.channel c).hold = r.hold ∧ (t.channel c).pinned = r.pinned ∧
        (StepFails s c level →
          SampleFrame s t c false ∧ (t.channel c).level = r.level ∧ (t.channel c).lastFault = .step ∧
          (t.channel c).counter = faultCounter r ∧ (t.channel c).valid = faultValid r ∧
          (t.channel c).high = r.high ∧ (t.channel c).low = r.low) ∧
        (¬ StepFails s c level →
          SampleFrame s t c true ∧ (t.channel c).level = some level ∧
          (CrossFails s c level → (t.channel c).lastFault = .cross ∧
            (t.channel c).counter = faultCounter r ∧ (t.channel c).valid = faultValid r) ∧
          (¬ CrossFails s c level → (t.channel c).lastFault = r.lastFault ∧
            (t.channel c).counter = cleanCounter r ∧ (t.channel c).valid = cleanValid r))) ∧
  (∀ (c : Channel) (current : Nat) (s : State), s.power = .on → (s.channels.sampleTimers.get c).isSome = true →
      3600 ≤ current → current ≤ 20800 → ¬ StepFails s c (candidate s c (clamped current)) →
      let level := candidate s c (clamped current)
      ∃ t : State, exec (.sampleArrival c current) s = .next t ∧
        ((t.channel c).valid = false → (t.channel c).high = (s.channel c).high ∧ (t.channel c).low = (s.channel c).low) ∧
        ((t.channel c).valid = true →
          (c = .ww → (t.channel c).high =
            (if current < 4000 then false else if 20000 < current then true
             else if s.item 1 20 ≤ level then true
             else if level ≤ s.item 1 20 - s.item 1 23 then false else (s.channel c).high)) ∧
          (c = .ww → (t.channel c).low =
            (if current < 4000 then true else if 20000 < current then false
             else if level ≤ s.item 1 21 then true
             else if s.item 1 21 + s.item 1 23 ≤ level then false else (s.channel c).low)) ∧
          (c = .inlet → (t.channel c).high =
            (if current < 4000 then false else if 20000 < current then true
             else if s.item 1 22 ≤ level then true
             else if level ≤ s.item 1 22 - s.item 1 23 then false else (s.channel c).high)))) ∧
  (∀ (c : Channel) (current : Nat) (s : State), s.live → (s.channels.sampleTimers.get c).isSome = true →
      ∃ (u : State) (accepted : Bool), exec (.sampleArrival c current) s = .next (settle u) ∧
        (accepted = true ↔ 3600 ≤ current ∧ current ≤ 20800 ∧ ¬ StepFails s c (candidate s c (clamped current))) ∧
        SourcesFollow c s u ∧ ScreensHear c (reported accepted (u.channel c)) s u ∧
        u = { s with
          channels := u.channels, spill := u.spill, screens := u.screens, conditions := u.conditions
          inbox := if c = .ww then [.wwReport (reported accepted (u.channel c))] else [] })

/-- The law of the level channels is kept by every step (R11). -/
def Obligations.ChannelLawIsKept : Prop :=
  ∀ s t : State, s.ChannelsLawful → step s = .next t → t.ChannelsLawful

/-- CLEAR_CHANNEL with authority held: BAD_INDEX above 3; pinned cleared in the NORMAL band; STILL_FAULTED in any other
(R19). -/
def Obligations.ClearChannelUnpins : Prop :=
  ∀ (ans index : Nat) (s : State), s.cleared ans →
    (3 < index → exec (.clearChannel ans index) s = .next (s.heard.spent.replying 0x1E .badIndex [])) ∧
    (∀ c, c.index = index → (s.channel c).band ≠ .normal →
      exec (.clearChannel ans index) s = .next (s.heard.spent.replying 0x1E .stillFaulted [])) ∧
    (∀ c, c.index = index → (s.channel c).band = .normal →
      exec (.clearChannel ans index) s = .next (State.replying
        { s.heard.spent with
          channels := { s.channels with recs := s.channels.recs.put c { s.channel c with pinned := false } } }
        0x1E .ok []))

/-! ## Contacts -/

namespace Sys2Proof.Spec

/-- R23, R41: the filter time of an input in milliseconds. -/
def filterTime (s : State) (w : Switch) : Nat :=
  s.itemNat 2 (match w with
    | .hf | .lf => 6
    | .sp => 7
    | .runFeedback _ | .overload _ | .sealLeak _ => 8
    | .topLimit _ | .homeLimit _ | .rakeOverload _ => 10
    | .screenSelector _ => 11
    | .starterReady | .starterFault => 12
    | .mainsPresent | .generatorRunning => 13
    | .accept => 14
    | .remotePermit => 15)

/-- R25: a record after a change of its raw value. -/
def filtering {α : Type} [DecidableEq α] (time : Nat) (v : α) (r : Filtered α) : Filtered α :=
  { raw := v, filtered := r.filtered
    pendingState := if v = r.filtered then none else some v
    timer := if v = r.filtered then none else some time }

end Sys2Proof.Spec

/-- A change of an input's raw contact: back to the filtered state it stops the filter, away from it the filter starts at the
group's time, and no owner hears of it (R25). A bay selector's two contacts are one input: H closed with A open is HAND, A
closed with H open is AUTO, and both open or both closed OFF, and the filter works on the position (R24). -/
def Obligations.RawChangeRunsTheFilter : Prop :=
  (∀ (w : Switch) (v : Bool) (s : State), s.power = .on → (s.contacts.get w).raw ≠ v →
      exec (.rawContactChange (.switch w) v) s =
        .next { s with contacts := s.contacts.put w (filtering (filterTime s w) v (s.contacts.get w)) }) ∧
  (∀ (b : Bay) (v : Bool) (s : State), s.power = .on →
      let position (h a : Bool) : Selector := if h && !a then .hand else if a && !h then .auto else .off
      (let p := position v (s.contacts.selectorA.get b)
       exec (.rawContactChange (.selectorH b) v) s = .next { s with
         contacts := { s.contacts with
           selectorH := s.contacts.selectorH.put b v
           selector := s.contacts.selector.put b
             (if (s.contacts.selector.get b).raw = p then s.contacts.selector.get b
              else filtering (s.itemNat 2 9) p (s.contacts.selector.get b)) } }) ∧
      (let p := position (s.contacts.selectorH.get b) v
       exec (.rawContactChange (.selectorA b) v) s = .next { s with
         contacts := { s.contacts with
           selectorA := s.contacts.selectorA.put b v
           selector := s.contacts.selector.put b
             (if (s.contacts.selector.get b).raw = p then s.contacts.selector.get b
              else filtering (s.itemNat 2 9) p (s.contacts.selector.get b)) } }))

/-! ## Rain and storm state -/

/-- A tip while no bounce timer runs is counted; one while it runs has no effect; the bounce timer's expiry stops it (R29, R30).
The tip is counted against what is being qualified, or against the episode in progress, in its slot or in the accumulator, and
against none with nothing in progress (R145). The dry timer's expiry makes WET into DRY and leaves DRY and STORM as they are;
the timer stays stopped (R37). Where a tip and the expiry come together in WET, the state is WET after both with the dry timer
running, in either order (R37): an expiry that no millisecond parts from the tip that restarted its timer leaves the timer as the
tip restarted it (log 34). -/
def Obligations.TipsAndTheDryTimerMoveTheStorm : Prop :=
  (∀ s : State, s.power = .on →
      (s.rain.bounceTimer.isSome = true → exec .tipArrival s = .next s) ∧
      exec .bounceTimerExpiry s = .next { s with rain := { s.rain with bounceTimer := none } } ∧
      (s.rain.bounceTimer = none → ∃ t : State, exec .tipArrival s = .next t ∧
        t.rain = { s.rain with
          openBin := min 255 (s.rain.openBin + 1)
          total := min 4294967295 (s.rain.total + 1)
          dryTimer := some (s.itemNat 2 5 * 60000)
          dryRestarted := s.rain.dryTimer.isSome
          bounceTimer := some 250
          storm := if s.rain.storm = .dry then .wet else s.rain.storm } ∧
        t.plant = { s.plant with rain := t.rain, spill := t.spill, episodes := t.episodes } ∧
        (s.episodes.qualifying = true → t.episodes = s.episodes ∧
          ∀ a, s.spill.accumulation = some a → t.spill = { s.spill with
            accumulation := some { a with tally := { a.tally with tips := min 65535 (a.tally.tips + 1) } } }) ∧
        (s.episodes.qualifying = false → t.spill = s.spill ∧
          ∀ i e, s.episodes.inProgress = .slot i → s.episodes.slots.get i = some e →
            t.episodes.slots.get i = some { e with tally := { e.tally with tips := min 65535 (e.tally.tips + 1) } } ∧
            (∀ j, j ≠ i → t.episodes.slots.get j = s.episodes.slots.get j) ∧
            t.episodes = { s.episodes with slots := t.episodes.slots, attn := t.episodes.attn }) ∧
        (s.episodes.qualifying = false → s.episodes.inProgress = .accumulator →
          t.spill = s.spill ∧ t.episodes = { s.episodes with
            acc := { s.episodes.acc with
              tally := { s.episodes.acc.tally with tips := min 65535 (s.episodes.acc.tally.tips + 1) } }
            attn := t.episodes.attn }) ∧
        (s.episodes.qualifying = false → s.episodes.inProgress = .none →
          t.spill = s.spill ∧ t.episodes = { s.episodes with attn := t.episodes.attn }))) ∧
  (∀ s : State, s.power = .on → s.rain.dryTimer.isSome = true →
      let together := s.rain.dryRestarted = true ∧ s.rain.bounceTimer = some 250
      (together → exec .dryTimerExpiry s = .next { s with rain := { s.rain with dryRestarted := false } }) ∧
      (¬ together → ∃ t : State, exec .dryTimerExpiry s = .next t ∧ t.plant = { s.plant with rain := t.rain } ∧
        t.rain = { s.rain with dryTimer := none, storm := if s.rain.storm = .wet then .dry else s.rain.storm })) ∧
  (∀ s : State, s.power = .on → s.rain.storm = .wet → s.rain.dryTimer.isSome = true → s.rain.bounceTimer = none →
      (∃ t u : State, exec .tipArrival s = .next t ∧ exec .dryTimerExpiry t = .next u ∧
        u.rain.storm = .wet ∧ u.rain.dryTimer.isSome = true) ∧
      (∃ t u : State, exec .dryTimerExpiry s = .next t ∧ exec .tipArrival t = .next u ∧
        u.rain.storm = .wet ∧ u.rain.dryTimer.isSome = true))

/-- The bin close: the open bin joins the closed bins as the newest and the oldest is dropped; the intensity is floor(T x tip
depth x 60 / N) over the newest N bins, stopped at 65535; and the storm state is judged on it (R31 to R36).
The minute timer starts again (log 22). -/
def Obligations.BinCloseJudgesTheStorm : Prop :=
  ∀ s : State, s.power = .on → s.rain.minuteTimer.isSome = true →
    let bins := (s.rain.closedBins ++ [s.rain.openBin]).drop 1
    let n := s.itemNat 2 1
    let intensity := min 65535 (((bins.reverse.take n).sum * s.itemNat 2 0 * 60) / n)
    let quiet := if intensity < s.itemNat 2 3 then min 255 (s.rain.quiet + 1) else 0
    let closed : Rain := { s.rain with
      closedBins := bins, openBin := 0, intensity := intensity, minuteTimer := some 60000 }
    ∃ t : State, exec .binClose s = .next t ∧ t.plant = { s.plant with rain := t.rain } ∧
      (s.rain.storm = .dry → t.rain = closed) ∧
      (s.rain.storm = .wet → t.rain =
        if s.itemNat 2 2 ≤ intensity then { closed with storm := .storm, quiet := 0 } else closed) ∧
      (s.rain.storm = .storm → t.rain =
        if s.itemNat 2 4 < quiet ∧ s.rain.episodeFlag = false then
          { closed with quiet := quiet, storm := if s.rain.dryTimer.isSome then .wet else .dry }
        else { closed with quiet := quiet })

/-- While an episode is in progress the storm state is STORM: every step keeps it, with sixty closed bins (R31, R34). -/
def Obligations.StormLawIsKept : Prop := ∀ s t : State, s.StormLawful → step s = .next t → t.StormLawful

/-! ## Pumps -/

namespace Sys2Proof.Spec

/-- R45, R48, R54: a pump record that has entered a state with no output, its seconds in state at rest and all four of
its timers stopped (log 12). -/
def rested (st : PumpState) (p : PumpRec) : PumpRec :=
  { p with
    state := st, starterSelect := false, runContactor := false, secondsInState := 0, changeoverDue := false
    minRun := none, minRest := none, stopConfirm := none, feedbackLoss := none }

/-- R60: a pump record that has entered LOCKED_OUT. -/
def locked (why : LockoutReason) (p : PumpRec) : PumpRec :=
  { rested .lockedOut p with
    startLimited := false, resetMark := false, reason := some why, lockouts := min 255 (p.lockouts + 1) }

/-- The Roster with one bay's record replaced, and nothing else of it. -/
def rosterWith (s : State) (b : Bay) (p : PumpRec) : Roster := { s.roster with pumps := s.roster.pumps.put b p }

/-- A bay's record has become another, and nothing else has moved but what is handed on. -/
abbrev Becomes (s u : State) (b : Bay) (p : PumpRec) : Prop := u = { s with roster := rosterWith s b p, inbox := u.inbox }

/-- R93: the Arbiter after a ramp abort: in GAP with the gap timer at the inter-start gap, no pump held. -/
def gapped (s : State) : Arbiter :=
  { s.arbiter with
    state := .gap, held := none, rampTimer := none, runOutput := false, gapTimer := some (s.itemNat 3 8 * 1000) }

/-- R50, R53, R93: a bay's record becomes another as the pump goes elsewhere: withdrawn from the start queue if it was QUEUED,
its ramp aborted if it was STARTING and the Arbiter held it; nothing else moves but the Condition Table, which the rule of
each departure gives, and what is handed to the Duty Controller, the change of state among it (R70). -/
def Departs (s u : State) (b : Bay) (p : PumpRec) : Prop :=
  let ramping := (s.pump b).state = .starting ∧ s.arbiter.state = .ramping ∧ s.arbiter.held = some b
  (ramping → RampEnds s u ∧ u = { s with
    roster := rosterWith s b p, arbiter := gapped s, screens := u.screens, conditions := u.conditions, inbox := u.inbox }) ∧
  (¬ ramping → u = { s with
    roster := rosterWith s b p
    arbiter := if (s.pump b).state = .queued then { s.arbiter with queue := s.arbiter.queue.erase b } else s.arbiter
    conditions := u.conditions
    inbox := u.inbox }) ∧
  .pump b (s.pump b).state p.state ∈ u.inbox

/-- R60, R163: entry to LOCKED_OUT from any state: the pump withdrawn or its ramp aborted, its record locked, its source
reported active with the reason, and no other source. -/
def Locks (s u : State) (b : Bay) (why : LockoutReason) : Prop :=
  Departs s u b (locked why (s.pump b)) ∧
  u.cond (lockoutSource b) = told s (lockoutSource b) true (some (.lockout why)) ∧
  ∀ i, i ≠ lockoutSource b → u.cond i = s.cond i

/-- R60, R163: what a lockout leaves: the pump LOCKED_OUT, its source active with the reason, notices to the Duty Controller;
everything else as it was. -/
def LocksOut (s u : State) (b : Bay) (why : LockoutReason) : Prop :=
  (u.cond (lockoutSource b)).active = true ∧ (u.cond (lockoutSource b)).detail = some (.lockout why) ∧
  (∀ i, i ≠ lockoutSource b → u.cond i = s.cond i) ∧
  u = { s with roster := rosterWith s b (locked why (s.pump b)), conditions := u.conditions, inbox := u.inbox }

end Sys2Proof.Spec

/-- The Roster's second (R48): in every bay that is not ABSENT, run seconds with run feedback on, seconds in state, the ages
of the start window with entries of 3600 s dropped, and START_LIMITED judged.
The second timer starts again (log 22). -/
def Obligations.RosterSecondCounts : Prop :=
  ∀ s : State, s.power = .on → s.roster.secondTimer.isSome = true →
    ∃ u : State, exec .rosterSecondTimerExpiry s = .next (settle u) ∧
      u = { s with roster := u.roster, inbox := u.inbox } ∧
      u.roster = { s.roster with pumps := u.roster.pumps, secondTimer := some 1000 } ∧
      ∀ b, let p := s.pump b
        let window := (p.window.map fun e => { e with age := e.age + 1 }).dropWhile fun e => 3600 ≤ e.age
        u.pump b =
          if p.state = .absent then p
          else { p with
            runSeconds := if (s.contacts.runFeedback.get b).filtered then min 4294967295 (p.runSeconds + 1) else p.runSeconds
            secondsInState := min 4294967295 (p.secondsInState + 1)
            window := window
            startLimited := p.state == .idle && decide (s.itemNat 3 3 ≤ window.length) }

/-- The feedback-loss timer of a RUNNING pump locks it out with FEEDBACK_LOST, the stop-confirm timer of a STOPPING pump whose
feedback is still on with FAIL_TO_STOP (R55, R56, R60).
All four pump timers stop (log 12). -/
def Obligations.FaultTimersLockThePumpOut : Prop :=
  ∀ (b : Bay) (s : State), s.power = .on →
    ((s.pump b).feedbackLoss.isSome = true → (s.pump b).state = .running →
      ∃ u : State, exec (.feedbackLossTimerExpiry b) s = .next (settle u) ∧ LocksOut s u b .feedbackLost) ∧
    ((s.pump b).stopConfirm.isSome = true → (s.pump b).state = .stopping →
      (s.contacts.runFeedback.get b).filtered = true →
      ∃ u : State, exec (.stopConfirmTimerExpiry b) s = .next (settle u) ∧ LocksOut s u b .failToStop)

/-- The min-run expiry of a RUNNING pump: in the last wanted set it stays RUNNING; out of it, it goes to STOPPING with the
stop-confirm timer, or, its feedback already off, to rest (R54, R56). The min-rest expiry of a RESTING pump: it becomes IDLE,
with START_LIMITED set if its start window is full, and the queue test is made (R57).
All four pump timers stop at each change of state (log 12). -/
def Obligations.MinRunAndMinRestAreServed : Prop :=
  (∀ (b : Bay) (s : State), s.live → (s.pump b).minRun.isSome = true → (s.pump b).state = .running →
      (s.duty.wanted.contains b = true → exec (.minRunTimerExpiry b) s =
        .next { s with roster := rosterWith s b { s.pump b with minRun := none } }) ∧
      (s.duty.wanted.contains b = false →
        ∃ u : State, exec (.minRunTimerExpiry b) s = .next (settle u) ∧
          u = { s with roster := u.roster, inbox := u.inbox } ∧
          ((s.contacts.runFeedback.get b).filtered = true → u.roster = rosterWith s b
            { rested .stopping (s.pump b) with stopConfirm := some (s.itemNat 3 4 * 1000) }) ∧
          ((s.contacts.runFeedback.get b).filtered = false →
            u.roster = rosterWith s b (if (s.pump b).selector = .auto ∧ (s.pump b).inService = true then
              { rested .resting (s.pump b) with minRest := some (s.itemNat 3 2 * 1000) }
              else rested .unavailable (s.pump b))))) ∧
  (∀ (b : Bay) (s : State), s.live → (s.pump b).minRest.isSome = true → (s.pump b).state = .resting →
      ∃ u : State, exec (.minRestTimerExpiry b) s = .next (settle u) ∧ .queueTest ∈ u.inbox ∧
        u = { s with
          roster := rosterWith s b { rested .idle (s.pump b) with
            startLimited := decide (s.itemNat 3 3 ≤ (s.pump b).window.length) }
          inbox := u.inbox })

/-- The restart-hold expiry: the hold is over at the Roster and at the Arbiter, and the queue test is made (R68, R91). The restore
timer's expiry: the timer stops and the gate no longer waits for it; with the health unchanged and the queue empty nothing
else moves (R103).
What the expiries hand on is taken within the step (log 5). -/
def Obligations.HoldsAndRestoreTimerEnd : Prop :=
  (∀ s : State, s.live → s.roster.restartHold.isSome = true →
      ∃ u : State, exec .restartHoldExpiry s = .next (settle u) ∧ .queueTest ∈ u.inbox ∧
        u.roster.restartHold = none ∧ u.arbiter.holdExpired = true ∧ u.plant = s.plant ∧ u.duty = s.duty ∧
        (s.arbiter.queue = [] → u = { s with
          roster := { s.roster with restartHold := none }
          arbiter := { s.arbiter with holdExpired := true }
          inbox := [.queueTest] })) ∧
  (∀ s : State, s.live → s.supply.restoreTimer.isSome = true →
      (∃ t : State, exec .restoreTimerExpiry s = .next t ∧ t.plant = { s.plant with
        supply := { s.supply with restoreTimer := none } }) ∧
      (s.arbiter.queue = [] → s.arbiter.health = .healthy → s.contacts.starterReady.filtered = true →
        s.contacts.starterFault.filtered = false → exec .restoreTimerExpiry s = .next { s with
          supply := { s.supply with restoreTimer := none }
          arbiter := { s.arbiter with gateRestore := false } }))

/-- PUMP_RESET with authority held, judged in the order of R62: a reset that acts clears the lockout, and the pump rests, or
is UNAVAILABLE when OUT_OF_SERVICE (R61, R62).
The reset mark goes with the lockout (log 13) and all four pump timers stop (log 12). -/
def Obligations.PumpResetClearsALockout : Prop :=
  ∀ (ans bay : Nat) (s : State), s.cleared ans →
    ((bay = 0 ∨ 4 < bay) → exec (.pumpReset ans bay) s = .next (s.heard.spent.replying 0x0B .badIndex [])) ∧
    ∀ b, b.number = bay →
      ((s.pump b).state = .absent → exec (.pumpReset ans bay) s = .next (s.heard.spent.replying 0x0B .badIndex [])) ∧
      ((s.pump b).state ≠ .absent → (s.pump b).selector ≠ .auto →
        exec (.pumpReset ans bay) s = .next (s.heard.spent.replying 0x0B .localControl [])) ∧
      ((s.pump b).state ≠ .absent → (s.pump b).selector = .auto → (s.pump b).state ≠ .lockedOut →
        exec (.pumpReset ans bay) s = .next (s.heard.spent.replying 0x0B .ok [])) ∧
      ((s.pump b).selector = .auto → (s.pump b).state = .lockedOut → (s.contacts.overload.get b).filtered = false →
        exec (.pumpReset ans bay) s = .next (s.heard.spent.replying 0x0B .stillFaulted [])) ∧
      ((s.pump b).selector = .auto → (s.pump b).state = .lockedOut → (s.contacts.overload.get b).filtered = true →
        ∃ u : State, exec (.pumpReset ans bay) s = .next ((settle u).replying 0x0B .ok []) ∧
          (u.cond (lockoutSource b)).active = false ∧
          (∀ i, i ≠ lockoutSource b → u.cond i = s.heard.cond i) ∧
          u = { s.heard.spent with
            roster := rosterWith s b
              (if (s.pump b).inService = true then
                { rested .resting (s.pump b) with
                  reason := none, resetMark := false, minRest := some (s.itemNat 3 2 * 1000) }
              else { rested .unavailable (s.pump b) with reason := none, resetMark := false })
            conditions := u.conditions
            inbox := u.inbox })

/-- PUMP_FORCE with authority held, judged in the order of R64: the forced mode is set, and a change of it handed to the Duty
Controller. -/
def Obligations.PumpForceSetsTheForcedMode : Prop :=
  ∀ (ans bay mode : Nat) (s : State), s.cleared ans →
    (2 < mode → exec (.pumpForce ans bay mode) s = .next (s.heard.spent.replying 0x0A .badRequest [])) ∧
    (mode ≤ 2 → (bay = 0 ∨ 4 < bay) →
      exec (.pumpForce ans bay mode) s = .next (s.heard.spent.replying 0x0A .badIndex [])) ∧
    ∀ b, b.number = bay →
      (mode ≤ 2 → (s.pump b).state = .absent →
        exec (.pumpForce ans bay mode) s = .next (s.heard.spent.replying 0x0A .badIndex [])) ∧
      (mode ≤ 2 → (s.pump b).state ≠ .absent → (s.pump b).selector ≠ .auto →
        exec (.pumpForce ans bay mode) s = .next (s.heard.spent.replying 0x0A .localControl [])) ∧
      ((mode = 1 ∨ mode = 2) → (s.pump b).state ≠ .absent → (s.pump b).selector = .auto → (s.pump b).inService = false →
        exec (.pumpForce ans bay mode) s = .next (s.heard.spent.replying 0x0A .conflict [])) ∧
      ∀ f : Forced, f.code = mode → (s.pump b).state ≠ .absent → (s.pump b).selector = .auto →
        ((s.pump b).inService = true ∨ f = .none) →
        exec (.pumpForce ans bay mode) s = .next (State.replying (settle { s.heard.spent with
          roster := rosterWith s b { s.pump b with forced := f }
          inbox := if (s.pump b).forced = f then [] else [.forced b (s.pump b).forced f] }) 0x0A .ok [])

/-- PUMP_SERVICE with authority held, judged in the order of R65: the value already held changes nothing; OUT_OF_SERVICE
cancels the forced mode, takes an IDLE, RESTING or QUEUED pump to UNAVAILABLE and a STARTING or RUNNING one to STOPPING, its
ramp aborted; IN_SERVICE brings an UNAVAILABLE pump out by its contacts: IDLE, STOPPING with feedback on, LOCKED_OUT with the
overload tripped (R47, R53, R56, R65).
All four pump timers stop (log 12), and START_LIMITED stands as it was but in LOCKED_OUT (log 14). -/
def Obligations.PumpServiceWritesTheService : Prop :=
  ∀ (ans bay value : Nat) (s : State), s.cleared ans →
    (1 < value → exec (.pumpService ans bay value) s = .next (s.heard.spent.replying 0x09 .badRequest [])) ∧
    (value ≤ 1 → (bay = 0 ∨ 4 < bay) →
      exec (.pumpService ans bay value) s = .next (s.heard.spent.replying 0x09 .badIndex [])) ∧
    ∀ b, b.number = bay → value ≤ 1 →
      ((s.pump b).state = .absent →
        exec (.pumpService ans bay value) s = .next (s.heard.spent.replying 0x09 .badIndex [])) ∧
      ((s.pump b).state ≠ .absent → (s.pump b).selector ≠ .auto →
        exec (.pumpService ans bay value) s = .next (s.heard.spent.replying 0x09 .localControl [])) ∧
      ((s.pump b).state ≠ .absent → (s.pump b).selector = .auto → (s.pump b).inService = (value == 0) →
        exec (.pumpService ans bay value) s = .next (s.heard.spent.replying 0x09 .ok [])) ∧
      ((s.pump b).state ≠ .absent → (s.pump b).selector = .auto → value = 1 → (s.pump b).inService = true →
        ∃ u : State, exec (.pumpService ans bay value) s = .next ((settle u).replying 0x09 .ok []) ∧
          let q := { s.pump b with inService := false, forced := .none }
          ((s.pump b).state = .idle ∨ (s.pump b).state = .resting → u = { s.heard.spent with
            roster := rosterWith s b (rested .unavailable q), inbox := u.inbox }) ∧
          ((s.pump b).state = .queued → u = { s.heard.spent with
            roster := rosterWith s b (rested .unavailable q)
            arbiter := { s.arbiter with queue := s.arbiter.queue.erase b }
            inbox := u.inbox }) ∧
          ((s.pump b).state = .starting → s.arbiter.state = .ramping → s.arbiter.held = some b → u.screens.ramping = false ∧
            u = { s.heard.spent with
              roster := rosterWith s b (if (s.contacts.runFeedback.get b).filtered = true then
                  { rested .stopping q with stopConfirm := some (s.itemNat 3 4 * 1000) }
                else rested .unavailable q)
              arbiter := { s.arbiter with
                state := .gap, held := none, rampTimer := none, runOutput := false
                gapTimer := some (s.itemNat 3 8 * 1000) }
              screens := u.screens
              conditions := u.conditions
              inbox := u.inbox }) ∧
          ((s.pump b).state = .running → u = { s.heard.spent with
            roster := rosterWith s b (if (s.contacts.runFeedback.get b).filtered = true then
                { rested .stopping q with stopConfirm := some (s.itemNat 3 4 * 1000) }
              else rested .unavailable q)
            inbox := u.inbox }) ∧
          ((s.pump b).state = .stopping ∨ (s.pump b).state = .lockedOut ∨ (s.pump b).state = .unavailable →
            u = { s.heard.spent with roster := rosterWith s b q, inbox := u.inbox })) ∧
      ((s.pump b).state ≠ .absent → (s.pump b).selector = .auto → value = 0 → (s.pump b).inService = false →
        ∃ u : State, exec (.pumpService ans bay value) s = .next ((settle u).replying 0x09 .ok []) ∧
          let q := { s.pump b with inService := true }
          ((s.pump b).state ≠ .unavailable → u = { s.heard.spent with roster := rosterWith s b q }) ∧
          ((s.pump b).state = .unavailable → (s.contacts.overload.get b).filtered = true → u = { s.heard.spent with
            roster := rosterWith s b
              (if (s.contacts.runFeedback.get b).filtered = true then
                { rested .stopping q with stopConfirm := some (s.itemNat 3 4 * 1000) }
              else rested .idle q)
            inbox := u.inbox }) ∧
          ((s.pump b).state = .unavailable → (s.contacts.overload.get b).filtered = false →
            LocksOut { s.heard.spent with roster := rosterWith s b q } u b .overload))

/-! ## Reads -/

namespace Sys2Proof.Spec

/-- R183: a request reads a run of records: refusals, the whole range with OK if it fits in 200 characters, and otherwise
the longest run that fits with MORE and the next index. -/
def ReadsRecords (request : Nat → Nat → Instr) (code size : Nat) (record : State → Nat → List Byte) : Prop :=
  ∀ (start count : Nat) (s : State), s.ready →
    (count = 0 → exec (request start count) s = .next (s.heard.replying code .badRequest [])) ∧
    (0 < count → size ≤ start → exec (request start count) s = .next (s.heard.replying code .badIndex [])) ∧
    (0 < count → start < size →
      let records := (List.range' start (min count (size - start))).map (record s.heard)
      (2 + records.flatten.length ≤ 200 → exec (request start count) s =
        .next (s.heard.replying code .ok (byte start :: byte records.length :: records.flatten))) ∧
      (200 < 2 + records.flatten.length → ∃ k, k < records.length ∧
        3 + (records.take k).flatten.length ≤ 200 ∧ 200 < 3 + (records.take (k + 1)).flatten.length ∧
        exec (request start count) s = .next
          (s.heard.replying code .more (byte start :: byte k :: byte (start + k) :: (records.take k).flatten))))

end Sys2Proof.Spec

namespace Sys2Proof.Spec

/-- R186: a number in a count of characters, high byte first. -/
def number : Nat → Nat → List Byte
  | 0, _ => []
  | k + 1, n => BitVec.ofNat 8 (n / 256 ^ k) :: number k n

/-- R186: a signed number in two characters, two's complement; UNKNOWN as -32768. -/
def signedNumber : Option Int → List Byte
  | none => number 2 32768
  | some v => number 2 (v % 65536).toNat

/-- R186: a flag character: bit 0 first, bits not named 0. -/
def flags (bits : List Bool) : Nat := bits.foldr (fun b n => (if b then 1 else 0) + 2 * n) 0

/-- R186: the code of an enumerated value, the values in the order of their codes from 0. -/
def codeIn {α : Type} [BEq α] (values : List α) (v : α) : Nat := values.idxOf v

/-- R186: the pump states by code. -/
def pumpCodes : List PumpState :=
  [.absent, .unavailable, .idle, .resting, .queued, .starting, .running, .stopping, .lockedOut]

/-- R186: the screen states by code. -/
def screenCodes : List ScreenState :=
  [.idle, .rising, .lowering, .clearing, .homing, .stalled, .jammed, .inhibited, .off]

/-- R186: the fault kinds by code. -/
def faultCodes : List FaultKind := [.none, .under, .over, .loopOpen, .step, .cross]

/-- R186: the bands by code. -/
def bandCodes : List Band := [.none, .loopOpen, .under, .lowClamp, .normal, .highClamp, .over]

/-- R186: the lockout reasons by code, absent first. -/
def lockoutCodes : List (Option LockoutReason) :=
  [none, some .overload, some .failToStart, some .feedbackLost, some .failToStop]

/-- R186: the jam reasons by code, absent first. -/
def jamCodes : List (Option JamReason) := [none, some .overloadTwice, some .topTimeout, some .homeTimeout]

/-- R186: the condition states by code. -/
def condCodes : List CondState := [.normal, .activeUnack, .activeAck, .returnedUnack, .shelved]

/-- R186: the storm states by code. -/
def stormCodes : List StormState := [.dry, .wet, .storm]

/-- R186: the starter healths by code. -/
def healthCodes : List StarterHealth := [.healthy, .faultInput, .notReady]

/-- R186: a condition's detail: the code of its kind, a serial as it is, 0 when absent. -/
def detailCode : Option Detail → Nat
  | none => 0
  | some (.fault k) => codeIn faultCodes k
  | some (.lockout r) => codeIn lockoutCodes (some r)
  | some (.jam r) => codeIn jamCodes (some r)
  | some (.health h) => codeIn healthCodes h
  | some (.serial n) => n
  | some (.cause c) => 1 + codeIn [.cold, .warmRequest, .warmSupply] c

/-- R144, R186: cause tags in a character. -/
def causeFlags (c : Causes) : Nat := flags [c.power, c.shortfall, c.screen, c.sensor, c.override, c.capacity, c.lag]

/-- R141, R186: record flags in a character. -/
def recordFlags (f : RecordFlags) : Nat :=
  flags [f.estimated, f.aboveRating, f.clockUnset, f.settingsChanged, f.interrupted, f.volumeSaturated]

/-- 3.2: whole seconds left on a timer, 0 when it is stopped (log 15). -/
def wholeSeconds : Timer → Nat
  | none => 0
  | some ms => ms / 1000

/-- R20, R186: a channel's record in eleven characters. -/
def channelRecord (s : State) (c : Channel) : List Byte :=
  let r := s.channel c
  number 1 c.index ++ signedNumber r.level ++
    number 1 (flags [!r.valid, !(r.valid && r.level.isSome), r.pinned,
      (decide (c = .ww) || decide (c = .inlet)) && r.high, decide (c = .ww) && r.low]) ++
    number 1 r.counter ++ number 1 (codeIn faultCodes r.lastFault) ++ number 1 (codeIn bandCodes r.band) ++
    number 2 r.current ++ number 1 r.limit ++ number 1 r.hold

/-- R170, R186: a condition's record in fifteen characters. -/
def conditionRecord (s : State) (i : Source) : List Byte :=
  let r := s.cond i
  number 1 i.index ++ number 1 (codeIn condCodes r.state) ++ number 1 (flags [r.active, r.urgent, r.reportable]) ++
    number 1 r.change ++ number 1 r.raises ++ number 4 r.changedAt ++ number 4 (wholeSeconds r.shelf) ++
    number 2 (detailCode r.detail)

/-- R66, R186: a pump's record in twenty-one characters. -/
def pumpRecord (s : State) (b : Bay) : List Byte :=
  let p := s.pump b
  number 1 b.number ++ number 1 (codeIn pumpCodes p.state) ++
    number 1 (codeIn [.off, .hand, .auto] p.selector + (if p.inService = true then 0 else 4) +
      8 * codeIn [.none, .run, .stop] p.forced) ++
    number 1 (codeIn lockoutCodes p.reason) ++
    number 1 (flags [p.degraded, p.startLimited, p.changeoverDue, (s.contacts.runFeedback.get b).filtered,
      !(s.contacts.overload.get b).filtered, (s.contacts.sealLeak.get b).filtered]) ++
    number 4 p.runSeconds ++ number 4 p.startsTotal ++ number 1 p.lockouts ++ number 4 p.secondsInState ++
    number 1 p.window.length ++ number 2 (match p.window with
      | [] => 0
      | e :: _ => 3600 - e.age)

/-- R122, R186: a screen's record in nineteen characters. -/
def screenRecord (s : State) (x : Screen) : List Byte :=
  let r := s.screen x
  number 1 x.index ++ number 1 (codeIn screenCodes r.state) ++
    number 1 (flags [r.inUse, r.selectorAuto, r.inhibit, r.pending, r.overloadSeen, r.resetMark, r.blinded]) ++
    number 1 (codeIn jamCodes r.jam) ++
    number 1 (flags [(s.contacts.topLimit.get x).filtered, (s.contacts.homeLimit.get x).filtered,
      !(s.contacts.rakeOverload.get x).filtered, r.forward, r.reverse]) ++
    signedNumber r.differential ++ number 4 r.cycles ++ number 4 r.lastCycle ++ number 2 r.interval.minutes ++
    number 2 (match r.interval.elapsed with
      | none => 0
      | some ms => (r.interval.minutes * 60000 - ms) / 1000)

/-- R156, R186: an occupied slot's entry in thirty-four characters. -/
def episodeRecord (i : Fin 16) (e : Episode) : List Byte :=
  let t := e.tally
  number 1 i ++ number 1 (1 + codeIn [.opened, .closing, .closed] e.state) ++ number 2 e.serial ++ number 4 e.start ++
    number 4 (e.finish.getD 0) ++ number 4 t.seconds ++ number 4 t.litres ++ signedNumber (some t.peakHead) ++
    number 2 t.peakFlow ++ number 4 t.peakTime ++ number 2 t.tips ++ number 1 (causeFlags t.causes) ++
    number 1 (recordFlags t.flags) ++ number 1 e.merges ++ number 1 (codeIn stormCodes e.stormAtOpen)

/-- R156, R186: the accumulator's record in forty-five characters. -/
def accumulatorRecord (a : Accumulator) : List Byte :=
  let t := a.tally
  number 2 a.count ++
    (match a.current with
      | none => number 1 0 ++ number 4 0 ++ number 4 0
      | some p => number 1 (flags [true, p.closing]) ++ number 4 p.start ++ number 4 (p.finish.getD 0)) ++
    number 4 t.seconds ++ number 4 t.litres ++ signedNumber (some t.peakHead) ++ number 2 t.peakFlow ++
    number 4 t.peakTime ++ number 2 t.tips ++ number 4 a.earliest ++ number 4 a.latest ++
    number 1 (causeFlags t.causes) ++ number 1 (recordFlags t.flags) ++ number 2 a.firstSerial ++
    number 2 a.lastSerial ++ number 2 a.merges

/-- R186: bay numbers in four characters, 0 after the last. -/
def bayNumbers (l : List Bay) : List Byte := ((l.map fun b => BitVec.ofNat 8 b.number) ++ List.replicate 4 0#8).take 4

/-- R87, R105, R137, R156, R168, R186: the status record in fifty-one characters, with a present flow of two. -/
def statusRecord (s : State) (flow : List Byte) : List Byte :=
  number 1 (1 + codeIn [.cold, .warmRequest, .warmSupply] s.restartCause) ++
    number 1 (flags [s.clock.isSet, s.line.latch, s.store.commit.isSome, s.duty.cutoff, s.arbiter.holdExpired,
      s.supply.mains, s.supply.generator, s.spill.spWet]) ++
    number 4 s.clock.time ++ number 1 (codeIn [.none, .mains, .generator] s.supply.state) ++ number 1 s.supply.limit ++
    number 2 (wholeSeconds s.supply.restoreTimer) ++ number 1 (codeIn stormCodes s.rain.storm) ++
    number 1 s.duty.stage ++ number 1 (codeIn [.normal, .storm] s.duty.profile) ++ bayNumbers s.duty.order ++
    number 1 (codeIn [.idle, .ramping, .gap, .faulted] s.arbiter.state) ++
    number 1 (codeIn [none, some .b1, some .b2, some .b3, some .b4] s.arbiter.held) ++ bayNumbers s.arbiter.queue ++
    number 1 (codeIn healthCodes s.arbiter.health) ++
    number 4 (flags (Source.all.map fun i => s.conditions.summary.contains i)) ++
    number 1 (s.episodes.slots.toList.filter Option.isSome).length ++
    number 1 (match s.episodes.inProgress with
      | .none => 255
      | .slot i => i
      | .accumulator => 16) ++
    number 1 (match s.episodes.inProgress with
      | .none => 0
      | .slot i => match s.episodes.slots.get i with
        | none => 0
        | some e => codeIn [.closed, .opened, .closing] e.state
      | .accumulator => match s.episodes.acc.current with
        | none => 0
        | some p => if p.closing = true then 2 else 1) ++
    number 1 (flags [s.episodes.qualifying, s.spill.spilling, decide (s.spill.basis = .probe), s.spill.above]) ++
    number 2 s.episodes.serialCounter ++ signedNumber s.spill.head ++ flow ++ number 2 s.spill.held ++
    signedNumber (some s.spill.rating.crest) ++ number 1 s.spill.rating.points.length ++
    (match s.spill.accumulation with
      | none => number 8 0
      | some a => number 4 a.tally.seconds ++ number 4 a.tally.litres)

end Sys2Proof.Spec

/-- The reads of several records (R183): channels, conditions, pumps, screens, episode slots, and the items of each table;
READ_SETTINGS of table 7 or above 8 is refused; a read changes nothing but the line. Each record holds what R186 lays out for
it, in 11 characters for a channel, 15 for a condition, 21 for a pump, 19 for a screen, 34 for an occupied slot, 2 for a FREE
one and 2 for a setting (R20, R66, R122, R156, R170). Seconds left are whole seconds (log 15), and the frame's own report of
LINK_LOST inactive is taken before the read (log 37). -/
def Obligations.ReadsReturnTheLongestRun : Prop :=
  (ReadsRecords .readChannels 0x02 4 channelChars ∧
    ReadsRecords .readConditions 0x03 25 conditionChars ∧
    ReadsRecords .readPumps 0x08 4 pumpChars ∧
    ReadsRecords .readScreens 0x0C 2 screenChars ∧
    ReadsRecords .readEpisodes 0x10 16 episodeChars ∧
    (∀ table size, (table, size) ∈ [(0, 7), (1, 31), (2, 16), (3, 12), (4, 16), (5, 9), (6, 39), (8, 50)] →
      ReadsRecords (.readSettings table) 0x16 size fun s i => signed (s.item table i)) ∧
    (∀ (table start count : Nat) (s : State), s.ready → table = 7 ∨ 8 < table →
      exec (.readSettings table start count) s = .next (s.heard.replying 0x16 .badIndex []))) ∧
  (∀ s : State,
    (∀ c : Channel, channelChars s c.index = channelRecord s c ∧ (channelRecord s c).length = 11) ∧
    (∀ i : Source, conditionChars s i.index = conditionRecord s i ∧ (conditionRecord s i).length = 15) ∧
    (∀ b : Bay, pumpChars s (b.number - 1) = pumpRecord s b ∧ (pumpRecord s b).length = 21) ∧
    (∀ x : Screen, screenChars s x.index = screenRecord s x ∧ (screenRecord s x).length = 19) ∧
    (∀ table i, signed (s.item table i) = signedNumber (some (s.item table i)) ∧
      (signedNumber (some (s.item table i))).length = 2) ∧
    (∀ (i : Fin 16) (e : Episode), (s.episodes.slots.get i = none → episodeChars s i = number 1 i ++ number 1 0) ∧
      (s.episodes.slots.get i = some e → episodeChars s i = episodeRecord i e ∧ (episodeRecord i e).length = 34)))

/-! ## Demand and duty order -/

/-- The changeover timer's expiry with the pump RUNNING (R84): CHANGEOVER_DUE is set, the replacement mark cleared, the pump
moved to the tail of its class; the evaluation of R70 goes on from there. -/
def Obligations.ChangeoverExpiryMakesThePumpDue : Prop :=
  ∀ (b : Bay) (s : State), s.live → (s.duty.changeoverTimer.get b).isSome = true → (s.pump b).state = .running →
    ∃ u : State, exec (.changeoverTimerExpiry b) s = .next (settleWithin 1023
        (handOver (.changeover b) (rotate (settleStage (.changeover b) s.duty.stage u)))) ∧
      let others := s.duty.order.erase b
      let tail (class_ : Bool) := others.filter (fun c => (s.pump c).degraded == class_) ++
        (if (s.pump b).degraded = class_ then [b] else [])
      u = { s with
        roster := rosterWith s b { s.pump b with changeoverDue := true }
        duty := { s.duty with
          changeoverTimer := s.duty.changeoverTimer.put b none
          replaced := s.duty.replaced.put b false
          order := tail false ++ tail true } }

namespace Sys2Proof.Spec

/-- R73, R74, R75: the stage after the overrides of what the Duty Controller holds, each later one prevailing. -/
def overridden (k : Duty) (d : Nat) : Nat :=
  if k.lfCovered = false then 0 else if k.allOut = true ∨ k.hfCovered = true then 4 else d

/-- R26, R38, R46, R70, R74, R75, R100: what the Duty Controller holds of its neighbours after an event reaches it: the event's
own part written, LF the cutoff with it, and the rest as it was. -/
def Holds (n : Notice) (s t : State) : Prop :=
  t.duty.report = (match n with | .wwReport r => r | _ => s.duty.report) ∧
  t.duty.hfCovered = (match n with | .hf v => v | _ => s.duty.hfCovered) ∧
  t.duty.lfCovered = (match n with | .lf v => v | _ => s.duty.lfCovered) ∧
  t.duty.cutoff = (match n with | .lf v => !v | _ => s.duty.cutoff) ∧
  t.duty.allOut = (match n with | .allOut v => v | _ => s.duty.allOut) ∧
  t.duty.storm = (match n with | .storm st => st | _ => s.duty.storm) ∧
  t.duty.limit = (match n with | .limit k => k | _ => s.duty.limit) ∧
  t.duty.handCount = (match n with
    | .hand _ => ([Bay.b1, .b2, .b3, .b4].filter fun b => (s.pump b).state != .absent && ((s.pump b).selector == .hand &&
        (s.contacts.runFeedback.get b).filtered)).length
    | _ => s.duty.handCount)

/-- R58: a pump at the notice that the cutoff is in force. -/
def cutOff (rest : Nat) (p : PumpRec) : PumpRec :=
  match p.state with
  | .starting | .running => { rested .resting p with minRest := some rest }
  | .queued => rested .idle p
  | _ => p

end Sys2Proof.Spec

/-- The stage and what the Duty Controller holds after an event. After a WW report (R72, R73, R76): a report accepted and usable
moves the stage by the levels of the profile that the storm state chooses; LF dry makes it 0, all-out or HF covered makes it 4,
and LF dry prevails. The level step climbs while the level is at or above the next start level, and, if it did not climb, falls
while the level is at or below its stop level. Every event writes what it carries and nothing else of what is held, a change of
HF or LF and an all-out notice among them, and makes the overrides at its evaluation; LF dry puts the cutoff in force and LF
covered lifts it (R70, R73 to R75). At LF dry the wanted set is empty, every pump STARTING or RUNNING goes to RESTING, every
QUEUED one to IDLE, the ramp is aborted, and every other stays (R58). All four timers of a pump stop (log 12). -/
def Obligations.StageFollowsTheWetWell : Prop :=
  (∀ (s : State) (r : ChannelReport),
      (∀ level, r.level = some level → r.usable = true → r.accepted = true →
        let base := if s.duty.storm = .storm then 8 else 0
        (deliver (.wwReport r) s).duty.stage =
          overridden s.duty (stepStage (fun k => s.item 4 (base + (k - 1))) (fun k => s.item 4 (base + 4 + (k - 1))) level s.duty.stage)) ∧
      (r.accepted = false ∨ r.usable = false → (deliver (.wwReport r) s).duty.stage = overridden s.duty s.duty.stage)) ∧
  (∀ (start stop : Nat → Int) (level : Int) (d : Nat), d ≤ 4 →
      let e := stepStage start stop level d
      (d < 4 → start (d + 1) ≤ level →
        d < e ∧ e ≤ 4 ∧ (∀ k, d < k → k ≤ e → start k ≤ level) ∧ (e < 4 → level < start (e + 1))) ∧
      (¬ (d < 4 ∧ start (d + 1) ≤ level) →
        e ≤ d ∧ (∀ k, e < k → k ≤ d → level ≤ stop k) ∧ (0 < e → stop e < level))) ∧
  (∀ (s : State) (n : Notice), n ≠ .queueTest →
      let t := deliver n s
      Holds n s t ∧ ((∀ r, n ≠ .wwReport r) →
        t.duty.stage = overridden t.duty s.duty.stage ∧ t.duty.profile = s.duty.profile)) ∧
  (∀ s : State,
      let t := deliver (.lf false) s
      t.duty.counted = [] ∧ t.duty.uncounted = [] ∧ (∀ b, t.pump b = cutOff (s.itemNat 3 2 * 1000) (s.pump b)) ∧
      ∀ b, (s.pump b).state = .starting → s.arbiter.state = .ramping → s.arbiter.held = some b →
        t.arbiter = { gapped s with queue := t.arbiter.queue } ∧ RampEnds s t)

namespace Sys2Proof.Spec

/-- R81, R82: the counted members of steps 1 to 3: forced RUN pumps within the allowance, then pumps already committed, then
fresh ones, each in duty order while the members are fewer than the target. -/
def walked (s : State) : List Bay :=
  let allowance := s.duty.limit - s.duty.handCount
  let target := min s.duty.stage allowance
  let forcedRun := (s.duty.order.filter fun b => (s.pump b).forced == .run).take allowance
  let committed := (s.duty.order.filter fun b =>
    ((s.pump b).state == .queued || (s.pump b).state == .starting || (s.pump b).state == .running) &&
      (s.pump b).forced == .none && !(s.pump b).changeoverDue).take (target - forcedRun.length)
  let fresh := (s.duty.order.filter fun b =>
    (s.pump b).state == .idle && !(s.pump b).startLimited && (s.pump b).forced == .none).take
      (target - (forcedRun ++ committed).length)
  forcedRun ++ committed ++ fresh

/-- R49: an IDLE pump passes every test of the queue test but its start window. -/
def PassesButWindow (s : State) (b : Bay) : Prop :=
  (s.pump b).state = .idle ∧ (b ∈ s.duty.counted ∨ b ∈ s.duty.uncounted) ∧ (s.pump b).startLimited = false ∧
  s.roster.restartHold = none ∧ s.duty.cutoff = false ∧ s.arbiter.state ≠ .faulted ∧
  ([Bay.b1, .b2, .b3, .b4].filter fun c =>
    (s.pump c).state == .queued || (s.pump c).state == .starting || (s.pump c).state == .running).length < s.supply.limit

end Sys2Proof.Spec

/-- The wanted set (R75, R80 to R82, R85): empty under the cutoff; otherwise the walks' members, then the pumps with
CHANGEOVER_DUE and no forced mode in duty order: counted while the target wants more, standing in while they number fewer than
the counted members not RUNNING, stopped if replaced with a target above 0, and dropped if not, as one forced STOP is. Its
counted members stay within the allowance; every member is in the duty order and none forced STOP. The queue test (R49, R90):
pumps are taken in duty order; one that passes is QUEUED at the tail of the start queue and the grant test is made, one that
fails on its window alone has START_LIMITED set, and any other is left as it is. -/
def Obligations.WantedSetStaysWithinTheAllowance : Prop :=
  (∀ s : State, let w := s.wantedSet
    (s.duty.cutoff = true → w.counted = [] ∧ w.uncounted = []) ∧
    w.counted.length ≤ s.duty.limit - s.duty.handCount ∧
    (∀ b, b ∈ w.counted ∨ b ∈ w.uncounted → b ∈ s.duty.order ∧ (s.pump b).forced ≠ .stop) ∧
    (s.duty.cutoff = false →
      let target := min s.duty.stage (s.duty.limit - s.duty.handCount)
      let due := s.duty.order.filter fun b => (s.pump b).changeoverDue && (s.pump b).forced == .none
      let rest := due.drop (target - (walked s).length)
      let room := (w.counted.filter fun b => (s.pump b).state != .running).length
      let replaced (b : Bay) : Prop := s.duty.replaced.get b = true ∧ 0 < target
      w.counted = walked s ++ due.take (target - (walked s).length) ∧
      w.uncounted = rest.take room ∧
      (∀ b, b ∈ w.stops ↔ b ∈ rest.drop room ∧ replaced b) ∧
      ∀ b, b ∈ w.drops ↔ (b ∈ rest.drop room ∧ ¬ replaced b) ∨
        (b ∈ s.duty.order ∧ (s.pump b).changeoverDue = true ∧ (s.pump b).forced = .stop))) ∧
  (∀ s : State, deliver .queueTest s = s.duty.order.foldl (fun t b => queueOne b t) s) ∧
  (∀ (b : Bay) (s : State),
    (¬ PassesButWindow s b → queueOne b s = s) ∧
    (PassesButWindow s b → s.itemNat 3 3 ≤ (s.pump b).window.length → queueOne b s = { s with
      roster := rosterWith s b { s.pump b with startLimited := true }, inbox := s.inbox ++ [.roster b] }) ∧
    (PassesButWindow s b → (s.pump b).window.length < s.itemNat 3 3 → queueOne b s = grantTest { s with
      roster := rosterWith s b (rested .queued (s.pump b))
      arbiter := { s.arbiter with queue := s.arbiter.queue ++ [b] }
      inbox := s.inbox ++ [.pump b .idle .queued] }))

/-- Outputs follow states: every step keeps starter select on in STARTING alone, run contactor in RUNNING alone, the starter
run output in RAMPING alone, and the rake outputs as R109 gives them (R45, R89, R109); and a reply that stands is made of
good characters, the first the master's address with its mark bit 1 and the rest with theirs 0 (R174, R186). -/
def Obligations.OutputLawIsKept : Prop := ∀ s t : State, s.OutputsFollow → step s = .next t → t.OutputsFollow

/-- The cutoff is in force exactly while the Duty Controller holds LF dry, and while it is in force no pump is queued, starting or
running, and so, with the outputs following the states, no pump output is on: every step keeps it (R58, R75). -/
def Obligations.CutoffLawIsKept : Prop := ∀ s t : State, s.CutoffKeepsDry → step s = .next t → t.CutoffKeepsDry

/-! ## Starter and supply -/

/-- The ramp timer's expiry (R52, R92): the starter is let go into its gap, and a trigger held by the ramp is answered (R111); with run feedback on the pump becomes RUNNING with
its min-run timer started, with it off it is locked out with FAIL_TO_START.
All four pump timers stop (log 12). -/
def Obligations.RampExpirySettlesTheStart : Prop :=
  ∀ (b : Bay) (s : State), s.power = .on → s.arbiter.rampTimer.isSome = true → s.arbiter.held = some b →
    (s.pump b).state = .starting →
    ∃ u : State, exec .rampTimerExpiry s = .next (settle u) ∧
      u = { s with
        roster := u.roster, arbiter := u.arbiter, screens := u.screens, conditions := u.conditions, inbox := u.inbox } ∧
      u.arbiter = { s.arbiter with
        state := .gap, held := none, rampTimer := none, runOutput := false, gapTimer := some (s.itemNat 3 8 * 1000)
        queue := s.arbiter.queue } ∧
      RampEnds s u ∧
      ((s.contacts.runFeedback.get b).filtered = true → u.roster = rosterWith s b
        { rested .running (s.pump b) with runContactor := true, minRun := some (s.itemNat 3 1 * 1000) }) ∧
      ((s.contacts.runFeedback.get b).filtered = false → u.roster = rosterWith s b (locked .failToStart (s.pump b)) ∧
        (u.cond (lockoutSource b)).active = true ∧ (u.cond (lockoutSource b)).detail = some (.lockout .failToStart))

namespace Sys2Proof.Spec

/-- R91: the supply gate and the restart hold let grants through. -/
abbrev GateOpen (s : State) : Prop :=
  s.arbiter.gateSupply ≠ .none ∧ s.arbiter.gateRestore = false ∧ s.arbiter.holdExpired = true

/-- R51: a pump whose grant is declined. -/
def declined (p : PumpRec) : PumpRec := { rested .idle p with startLimited := true }

/-- R51: a pump whose grant is taken, its start counted. -/
def granted (now : Nat) (p : PumpRec) : PumpRec :=
  { rested .starting p with
    starterSelect := true
    startsTotal := min 4294967295 (p.startsTotal + 1)
    window := p.window ++ [⟨now, 0⟩] }

/-- R51, R91: the grant test with the Arbiter IDLE and the gate open: the heads of the queue whose windows are full are declined,
each IDLE with START_LIMITED set, and the next head is tried at once; the first whose window allows is STARTING, and the
Arbiter RAMPING for it. -/
def Grants (s u : State) : Prop :=
  ∀ full rest, s.arbiter.queue = full ++ rest →
    (∀ b ∈ full, (s.pump b).state = .queued ∧ s.itemNat 3 3 ≤ (s.pump b).window.length) →
    (∀ b ∈ full, .pump b .queued .idle ∈ u.inbox) ∧
    (rest = [] →
      u = { s with
        roster := { s.roster with pumps := u.roster.pumps }
        arbiter := { s.arbiter with queue := [] }
        inbox := u.inbox } ∧
      ∀ b, u.pump b = if b ∈ full then declined (s.pump b) else s.pump b) ∧
    (∀ b after, rest = b :: after → (s.pump b).state = .queued → (s.pump b).window.length < s.itemNat 3 3 →
      u = { s with
        roster := { s.roster with pumps := u.roster.pumps }
        arbiter := { s.arbiter with
          state := .ramping, held := some b, queue := after, rampTimer := some (s.itemNat 3 7 * 1000), runOutput := true }
        screens := { s.screens with ramping := true }
        inbox := u.inbox } ∧
      .pump b .queued .starting ∈ u.inbox ∧
      ∀ c, u.pump c = if c = b then granted s.clock.time (s.pump b)
        else if c ∈ full then declined (s.pump c) else s.pump c)

end Sys2Proof.Spec

/-- The gap timer's expiry in GAP (R94): the starter is IDLE and the grant test is made. With the queue empty or the gate shut
nothing is granted. Otherwise the head of the queue is granted if its window allows: STARTING with its start counted, the Arbiter
RAMPING for it; a head whose window is full is declined, withdrawn to IDLE with START_LIMITED set, and the next head is tried at
once (R51, R91). The grant test is the same at whatever event makes it. All four pump timers stop (log 12). -/
def Obligations.GapExpiryGrantsTheHead : Prop :=
  (∀ s : State, s.live → s.arbiter.state = .gap → s.arbiter.gapTimer.isSome = true →
    let idle : State := { s with arbiter := { s.arbiter with state := .idle, gapTimer := none } }
    (s.arbiter.queue = [] ∨ ¬ GateOpen s → exec .gapTimerExpiry s = .next idle) ∧
    (GateOpen s → ∃ u : State, exec .gapTimerExpiry s = .next (settle u) ∧ u = grantTest idle ∧ Grants idle u)) ∧
  (∀ s : State,
    (s.arbiter.state ≠ .idle ∨ s.arbiter.queue = [] ∨ ¬ GateOpen s → grantTest s = s) ∧
    (s.arbiter.state = .idle → GateOpen s → Grants s (grantTest s)))

/-! ## Screens -/

/-- The interval timer's expiry (R111, R112): it stops; a screen in IDLE that is free to rake starts a cycle, and one that is
held, or in any other state, remembers the trigger. The stroke timer's expiry jams a rake in RISING with TOP_TIMEOUT, and one
in LOWERING or HOMING with HOME_TIMEOUT (R115, R116). The clear timer's expiry in CLEARING raises the rake again with the
stroke timer at full length; an overload still tripped jams it, and TOP made already lowers it (R113, R114). -/
def Obligations.RakeTimersMoveTheRake : Prop :=
  (∀ (x : Screen) (s : State), s.live → (s.screen x).interval.elapsed.isSome = true → (s.screen x).inUse = true →
      let r := { s.screen x with interval := { (s.screen x).interval with elapsed := none } }
      ((s.screen x).state ≠ .idle ∨ ¬ FreeToRake s → exec (.intervalTimerExpiry x) s =
        .next (withScreen s x { r with pending := true })) ∧
      ((s.screen x).state = .idle → FreeToRake s →
        exec (.intervalTimerExpiry x) s = .next (withScreen s x (begun s x r)))) ∧
  (∀ (x : Screen) (s : State), s.live → (s.screen x).strokeTimer.isSome = true →
      ((s.screen x).state = .rising → ∃ u : State, exec (.strokeTimerExpiry x) s = .next u ∧ Jams s u x .topTimeout) ∧
      ((s.screen x).state = .lowering ∨ (s.screen x).state = .homing →
        ∃ u : State, exec (.strokeTimerExpiry x) s = .next u ∧ Jams s u x .homeTimeout)) ∧
  (∀ (x : Screen) (s : State), s.live → (s.screen x).clearTimer.isSome = true → (s.screen x).state = .clearing →
      let r := { s.screen x with clearTimer := none, strokeTimer := some (s.itemNat 5 3 * 1000) }
      ((s.contacts.rakeOverload.get x).filtered = true → (s.contacts.topLimit.get x).filtered = false →
        exec (.clearTimerExpiry x) s =
          .next (withScreen s x { r with state := .rising, forward := true, reverse := false })) ∧
      ((s.contacts.rakeOverload.get x).filtered = true → (s.contacts.topLimit.get x).filtered = true →
        exec (.clearTimerExpiry x) s =
          .next (withScreen s x { r with state := .lowering, forward := false, reverse := true })) ∧
      ((s.contacts.rakeOverload.get x).filtered = false → (s.screen x).overloadSeen = true →
        ∃ u : State, exec (.clearTimerExpiry x) s = .next u ∧ Jams s u x .overloadTwice))

/-- SCREEN_INHIBIT with authority held, judged in the order of R119: on, the flag is set and an IDLE screen rests in INHIBITED;
off, the flag is cleared and a screen in INHIBITED is IDLE, a trigger that is pending answered if it is free to rake. -/
def Obligations.ScreenInhibitRestsTheScreen : Prop :=
  ∀ (ans screen value : Nat) (s : State), s.cleared ans →
    (1 < value → exec (.screenInhibit ans screen value) s = .next (s.heard.spent.replying 0x0E .badRequest [])) ∧
    (value ≤ 1 → 1 < screen →
      exec (.screenInhibit ans screen value) s = .next (s.heard.spent.replying 0x0E .badIndex [])) ∧
    ∀ x, x.index = screen → value ≤ 1 →
      ((s.screen x).inUse = false →
        exec (.screenInhibit ans screen value) s = .next (s.heard.spent.replying 0x0E .badIndex [])) ∧
      ((s.screen x).inUse = true → (s.screen x).selectorAuto = false →
        exec (.screenInhibit ans screen value) s = .next (s.heard.spent.replying 0x0E .localControl [])) ∧
      ((s.screen x).inUse = true → (s.screen x).selectorAuto = true → value = 1 →
        exec (.screenInhibit ans screen value) s = .next ((withScreen s.heard.spent x
          (if (s.screen x).state = .idle then
            { s.screen x with inhibit := true, state := .inhibited, forward := false, reverse := false }
          else { s.screen x with inhibit := true })).replying 0x0E .ok [])) ∧
      ((s.screen x).inUse = true → (s.screen x).selectorAuto = true → value = 0 →
        ((s.screen x).state = .inhibited → (s.screen x).pending = false) →
        exec (.screenInhibit ans screen value) s = .next ((withScreen s.heard.spent x
          (if (s.screen x).state = .inhibited then
            { s.screen x with inhibit := false, state := .idle, forward := false, reverse := false }
          else { s.screen x with inhibit := false })).replying 0x0E .ok [])) ∧
      ((s.screen x).inUse = true → (s.screen x).selectorAuto = true → value = 0 → (s.screen x).state = .inhibited →
        (s.screen x).pending = true →
        exec (.screenInhibit ans screen value) s = .next ((withScreen s.heard.spent x
          (let r := { s.screen x with inhibit := false, state := .idle, forward := false, reverse := false }
           if s.screens.supply = .none ∨ (s.screens.supply = .generator ∧ s.screens.ramping = true) then r
           else begun s x r)).replying 0x0E .ok []))

/-- SCREEN_RAKE, judged in the order of R120: the request starts a cycle from IDLE unless held and sets pending otherwise, and the reply
carries the state after the trigger. -/
def Obligations.ScreenRakeTriggersACycle : Prop :=
  ∀ (screen : Nat) (s : State), s.ready →
    (1 < screen → exec (.screenRake screen) s = .next (s.heard.replying 0x0D .badIndex [])) ∧
    ∀ x, x.index = screen →
      ((s.screen x).inUse = false → exec (.screenRake screen) s = .next (s.heard.replying 0x0D .badIndex [])) ∧
      ((s.screen x).inUse = true → (s.screen x).selectorAuto = false →
        exec (.screenRake screen) s = .next (s.heard.replying 0x0D .localControl [])) ∧
      ((s.screen x).inUse = true → (s.screen x).selectorAuto = true → (s.screen x).state ≠ .idle ∨ ¬ FreeToRake s →
        exec (.screenRake screen) s = .next ((withScreen s.heard x { s.screen x with pending := true }).replying 0x0D .ok
          [byte (s.screen x).state.code])) ∧
      ((s.screen x).inUse = true → (s.screen x).selectorAuto = true → (s.screen x).state = .idle → FreeToRake s →
        exec (.screenRake screen) s = .next ((withScreen s.heard x (begun s x (s.screen x))).replying 0x0D .ok
          [byte (begun s x (s.screen x)).state.code]))

/-- SCREEN_RESET with authority held, judged in the order of R121: the jam is cleared, its source reported inactive, and the
screen enters HOMING: STALLED with the supply NONE, whatever its limits; at rest with HOME made already, a trigger that is
pending answered; HOMING otherwise (R115, R117).
The reset mark goes with the jam (log 13). -/
def Obligations.ScreenResetClearsAJam : Prop :=
  ∀ (ans screen : Nat) (s : State), s.cleared ans →
    (1 < screen → exec (.screenReset ans screen) s = .next (s.heard.spent.replying 0x0F .badIndex [])) ∧
    ∀ x, x.index = screen →
      ((s.screen x).inUse = false →
        exec (.screenReset ans screen) s = .next (s.heard.spent.replying 0x0F .badIndex [])) ∧
      ((s.screen x).inUse = true → (s.screen x).selectorAuto = false →
        exec (.screenReset ans screen) s = .next (s.heard.spent.replying 0x0F .localControl [])) ∧
      ((s.screen x).inUse = true → (s.screen x).selectorAuto = true → (s.screen x).state ≠ .jammed →
        exec (.screenReset ans screen) s = .next (s.heard.spent.replying 0x0F .ok [])) ∧
      ((s.screen x).inUse = true → (s.screen x).selectorAuto = true → (s.screen x).state = .jammed →
        (s.contacts.rakeOverload.get x).filtered = false →
        exec (.screenReset ans screen) s = .next (s.heard.spent.replying 0x0F .stillFaulted [])) ∧
      ((s.screen x).inUse = true → (s.screen x).selectorAuto = true → (s.screen x).state = .jammed →
        (s.contacts.rakeOverload.get x).filtered = true →
        ∃ u : State, exec (.screenReset ans screen) s = .next (u.replying 0x0F .ok []) ∧
          u.cond (jamSource x) = told s.heard (jamSource x) false none ∧
          (∀ i, i ≠ jamSource x → u.cond i = s.heard.cond i) ∧
          u = { withScreen s.heard.spent x (homed s x { s.screen x with jam := none, resetMark := false }) with
            conditions := u.conditions })

/-! ## Spills and episodes -/

namespace Sys2Proof.Spec

/-- R133: the spill second of an integration: the spill state before and after it, the flow used, the head, and the marks:
ESTIMATED on a spill second judged by the probe, ABOVE_RATING on one judged by the head with above rating set,
SETTINGS_CHANGED where the rating in use was not the working one (R127). -/
def secondOf (s : State) (m : Spill) : SpillSecond where
  before := s.spill.spilling || s.spill.fromSpilling
  now := m.spilling
  flow := m.flowUsed
  head := m.head
  marks := { RecordFlags.empty with
    estimated := m.spilling && (m.basis == .probe)
    aboveRating := (m.basis == .head) && m.above
    settingsChanged := decide (s.store.working.rating ≠ s.spill.rating) }

/-- R130: RATING_EXCEEDED after an integration: reported as above rating stands where the flag has changed, after the Episode Table
has taken the second; no other source moves with it. -/
def RatingReported (above : Bool) (was : Bool) (s u : State) : Prop :=
  u = { s with conditions := u.conditions } ∧ (∀ i, i ≠ .ratingExceeded → u.cond i = s.cond i) ∧
    if above = was then u.conditions = s.conditions else u.cond .ratingExceeded = told s .ratingExceeded above none

end Sys2Proof.Spec

/-- The integration (R126 to R133): the rating in use brought up to date; with IN usable the head, the rated flow, the held
flow, above rating and the spill state by the thresholds; with IN unusable the probe, and the held flow or the probe flow. The
Episode Table takes the second that this makes (R133, O37), its receiving record the pending accumulation among them, and
RATING_EXCEEDED is reported at a change of above rating (R130). The timer starts again (log 22). -/
def Obligations.IntegrationJudgesTheSpill : Prop :=
  ∀ s : State, s.power = .on → s.spill.integrationTimer.isSome = true →
    let before := s.spill.spilling || s.spill.fromSpilling
    let rating := s.store.working.rating
    ∃ t : State, exec .integrationTimerExpiry s = .next t ∧
      t.spill.rating = rating ∧ t.spill.report = s.spill.report ∧ t.spill.spWet = s.spill.spWet ∧
      t.spill.integrationTimer = some 1000 ∧ t.spill.fromSpilling = false ∧
      t.store = s.store ∧ t.clock = s.clock ∧ t.contacts = s.contacts ∧ t.channels = s.channels ∧ t.supply = s.supply ∧
      t.line = s.line ∧ t.authority = s.authority ∧
      (∀ level, s.spill.report.usable = true → s.spill.report.level = some level →
        let head := level - s.item 6 0
        let flow := rating.flow head
        t.spill.head = some head ∧ t.spill.rated = some flow ∧ t.spill.held = flow ∧ t.spill.basis = .head ∧
        t.spill.above = decide (rating.lastHead < head) ∧
        t.spill.spilling = (if before then decide (s.item 6 35 < head) else decide (s.item 6 34 < head)) ∧
        t.spill.flowUsed = if t.spill.spilling then flow else 0) ∧
      (s.spill.report.usable = false →
        t.spill.head = none ∧ t.spill.rated = none ∧ t.spill.held = s.spill.held ∧ t.spill.above = s.spill.above ∧
        t.spill.basis = .probe ∧ t.spill.spilling = s.spill.spWet ∧
        t.spill.flowUsed =
          if s.spill.spWet then (if 0 < s.spill.held then s.spill.held else flowOf (s.item 6 38)) else 0) ∧
      ∃ (m : Spill) (u : State),
        m = { t.spill with accumulation := s.spill.accumulation } ∧ t = settle u ∧
        RatingReported m.above s.spill.above (takeSecond (secondOf s m) { s with spill := m }) u

/-- The rated flow (R129): q0 at or below h0, the last flow at or above the last head, and otherwise floor of the straight
line through the two points about the head, in a rating whose heads rise. -/
def Obligations.RatedFlowIsInterpolated : Prop :=
  ∀ (m : Rating) (head : Int), (m.points.map Prod.fst).IsChain (· < ·) → (m.points.map Prod.snd).IsChain (· ≤ ·) →
    (∀ p rest, m.points = p :: rest → head ≤ p.1 → m.flow head = p.2) ∧
    (∀ front p, m.points = front ++ [p] → p.1 ≤ head → m.flow head = p.2) ∧
    (∀ front p q rest, m.points = front ++ p :: q :: rest → p.1 ≤ head → head < q.1 →
      (m.flow head : Int) = p.2 + ((q.2 : Int) - p.2) * (head - p.1) / (q.1 - p.1))

/-- Volume is exact (R134): the tenths taken are all in litres and remainder, the remainder stays below ten, and past
4,294,967,295 litres the record saturates and takes no more. -/
def Obligations.VolumeIsCarriedExactly : Prop :=
  ∀ (t : Tally) (q : Nat), t.rem < 10 →
    let u := t.addVolume 0 q
    (t.flags.volumeSaturated = true → u = t) ∧
    (t.flags.volumeSaturated = false → t.litres + (t.rem + q) / 10 ≤ 4294967295 →
      10 * u.litres + u.rem = 10 * t.litres + t.rem + q ∧ u.rem < 10 ∧ u = { t with litres := u.litres, rem := u.rem }) ∧
    (t.flags.volumeSaturated = false → 4294967295 < t.litres + (t.rem + q) / 10 →
      u = { t with litres := 4294967295, rem := 0, flags := { t.flags with volumeSaturated := true } })

namespace Sys2Proof.Spec

/-- R134: a volume after litres and tenths of a litre are added: whole litres, tenths, and whether it is saturated. -/
def carried (t : Tally) (litres tenths : Nat) : Nat × Nat × Bool :=
  if t.flags.volumeSaturated = true then (t.litres, t.rem, true)
  else if 4294967295 < t.litres + litres + (t.rem + tenths) / 10 then (4294967295, 0, true)
  else (t.litres + litres + (t.rem + tenths) / 10, (t.rem + tenths) % 10, false)

/-- The union of two sets of cause tags. -/
def bothCauses (c d : Causes) : Causes where
  power := c.power || d.power
  shortfall := c.shortfall || d.shortfall
  screen := c.screen || d.screen
  sensor := c.sensor || d.sensor
  override := c.override || d.override
  capacity := c.capacity || d.capacity
  lag := c.lag || d.lag

/-- The union of two sets of record flags. -/
def bothFlags (f g : RecordFlags) : RecordFlags where
  estimated := f.estimated || g.estimated
  aboveRating := f.aboveRating || g.aboveRating
  clockUnset := f.clockUnset || g.clockUnset
  settingsChanged := f.settingsChanged || g.settingsChanged
  interrupted := f.interrupted || g.interrupted
  volumeSaturated := f.volumeSaturated || g.volumeSaturated

/-- R134, R135, R144, R145: a receiving record after a spill second with its marks, at the tags present and a station time. -/
def withSecond (r : SpillSecond) (tags : Causes) (now : Nat) (t : Tally) : Tally :=
  let flags := bothFlags t.flags r.marks
  let (litres, rem, full) := carried { t with flags := flags } 0 r.flow
  { litres := litres
    rem := rem
    seconds := min 4294967295 (t.seconds + 1)
    peakHead := match r.head with
      | some h => max t.peakHead h
      | none => t.peakHead
    peakFlow := max t.peakFlow r.flow
    peakTime := if t.peakFlow < r.flow then now else t.peakTime
    tips := t.tips
    causes := bothCauses t.causes tags
    flags := { flags with volumeSaturated := full } }

/-- R149: the accumulator's totals once they have taken an episode's pending ones. -/
def withOpening (q a : Tally) : Tally :=
  let (litres, rem, full) := carried a q.litres q.rem
  { litres := litres
    rem := rem
    seconds := min 4294967295 (a.seconds + q.seconds)
    peakHead := max a.peakHead q.peakHead
    peakFlow := max a.peakFlow q.peakFlow
    peakTime := if a.peakFlow < q.peakFlow then q.peakTime else a.peakTime
    tips := min 65535 (a.tips + q.tips)
    causes := bothCauses a.causes q.causes
    flags := bothFlags { a.flags with volumeSaturated := full } q.flags }

/-- R145: a record's totals after the SETTINGS_CHANGED mark of a report that adds no second. -/
def marked (r : SpillSecond) (t : Tally) : Tally :=
  { t with flags := { t.flags with settingsChanged := t.flags.settingsChanged || r.marks.settingsChanged } }

/-- The Episode Table with one slot's record written; ATTN_EPISODE, which follows the records (R155), aside. -/
def SlotBecomes (s t : EpisodeTable) (i : Fin 16) (e : Episode) : Prop :=
  t.slots.get i = some e ∧ (∀ j, j ≠ i → t.slots.get j = s.slots.get j) ∧
    t = { s with slots := t.slots, attn := t.attn }

/-- R36, R152: the Rainfall Unit after the notice that the episode has ended: in STORM with the storm hold satisfied the
state is left, to WET with the dry timer running and to DRY without it. -/
def rainAfter (s : State) : Rain :=
  { s.rain with
    episodeFlag := false
    storm := if s.rain.storm = .storm ∧ s.itemNat 2 4 < s.rain.quiet then
      (if s.rain.dryTimer.isSome = true then .wet else .dry) else s.rain.storm }

/-- R150: what every closing hands on: OVERFLOW_ACTIVE inactive and, last, that all-out has ended. -/
def Closes (s t : State) : Prop :=
  t.cond .overflowActive = told s .overflowActive false none ∧ t.inbox.getLast? = some (.allOut false) ∧
  ∀ i, i ≠ .overflowActive → t.cond i = s.cond i

/-- R151: what every resumption hands on: OVERFLOW_ACTIVE active with the serial, and all-out. -/
def Resumes (s t : State) (serial : Nat) : Prop :=
  t.cond .overflowActive = told s .overflowActive true (some (.serial serial)) ∧
  (∀ i, i ≠ .overflowActive → t.cond i = s.cond i) ∧
  t = { s with episodes := t.episodes, conditions := t.conditions, inbox := s.inbox ++ [.allOut true] }

end Sys2Proof.Spec

/-- The spill second at the Episode Table (R143): one that spills with nothing in progress begins a qualification and is added to
it (R146); a qualification and an OPEN episode go on with it; a CLOSING episode is resumed by a BEGAN second, in its slot or in
the accumulator (R151); an ENDED second discards a qualification, and closes an OPEN episode, which is CLOSING for the merge
gap or, with a gap of 0, settles at once (R150, R152), before the all-out-ended notice (log 32); the storm hold tested there is
the one written (log 27). A second adds its volume, peaks, tags and marks (R134, R135, R144, R145), the tags as the blocks
stand (R144); a rating change is marked on an episode that a report adds no second to (R145). Where a transition meets a state
of the table that no run brings it to, the state decides (log 16). -/
def Obligations.SpillSecondMovesTheEpisode : Prop :=
  (∀ (r : SpillSecond) (tags : Causes) (now : Nat) (t : Tally), t.addSecond r tags now = withSecond r tags now t) ∧
  (∀ s : State,
    let c := s.causeTags
    let clear := c.power = false ∧ c.shortfall = false ∧ c.screen = false ∧ c.sensor = false ∧ c.override = false
    (c.power = true ↔ s.supply.state = .none ∨ s.supply.limit < s.duty.order.length) ∧
    (c.shortfall = true ↔ s.duty.order.length < s.roster.installed) ∧
    (c.screen = true ↔ ∃ x : Screen, (s.screen x).inUse = true ∧
      ((s.screen x).state = .jammed ∨ (s.screen x).blinded = true ∨ (s.screen x).state = .inhibited)) ∧
    (c.sensor = true ↔ (s.channel .ww).valid = false ∨ (s.channel .ww).level = none) ∧
    (c.override = true ↔ ∃ b : Bay, (s.pump b).forced = .stop) ∧
    (c.capacity = true ↔ clear ∧ ∀ b ∈ s.duty.order, (s.pump b).state = .running) ∧
    (c.lag = true ↔ clear ∧ ∃ b ∈ s.duty.order, (s.pump b).state ≠ .running)) ∧
  ∀ (s : State) (r : SpillSecond),
    let add := withSecond r s.causeTags s.clock.time
    let gap := s.itemNat 6 37
    let t := takeSecond r s
    (r.now = true → s.episodes.qualifying = false → s.episodes.inProgress = .none →
      t = { s with
        spill := { s.spill with accumulation := some ⟨s.clock.time, add
          { Tally.begin s.clock.time with flags := { RecordFlags.empty with clockUnset := !s.clock.isSet } }⟩ }
        episodes := { s.episodes with qualifying := true, qualifyTimer := some (s.itemNat 6 36 * 1000) } }) ∧
    (∀ a, r.now = true → s.episodes.qualifying = true → s.spill.accumulation = some a →
      t = { s with spill := { s.spill with accumulation := some { a with tally := add a.tally } } }) ∧
    (r.before = true → r.now = false → s.episodes.qualifying = true → r.marks.settingsChanged = false →
      t = { s with
        spill := { s.spill with accumulation := none }
        episodes := { s.episodes with qualifying := false, qualifyTimer := none } }) ∧
    (r.before = false → r.now = false → r.marks.settingsChanged = false → t = s) ∧
    (∀ i e, s.episodes.qualifying = false → s.episodes.inProgress = .slot i → s.episodes.slots.get i = some e →
      (r.now = true → e.state = .opened → t = { s with episodes := t.episodes } ∧
        SlotBecomes s.episodes t.episodes i { e with tally := add e.tally }) ∧
      (r.before = false → r.now = true → e.state = .closing → Resumes s t e.serial ∧
        SlotBecomes { s.episodes with mergeTimer := none } t.episodes i
          { e with state := .opened, finish := none, merges := min 255 (e.merges + 1), tally := add e.tally }) ∧
      (r.before = false → r.now = false → r.marks.settingsChanged = true → t = { s with episodes := t.episodes } ∧
        SlotBecomes s.episodes t.episodes i { e with tally := marked r e.tally }) ∧
      (r.before = true → r.now = false → e.state = .opened → Closes s t ∧
        (0 < gap → t = { s with episodes := t.episodes, conditions := t.conditions, inbox := s.inbox ++ [.allOut false] } ∧
          SlotBecomes { s.episodes with mergeTimer := some (gap * 1000) } t.episodes i
            { e with state := .closing, finish := some s.clock.time, tally := marked r e.tally }) ∧
        (gap = 0 → t.plant = { s.plant with rain := rainAfter s, episodes := t.episodes } ∧
          SlotBecomes { s.episodes with mergeTimer := none, inProgress := .none } t.episodes i
            { e with state := .closed, finish := some s.clock.time }))) ∧
    (∀ p, s.episodes.qualifying = false → s.episodes.inProgress = .accumulator → s.episodes.acc.current = some p →
      let acc := s.episodes.acc
      (r.now = true → p.closing = false → t = { s with episodes := { s.episodes with
        acc := { acc with tally := add acc.tally }, attn := t.episodes.attn } }) ∧
      (r.before = false → r.now = true → p.closing = true → Resumes s t acc.lastSerial ∧
        t.episodes = { s.episodes with
          acc := { acc with
            merges := min 65535 (acc.merges + 1), current := some { p with closing := false, finish := none }
            tally := add acc.tally }
          mergeTimer := none
          attn := t.episodes.attn }) ∧
      (r.before = false → r.now = false → r.marks.settingsChanged = true → t = { s with episodes := { s.episodes with
        acc := { acc with tally := marked r acc.tally }, attn := t.episodes.attn } }) ∧
      (r.before = true → r.now = false → p.closing = false → Closes s t ∧
        (0 < gap → t = { s with
          episodes := { s.episodes with
            acc := { acc with
              current := some { p with closing := true, finish := some s.clock.time }, tally := marked r acc.tally }
            mergeTimer := some (gap * 1000)
            attn := t.episodes.attn }
          conditions := t.conditions
          inbox := s.inbox ++ [.allOut false] }) ∧
        (gap = 0 → t.plant = { s.plant with
          rain := rainAfter s
          episodes := { s.episodes with
            acc := { acc with current := none, latest := s.clock.time }
            inProgress := .none
            mergeTimer := none
            attn := t.episodes.attn } })))

/-- The qualify timer's expiry opens the episode in the lowest FREE slot, or in the accumulator when none is FREE (R147,
R149): its record from the pending accumulation, a new serial, in progress, and the storm state STORM (R34). In the accumulator
the pending totals join its own. STORM is handed on where it is entered, the screens reading their intervals again (R38, R112), and
then the all-out notice (R74); OVERFLOW_ACTIVE is reported active with the serial, and EPISODE_TABLE_FULL as the slots stand at an
opening into one of them (R155). -/
def Obligations.QualifyExpiryOpensTheEpisode : Prop :=
  ∀ (p : Accumulation) (s : State), s.power = .on → s.episodes.qualifyTimer.isSome = true →
    s.spill.accumulation = some p →
    let serial := s.episodes.freeSerial 17 s.episodes.serialCounter
    let tally := { p.tally with flags := { p.tally.flags with clockUnset := p.tally.flags.clockUnset || !s.clock.isSet } }
    ∃ t u : State, exec .qualifyTimerExpiry s = .next t ∧ t = settle u ∧
      t.spill = { s.spill with accumulation := none } ∧
      t.rain = { s.rain with
        episodeFlag := true, storm := .storm, quiet := if s.rain.storm = .storm then s.rain.quiet else 0 } ∧
      t.plant = { s.plant with spill := t.spill, rain := t.rain, episodes := t.episodes } ∧
      t.episodes.qualifying = false ∧ t.episodes.qualifyTimer = none ∧
      t.episodes.serialCounter = (if serial = 65535 then 1 else serial + 1) ∧
      (∀ i, s.episodes.slots.get i = none → (∀ j, j < i → (s.episodes.slots.get j).isSome = true) →
        t.episodes.inProgress = .slot i ∧
        t.episodes.slots.get i = some ⟨serial, .opened, p.start, none, tally, 0, s.rain.storm⟩ ∧
        (∀ j, j ≠ i → t.episodes.slots.get j = s.episodes.slots.get j) ∧ t.episodes.acc = s.episodes.acc) ∧
      ((∀ j, (s.episodes.slots.get j).isSome = true) →
        t.episodes.inProgress = .accumulator ∧ t.episodes.slots = s.episodes.slots ∧
        t.episodes.acc = { s.episodes.acc with
          count := min 65535 (s.episodes.acc.count + 1)
          current := some ⟨false, p.start, none⟩
          tally := withOpening tally s.episodes.acc.tally
          earliest := if s.episodes.acc.count = 0 then p.start else s.episodes.acc.earliest
          firstSerial := if s.episodes.acc.count = 0 then serial else s.episodes.acc.firstSerial
          lastSerial := serial }) ∧
      t.episodes.mergeTimer = s.episodes.mergeTimer ∧ t.episodes.attn = episodeAttn t.episodes ∧
      u = { s with
        spill := t.spill, rain := t.rain, episodes := t.episodes, screens := u.screens, conditions := u.conditions
        inbox := s.inbox ++ (if s.rain.storm = .storm then [] else [.storm .storm]) ++ [.allOut true] } ∧
      (if s.rain.storm = .storm then u.screens = s.screens else StormPasses .storm s u) ∧
      u.cond .overflowActive = told s .overflowActive true (some (.serial serial)) ∧
      (∀ i, s.episodes.slots.get i = none → (∀ j, j < i → (s.episodes.slots.get j).isSome = true) →
        u.cond .episodeTableFull = told s .episodeTableFull
          (decide (∀ j : Fin 16, j ≠ i → s.episodes.slots.get j ≠ none)) none) ∧
      ((∀ j, (s.episodes.slots.get j).isSome = true) → u.cond .episodeTableFull = s.cond .episodeTableFull) ∧
      ∀ i, i ≠ .overflowActive → i ≠ .episodeTableFull → u.cond i = s.cond i

/-- The serials of occupied slots stay distinct and none is 0: every step keeps it (R148). -/
def Obligations.SerialLawIsKept : Prop := ∀ s t : State, s.SerialsLawful → step s = .next t → t.SerialsLawful

/-- The merge timer's expiry settles the episode in progress (R152): CLOSED in its slot, or its end the accumulator's latest;
nothing is in progress. The episode-ended notice clears the Rainfall Unit's episode flag (R34), and in STORM with the storm hold
satisfied the state is left, to WET with the dry timer running and to DRY without it (R36), the hold tested being the one written
(log 27); the change is handed to the Duty Controller and the screens, which read their intervals again (R38, R112). -/
def Obligations.MergeExpirySettlesTheEpisode : Prop :=
  ∀ s : State, s.power = .on → s.episodes.mergeTimer.isSome = true →
    ∃ t u : State, exec .mergeTimerExpiry s = .next t ∧ t = settle u ∧ t.episodes.mergeTimer = none ∧ t.episodes.inProgress = .none ∧
      t.rain = rainAfter s ∧ t.plant = { s.plant with episodes := t.episodes, rain := t.rain } ∧
      (∀ i e, s.episodes.inProgress = .slot i → s.episodes.slots.get i = some e →
        t.episodes.slots.get i = some { e with state := .closed } ∧
        (∀ j, j ≠ i → t.episodes.slots.get j = s.episodes.slots.get j) ∧ t.episodes.acc = s.episodes.acc) ∧
      (∀ q f, s.episodes.inProgress = .accumulator → s.episodes.acc.current = some q → q.finish = some f →
        t.episodes.slots = s.episodes.slots ∧ t.episodes.acc = { s.episodes.acc with latest := f, current := none }) ∧
      u = { s with
        episodes := t.episodes, rain := t.rain, screens := u.screens
        inbox := s.inbox ++ if t.rain.storm = s.rain.storm then [] else [.storm t.rain.storm] } ∧
      (if t.rain.storm = s.rain.storm then u.screens = s.screens else StormPasses t.rain.storm s u)

/-- RETIRE_EPISODE and RETIRE_ACCUMULATOR, judged in the order of R153 and R154: a CLOSED slot named with its serial becomes
FREE, and an accumulator with nothing in progress named with its count is emptied; ATTN_EPISODE is judged anew. -/
def Obligations.RetirementFreesTheRecord : Prop :=
  ∀ s : State, s.ready →
    (∀ slot serial, 15 < slot → exec (.retireEpisode slot serial) s = .next (s.heard.replying 0x11 .badIndex [])) ∧
    (∀ (i : Fin 16) serial, s.episodes.slots.get i = none →
      exec (.retireEpisode i serial) s = .next (s.heard.replying 0x11 .badIndex [])) ∧
    (∀ (i : Fin 16) e serial, s.episodes.slots.get i = some e →
      (serial ≠ e.serial →
        exec (.retireEpisode i serial) s = .next (s.heard.replying 0x11 .stale (word e.serial))) ∧
      (serial = e.serial → e.state ≠ .closed →
        exec (.retireEpisode i serial) s = .next (s.heard.replying 0x11 .notSettled [])) ∧
      (serial = e.serial → e.state = .closed →
        ∃ u : State, exec (.retireEpisode i serial) s = .next (u.replying 0x11 .ok []) ∧
          u.episodes.slots.get i = none ∧ (∀ j, j ≠ i → u.episodes.slots.get j = s.episodes.slots.get j) ∧
          u.episodes = { s.episodes with slots := u.episodes.slots, attn := u.episodes.attn } ∧
          u.episodes.attn = episodeAttn u.episodes ∧
          (u.cond .episodeTableFull).active = false ∧ (∀ c, c ≠ .episodeTableFull → u.cond c = s.heard.cond c) ∧
          u = { s.heard with episodes := u.episodes, conditions := u.conditions })) ∧
    (∀ count, count ≠ s.episodes.acc.count →
      exec (.retireAccumulator count) s = .next (s.heard.replying 0x13 .stale (word s.episodes.acc.count))) ∧
    (s.episodes.acc.current.isSome = true →
      exec (.retireAccumulator s.episodes.acc.count) s = .next (s.heard.replying 0x13 .notSettled [])) ∧
    (s.episodes.acc.current = none →
      ∃ u : State, exec (.retireAccumulator s.episodes.acc.count) s = .next (u.replying 0x13 .ok []) ∧
        u.episodes = { s.episodes with acc := Accumulator.empty, attn := u.episodes.attn } ∧
        u.episodes.attn = episodeAttn u.episodes ∧
        u = { s.heard with episodes := u.episodes })

/-! ## Conditions -/

/-- A report of a source at its record (R161 to R163): a raise or a return moves the state, a change of state advances the
change number and stamps the time, a raise is counted, and an active report with a detail writes it. -/
def Obligations.ReportMovesTheRecord : Prop :=
  ∀ (now : Nat) (active : Bool) (detail : Option Detail) (r : CondRec),
    let moved : CondState :=
      if active = r.active then r.state
      else match active, r.state with
        | true, .normal => .activeUnack
        | true, .returnedUnack => .activeUnack
        | false, .activeUnack => .returnedUnack
        | false, .activeAck => .normal
        | _, st => st
    r.takeReport now active detail = { r with
      state := moved
      active := active
      raises := if active = true ∧ r.active = false then min 255 (r.raises + 1) else r.raises
      change := if moved = r.state then r.change else (r.change + 1) % 256
      changedAt := if moved = r.state then r.changedAt else now
      detail := if active = true ∧ detail.isSome = true then detail else r.detail }

/-- ACK_CONDITION and ACK_ALL (R164, R165): a right change number moves ACTIVE_UNACK to ACTIVE_ACK and RETURNED_UNACK to NORMAL;
a wrong one is STALE and moves nothing; ACK_ALL moves every record and answers how many moved. The records are those that stand
once the frame's own report of LINK_LOST inactive is taken, so that an ACK_CONDITION of an active LINK_LOST with the number last
read is STALE and ACK_ALL finds it returned: the model's choice of log 37, where R164 and R165 allow either order. -/
def Obligations.AcknowledgementSettlesTheRecord : Prop :=
  ∀ s : State, s.ready →
    let acked (i : Source) : CondRec :=
      match (s.heard.cond i).state with
      | .activeUnack => { s.heard.cond i with
          state := .activeAck, change := ((s.heard.cond i).change + 1) % 256, changedAt := s.clock.time }
      | .returnedUnack => { s.heard.cond i with
          state := .normal, change := ((s.heard.cond i).change + 1) % 256, changedAt := s.clock.time }
      | _ => s.heard.cond i
    (∀ index change, 24 < index →
      exec (.ackCondition index change) s = .next (s.heard.replying 0x04 .badIndex [byte index, byte 255, byte 0])) ∧
    (∀ (i : Source) change, change ≠ (s.heard.cond i).change →
      exec (.ackCondition i.index change) s = .next (s.heard.replying 0x04 .stale
        [byte i.index, byte (s.heard.cond i).state.code, byte (s.heard.cond i).change])) ∧
    (∀ i : Source, ∃ u : State, exec (.ackCondition i.index (s.heard.cond i).change) s = .next (u.replying 0x04 .ok
        [byte i.index, byte (acked i).state.code, byte (acked i).change]) ∧
      u.cond i = acked i ∧ (∀ j, j ≠ i → u.cond j = s.heard.cond j) ∧ u = { s.heard with conditions := u.conditions }) ∧
    (∃ u : State, exec .ackAll s = .next (u.replying 0x05 .ok
        [byte (Source.all.filter fun i => (acked i).state != (s.heard.cond i).state).length]) ∧
      (∀ i, u.cond i = acked i) ∧ u = { s.heard with conditions := u.conditions })

/-- SHELVE, UNSHELVE and the shelve timer's expiry (R166, R167): a shelvable record is SHELVED for its minutes, and a record
that leaves SHELVED is ACTIVE_UNACK or NORMAL by its source. A request finds the records with the frame's own report of LINK_LOST
inactive taken (log 37, the model's choice). -/
def Obligations.ShelvingTakesTheRecordOut : Prop :=
  ∀ s : State,
    let moved (t : State) (i : Source) (st : CondState) : CondRec :=
      if (t.cond i).state = st then t.cond i
      else { t.cond i with state := st, change := ((t.cond i).change + 1) % 256, changedAt := s.clock.time }
    let down (t : State) (i : Source) : CondRec :=
      if (t.cond i).state = .shelved then
        { moved t i (if (t.cond i).active then .activeUnack else .normal) with shelf := none }
      else t.cond i
    (∀ i : Source, s.power = .on → (s.cond i).shelf.isSome = true →
      ∃ u : State, exec (.shelveTimerExpiry i) s = .next u ∧ u.cond i = down s i ∧ (∀ j, j ≠ i → u.cond j = s.cond j) ∧
        u = { s with conditions := u.conditions }) ∧
    (∀ ans, s.cleared ans →
      (∀ index mins, mins < 1 ∨ 1440 < mins →
        exec (.shelve ans index mins) s = .next (s.heard.spent.replying 0x06 .badRequest [])) ∧
      (∀ index mins, 1 ≤ mins → mins ≤ 1440 → 24 < index →
        exec (.shelve ans index mins) s = .next (s.heard.spent.replying 0x06 .badIndex [])) ∧
      (∀ (i : Source) mins, 1 ≤ mins → mins ≤ 1440 →
        i ∈ [Source.wwFloatHigh, .supplyNone, .overflowActive, .restart, .settingsDefaulted] →
        exec (.shelve ans i.index mins) s = .next (s.heard.spent.replying 0x06 .notShelvable [])) ∧
      (∀ (i : Source) mins, 1 ≤ mins → mins ≤ 1440 →
        i ∉ [Source.wwFloatHigh, .supplyNone, .overflowActive, .restart, .settingsDefaulted] →
        ∃ u : State, exec (.shelve ans i.index mins) s = .next (u.replying 0x06 .ok
            ([byte i.index, byte 4, byte (u.cond i).change] ++ long (mins * 60))) ∧
          u.cond i = { moved s.heard i .shelved with shelf := some (mins * 60000) } ∧
          (∀ j, j ≠ i → u.cond j = s.heard.cond j) ∧ u = { s.heard.spent with conditions := u.conditions }) ∧
      (∀ index, 24 < index → exec (.unshelve ans index) s = .next (s.heard.spent.replying 0x07 .badIndex [])) ∧
      (∀ i : Source, ∃ u : State, exec (.unshelve ans i.index) s = .next (u.replying 0x07 .ok
          [byte i.index, byte (down s.heard i).state.code, byte (down s.heard i).change]) ∧
        u.cond i = down s.heard i ∧ (∀ j, j ≠ i → u.cond j = s.heard.cond j) ∧
        u = { s.heard.spent with conditions := u.conditions }))

/-- The summary, ATTN_CONDITION, the beacon, the horn and ATTN_EPISODE stand as the records give them: every step keeps it
(R155, R168, R169). -/
def Obligations.AttentionLawIsKept : Prop := ∀ s t : State, s.AttentionLawful → step s = .next t → t.AttentionLawful

/-! ## Telemetry line -/

namespace Sys2Proof.Spec

/-- R174: a character with even parity and its stop bit at mark. -/
abbrev Good (c : Character) : Prop := countOnes (dataBits c.data ++ [c.mark, c.parity]) % 2 = 0 ∧ c.stop = true

/-- R175, R176: the Line Interface once it has taken a good address character: an addressed or a broadcast frame begun, its gap
timer started, or nothing to hear. -/
def listening (s : State) (l : Line) (a : Nat) : State :=
  { s with line :=
      if a = s.line.address then
        { l with receiver := .receiving, frame := some ⟨false, []⟩, gapTimer := some (s.itemNat 0 3) }
      else if a = 0 then
        { l with receiver := .receiving, frame := some ⟨true, []⟩, gapTimer := some (s.itemNat 0 3) }
      else { l with receiver := .waiting } }

/-- R178: the Line Interface once a partial frame has been abandoned: dropped whole, the latch set, WAITING. -/
def abandoned (l : Line) : Line := { l with receiver := .waiting, frame := none, gapTimer := none, latch := true }

end Sys2Proof.Spec

/-- The receiver (R174 to R178): a good address character equal to the station's begins an addressed frame, 0 a broadcast one,
and any other is passed over; in RECEIVING it abandons the frame it breaks into, and in TURNAROUND it discards the pending
reply (R181), or, if that is the reply to RESTART, brings the warm restart (R194). A data character, an error or a break is
ignored in WAITING and TURNAROUND. In RECEIVING an error, a break, the gap timer's expiry, a LEN of 0 or above 64 and a CHECK
that does not match abandon the frame; a data character of a frame not yet complete joins it, and the gap timer starts again;
a broadcast frame that completes sets the clock if it is a SET_CLOCK of four characters and does nothing more (R180). SENDING
hears nothing. -/
def Obligations.ReceiverHearsAndAbandons : Prop :=
  (∀ (c : Character) (s : State), s.power = .on →
    (Good c → c.mark = true →
      (s.line.receiver = .waiting → exec (.receiveCharacter c) s = .next (listening s s.line c.data.toNat)) ∧
      (s.line.receiver = .receiving →
        exec (.receiveCharacter c) s = .next (listening s (abandoned s.line) c.data.toNat)) ∧
      (s.line.receiver = .turnaround → s.line.restartPending = false → exec (.receiveCharacter c) s =
        .next (listening s { s.line with turnaroundTimer := none, reply := none } c.data.toNat)) ∧
      (s.line.receiver = .turnaround → s.line.restartPending = true →
        exec (.receiveCharacter c) s = .next (restart .warmRequest s))) ∧
    (s.line.receiver = .waiting ∨ s.line.receiver = .turnaround →
      (¬ Good c ∨ c.mark = false → exec (.receiveCharacter c) s = .next s) ∧ exec .lineBreak s = .next s) ∧
    (s.line.receiver = .receiving →
      (¬ Good c → exec (.receiveCharacter c) s = .next { s with line := abandoned s.line }) ∧
      exec .lineBreak s = .next { s with line := abandoned s.line }) ∧
    (s.line.gapTimer.isSome = true → exec .gapLimitExpiry s = .next { s with line := abandoned s.line }) ∧
    (s.line.receiver = .sending → exec (.receiveCharacter c) s = .next s ∧ exec .lineBreak s = .next s)) ∧
  (∀ (c : Character) (f : Frame) (len : Byte) (rest : List Byte) (s : State), s.power = .on →
    s.line.receiver = .receiving → s.line.frame = some f → Good c → c.mark = false → f.chars ++ [c.data] = len :: rest →
    let body := rest.take len.toNat
    (len.toNat = 0 ∨ 64 < len.toNat → exec (.receiveCharacter c) s = .next { s with line := abandoned s.line }) ∧
    (1 ≤ len.toNat → len.toNat ≤ 64 →
      (rest.length ≠ len.toNat + 2 → exec (.receiveCharacter c) s = .next { s with
        line := { s.line with frame := some { f with chars := len :: rest }, gapTimer := some (s.itemNat 0 3) } }) ∧
      (rest.length = len.toNat + 2 → rest.drop len.toNat ≠ checkChars (len :: body) →
        exec (.receiveCharacter c) s = .next { s with line := abandoned s.line }) ∧
      (rest.length = len.toNat + 2 → rest.drop len.toNat = checkChars (len :: body) → f.broadcast = true →
        let heard := { s.line with receiver := .waiting, frame := none, gapTimer := none }
        (∀ a b d e, body = [0x19#8, a, b, d, e] → exec (.receiveCharacter c) s = .next { s with
          clock := { s.clock with
            time := ((a.toNat * 256 + b.toNat) * 256 + d.toNat) * 256 + e.toNat, isSet := true }
          line := heard }) ∧
        ((∀ a b d e, body ≠ [0x19#8, a, b, d, e]) → exec (.receiveCharacter c) s = .next { s with line := heard }))))

/-- A request command is its frame: the characters of the whole addressed frame, received one after another, leave what the
command leaves (R174 to R177, R180; log 6). -/
def Obligations.RequestIsItsFrame : Prop :=
  ∀ (c : Instr) (code : Nat) (payload : List Byte) (s : State), c.WellFormed → c.request = some (code, payload) →
    (∀ time, c ≠ .setClock true time) → s.power = .on → 1 ≤ s.line.address → s.line.address ≤ 255 →
    exec c s = .next (hearAll (requestFrame s.line.address code payload) s)

/-- The command that a request's code and payload carry is the request itself: no operand loses a bit on the wire. A code that is
not in the request table, or a payload of another length than the table gives, is refused with BAD_REQUEST and changes nothing
(R180, R186). -/
def Obligations.RequestTableIsExact : Prop :=
  (∀ (c : Instr) (code : Nat) (payload : List Byte), c.WellFormed → c.request = some (code, payload) →
      (∀ time, c ≠ .setClock true time) → Instr.ofRequest code payload = some c) ∧
  (∀ (code : Nat) (payload : List Byte) (s : State),
      (code < 0x01 ∨ 0x1E < code ∨ (∃ k ∈ [0x01, 0x05, 0x12, 0x14, 0x15, 0x1A, 0x1C], code = k ∧ payload.length ≠ 0) ∨
        (∃ k ∈ [0x0D], code = k ∧ payload.length ≠ 1) ∨
        (∃ k ∈ [0x02, 0x03, 0x08, 0x0C, 0x10, 0x13, 0x18, 0x1B, 0x1D], code = k ∧ payload.length ≠ 2) ∨
        (∃ k ∈ [0x04, 0x07, 0x0B, 0x0F, 0x11, 0x16, 0x1E], code = k ∧ payload.length ≠ 3) ∨
        (∃ k ∈ [0x09, 0x0A, 0x0E, 0x19], code = k ∧ payload.length ≠ 4) ∨
        (∃ k ∈ [0x06], code = k ∧ payload.length ≠ 5) ∨ (∃ k ∈ [0x17], code = k ∧ payload.length ≠ 6)) →
      answerRequest code payload s = ⟨s, .badRequest, []⟩)

/-- READ_STATUS answers the status record of 51 characters as R186 lays it out (R87, R105, R156, R168) and clears the line-fault
latch, so that the same reply's header shows it clear (R178, R180); the present flow is the rated flow with the IN report
usable VALID and the flow used otherwise (R137), and where the rated flow is UNKNOWN then its two characters are open (log 8);
the free-value counter moves on (log 8), seconds left are whole seconds (log 15), and the frame's own report of LINK_LOST inactive
is taken before the read (log 37). READ_ACCUMULATOR and READ_RAIN answer
their record and change nothing but the line (R40, R156). CLEAR_RAIN answers the total as it stood, sets it to 0 and stamps the
time (R39). -/
def Obligations.SingleRecordsAreAnswered : Prop :=
  (∀ s : State, s.ready →
      exec .readStatus s = .next (State.replying
        { s.heard with line := { s.heard.line with latch := false }, freeCount := s.freeCount + 1 } 0x01 .ok
        (statusChars s.heard))) ∧
  (∀ s : State, ∃ flow : List Byte, flow.length = 2 ∧ statusChars s = statusRecord s flow ∧
      (statusChars s).length = 51 ∧ (s.spill.report.usable = false → flow = number 2 s.spill.flowUsed) ∧
      ∀ q, s.spill.report.usable = true → s.spill.rated = some q → flow = number 2 q) ∧
  (∀ s : State, s.ready →
      exec .readAccumulator s = .next (s.heard.replying 0x12 .ok (accumulatorRecord s.episodes.acc)) ∧
      (accumulatorRecord s.episodes.acc).length = 45) ∧
  (∀ s : State, s.ready →
      exec .clearRain s = .next (State.replying
        { s.heard with rain := { s.rain with total := 0, clearedAt := s.clock.time } } 0x15 .ok (number 4 s.rain.total)) ∧
      exec .readRain s = .next (s.heard.replying 0x14 .ok
        (number 4 s.rain.total ++ number 4 s.rain.clearedAt ++ number 2 s.rain.intensity ++
          number 1 (codeIn stormCodes s.rain.storm) ++ number 1 s.rain.quiet ++ number 1 s.rain.openBin ++
          s.rain.closedBins.map fun n => BitVec.ofNat 8 n)))

/-- The reply is sent at the turnaround timer's expiry, and at the end of its last character the receiver waits again (R181). The
link timer's expiry reports LINK_LOST active and stops the timer (R179). -/
def Obligations.ReplyAndLinkTimersExpire : Prop :=
  (∀ s : State, s.power = .on →
      (s.line.turnaroundTimer.isSome = true → exec .turnaroundTimerExpiry s =
        .next { s with line := { s.line with receiver := .sending, turnaroundTimer := none } }) ∧
      (s.line.receiver = .sending → s.line.restartPending = false → exec .replySent s =
        .next { s with line := { s.line with receiver := .waiting, reply := none } })) ∧
  (∀ s : State, s.power = .on → s.line.linkTimer.isSome = true →
      ∃ u : State, exec .linkTimerExpiry s = .next u ∧ (u.cond .linkLost).active = true ∧
        (∀ i, i ≠ .linkLost → u.cond i = s.cond i) ∧
        u = { s with line := { s.line with linkTimer := none }, conditions := u.conditions })

/-! ## Remote authority -/

namespace Sys2Proof.Spec

/-- R187: the Authority Monitor after a failure: NONE, or BARRED when the count reaches 3. -/
def failed (a : Authority) : Authority :=
  { a with
    state := if 2 ≤ a.failures then .barred else .none
    failures := if 2 ≤ a.failures then 3 else a.failures + 1
    answerTimer := none
    supervisionTimer := none }

/-- R193: what a lapse leaves: no forced mode, no inhibit, no record SHELVED. -/
def Lapsed (u : State) : Prop :=
  (∀ b : Bay, (u.pump b).forced = .none) ∧ (∀ x : Screen, (u.screen x).inhibit = false) ∧
    ∀ i : Source, (u.cond i).state ≠ .shelved

end Sys2Proof.Spec

/-- OPEN_AUTHORITY: from NONE or CHALLENGED, with the permit on, a new challenge and its answer window; from GRANTED no change;
BARRED and NOT_PERMITTED otherwise (R189, R191; log 19). ANSWER: a correct one grants authority with the failure count 0 and
the challenge advanced; a wrong one fails the challenge, or makes a lapse (R188, R189). RELEASE_AUTHORITY: from CHALLENGED to
NONE, from GRANTED to NONE by a lapse, counting no failure (R189, R193). -/
def Obligations.AuthorityRequestsAreJudged : Prop :=
  (∀ s : State, s.ready →
      (s.authority.permit = false → exec .openAuthority s = .next (s.heard.replying 0x1A .notPermitted [])) ∧
      (s.authority.permit = true → s.authority.state = .barred →
        exec .openAuthority s = .next (s.heard.replying 0x1A .barred [])) ∧
      (s.authority.permit = true → s.authority.state = .granted →
        exec .openAuthority s = .next (s.heard.replying 0x1A .ok [])) ∧
      (s.authority.permit = true → s.authority.state = .none ∨ s.authority.state = .challenged →
        exec .openAuthority s = .next (State.replying { s.heard with
          authority := { s.authority with
            state := .challenged
            challenge := (s.authority.challenge * 109 + 89) % 65536
            answerTimer := some (s.itemNat 0 5 * 1000) } } 0x1A .ok []))) ∧
  (∀ (value : Nat) (s : State), s.ready →
      (s.authority.state = .none → exec (.answer value) s = .next (s.heard.replying 0x1B .noAuthority [])) ∧
      (s.authority.state = .barred → exec (.answer value) s = .next (s.heard.replying 0x1B .barred [])) ∧
      (s.authority.state = .challenged → value = s.answerNow →
        exec (.answer value) s = .next (State.replying { s.heard with
          authority := { s.spent.authority with failures := 0 } } 0x1B .ok [])) ∧
      (s.authority.state = .challenged → value ≠ s.answerNow →
        exec (.answer value) s = .next (State.replying { s.heard with
          authority := failed s.authority } 0x1B .noAuthority [])) ∧
      (s.authority.state = .granted → value = s.answerNow →
        exec (.answer value) s = .next (s.heard.spent.replying 0x1B .ok [])) ∧
      (s.authority.state = .granted → value ≠ s.answerNow →
        ∃ u : State, exec (.answer value) s = .next ((settle u).replying 0x1B .noAuthority []) ∧ Lapsed u ∧
          u.plant = { s.heard.plant with authority := failed s.authority })) ∧
  (∀ s : State, s.ready →
      let released : Authority := { s.authority with state := .none, answerTimer := none, supervisionTimer := none }
      (s.authority.state = .none → exec .releaseAuthority s = .next (s.heard.replying 0x1C .ok [])) ∧
      (s.authority.state = .barred → exec .releaseAuthority s = .next (s.heard.replying 0x1C .barred [])) ∧
      (s.authority.state = .challenged → exec .releaseAuthority s = .next (State.replying
        { s.heard with authority := released } 0x1C .ok [])) ∧
      (s.authority.state = .granted →
        ∃ u : State, exec .releaseAuthority s = .next ((settle u).replying 0x1C .ok []) ∧ Lapsed u ∧
          u.plant = { s.heard.plant with authority := released }))

/-- The answer window's expiry counts a failure; the supervision timer's expiry makes a lapse and counts one; and the keyswitch
turned on clears a bar with its count (R191 to R193). -/
def Obligations.AuthorityTimersFail : Prop :=
  ∀ s : State, s.power = .on →
    (s.authority.answerTimer.isSome = true →
      exec .answerWindowExpiry s = .next { s with authority := failed s.authority }) ∧
    (s.authority.supervisionTimer.isSome = true →
      ∃ u : State, exec .supervisionTimerExpiry s = .next (settle u) ∧ Lapsed u ∧
        u.plant = { s.plant with authority := failed s.authority }) ∧
    (s.inbox = [] → s.authority.state = .barred → s.contacts.remotePermit.timer.isSome = true →
      s.contacts.remotePermit.pendingState = some true →
      exec (.filterTimerExpiry (.switch .remotePermit)) s = .next { s with
        contacts := s.contacts.put .remotePermit ⟨s.contacts.remotePermit.raw, true, none, none⟩
        authority := { s.authority with permit := true, state := .none, failures := 0 } })

namespace Sys2Proof.Spec

/-- 10.9: the requests marked with a dagger, each with its answer field. -/
def privilegedAnswer : Instr → Option Nat
  | .clearChannel a _ => some a
  | .pumpReset a _ => some a
  | .pumpForce a _ _ => some a
  | .pumpService a _ _ => some a
  | .screenInhibit a _ _ => some a
  | .screenReset a _ => some a
  | .shelve a _ _ => some a
  | .unshelve a _ => some a
  | .restart a => some a
  | .writeSetting a _ _ _ => some a
  | .commitSettings a => some a
  | _ => none

end Sys2Proof.Spec

/-- A privileged request without authority never reaches its owner (R190): NO_AUTHORITY in NONE and CHALLENGED, BARRED in
BARRED, with no effect; a wrong answer in GRANTED is a lapse with a failure counted. -/
def Obligations.PrivilegedRequestNeedsAuthority : Prop :=
  ∀ (c : Instr) (ans code : Nat) (payload : List Byte) (s : State), privilegedAnswer c = some ans →
    c.request = some (code, payload) → s.ready →
    (s.authority.state = .none ∨ s.authority.state = .challenged →
      exec c s = .next (s.heard.replying code .noAuthority [])) ∧
    (s.authority.state = .barred → exec c s = .next (s.heard.replying code .barred [])) ∧
    (s.authority.state = .granted → ans ≠ s.answerNow →
      ∃ u : State, exec c s = .next ((settle u).replying code .noAuthority []) ∧ Lapsed u ∧
        u.plant = { s.heard.plant with authority := failed s.authority })

/-- Forced modes, inhibits and shelved records exist only under authority, and the monitor's timers and failure count stand as
its state allows: every step keeps it (R187, R191, R193). -/
def Obligations.AuthorityLawIsKept : Prop := ∀ s t : State, s.AuthorityLawful → step s = .next t → t.AuthorityLawful

/-- RESTART with authority held (R194): BUSY while a commit is in progress; otherwise OK with the warm restart pending, which
the end of the reply brings. -/
def Obligations.RestartComesWhenTheReplyEnds : Prop :=
  ∀ (ans : Nat) (s : State),
    (s.cleared ans → s.store.commit.isSome = true →
      exec (.restart ans) s = .next (s.heard.spent.replying 0x1D .busy [])) ∧
    (s.cleared ans → s.store.commit = none →
      exec (.restart ans) s = .next (State.replying
        { s.heard.spent with line := { s.heard.line with restartPending := true } } 0x1D .ok [])) ∧
    (s.power = .on → s.line.receiver = .sending → s.line.restartPending = true →
      exec .replySent s = .next (restart .warmRequest s))

/-! ## Contacts at their owners -/

namespace Sys2Proof.Spec

/-- R26: the state once an input's pending state has become its filtered state, before its owner acts. -/
def taken (s : State) (w : Switch) (v : Bool) : State :=
  { s with contacts := s.contacts.put w ⟨(s.contacts.get w).raw, v, none, none⟩ }

/-- R55 to R57: run feedback at a bay. On, an uncommanded run locks the pump out and a RUNNING pump's feedback-loss timer
stops; off, that timer starts, and a STOPPING pump has stopped. A change in HAND is handed on (R46). -/
def FeedbackEffect (b : Bay) (on : Bool) (t u : State) : Prop :=
  let p := t.pump b
  let ready := p.state = .idle ∨ p.state = .queued ∨ p.state = .resting
  (on = true → ready → Locks t u b .failToStop) ∧
  (p.state = .running → Becomes t u b { p with feedbackLoss := if on = true then none else some 2000 }) ∧
  (on = false → p.state = .stopping → Becomes t u b (if p.selector = .auto ∧ p.inService = true then
    { rested .resting p with minRest := some (t.itemNat 3 2 * 1000) } else rested .unavailable p)) ∧
  (p.state ≠ .running → ¬ (on = true ∧ ready) → ¬ (on = false ∧ p.state = .stopping) → Becomes t u b p) ∧
  (p.selector = .hand → p.state ≠ .absent → .hand b ∈ u.inbox)

/-- R60: the overload input of a bay. Healthy, nothing; tripped, a lockout, the reason alone in LOCKED_OUT, nothing in ABSENT
and UNAVAILABLE. -/
def OverloadEffect (b : Bay) (healthy : Bool) (t u : State) : Prop :=
  let p := t.pump b
  (healthy = true ∨ p.state = .absent ∨ p.state = .unavailable → u = t) ∧
  (healthy = false → p.state = .lockedOut →
    u = { t with roster := rosterWith t b { p with reason := some .overload }, conditions := u.conditions } ∧
    u.cond (lockoutSource b) = told t (lockoutSource b) true (some (.lockout .overload)) ∧
    ∀ i, i ≠ lockoutSource b → u.cond i = t.cond i) ∧
  (healthy = false → p.state ≠ .absent → p.state ≠ .unavailable → p.state ≠ .lockedOut → Locks t u b .overload)

/-- R63: the seal leak input of a bay: DEGRADED follows it, PUMP_SEAL is reported, the change is handed on. -/
def SealEffect (b : Bay) (leak : Bool) (t u : State) : Prop :=
  let p := t.pump b
  (p.state = .absent ∨ p.degraded = leak → u = t) ∧
  (p.state ≠ .absent → p.degraded ≠ leak →
    u = { t with
      roster := rosterWith t b { p with degraded := leak }, conditions := u.conditions, inbox := [.degraded b] } ∧
    u.cond .pumpSeal = told t .pumpSeal
      ([Bay.b1, .b2, .b3, .b4].any fun c => (u.pump c).state != .absent && (u.pump c).degraded) none ∧
    ∀ i, i ≠ .pumpSeal → u.cond i = t.cond i)

/-- R46, R47, R61: the selector of a bay, and what is handed on of it. -/
def SelectorEffect (b : Bay) (pos : Selector) (t u : State) : Prop :=
  let p := { t.pump b with selector := pos, forced := if pos = .auto then (t.pump b).forced else .none }
  let free := (t.contacts.overload.get b).filtered
  let feedback := (t.contacts.runFeedback.get b).filtered
  (p.state = .absent → u = { t with roster := rosterWith t b { t.pump b with selector := pos } }) ∧
  (pos ≠ .auto →
    (p.state = .unavailable → Becomes t u b p) ∧
    (p.state = .lockedOut → Becomes t u b { p with resetMark := decide (pos = .off) || p.resetMark }) ∧
    (p.state ≠ .absent → p.state ≠ .unavailable → p.state ≠ .lockedOut →
      Departs t u b (rested .unavailable p) ∧ u.conditions = t.conditions)) ∧
  (pos = .auto →
    (p.state ≠ .absent → ¬ (p.state = .unavailable ∧ p.inService = true) →
      ¬ (p.state = .lockedOut ∧ p.resetMark = true) → Becomes t u b p) ∧
    (p.state = .unavailable → p.inService = true →
      (free = false → Locks { t with roster := rosterWith t b p } u b .overload) ∧
      (free = true → feedback = true →
        Becomes t u b { rested .stopping p with stopConfirm := some (t.itemNat 3 4 * 1000) }) ∧
      (free = true → feedback = false → Becomes t u b (rested .idle p))) ∧
    (p.state = .lockedOut → p.resetMark = true →
      (free = false → Becomes t u b { p with resetMark := false }) ∧
      (free = true →
        let q := { p with reason := none, resetMark := false }
        u = { t with
          roster := rosterWith t b (if p.inService = true then
            { rested .resting q with minRest := some (t.itemNat 3 2 * 1000) } else rested .unavailable q)
          conditions := u.conditions
          inbox := u.inbox } ∧
        u.cond (lockoutSource b) = told t (lockoutSource b) false none ∧
        ∀ i, i ≠ lockoutSource b → u.cond i = t.cond i))) ∧
  (p.state ≠ .absent → .roster b ∈ u.inbox ∧
    ((t.pump b).forced ≠ p.forced → .forced b (t.pump b).forced p.forced ∈ u.inbox) ∧
    (feedback = true → (pos = .hand ↔ (t.pump b).selector ≠ .hand) → .hand b ∈ u.inbox))

/-- R118: the selector of a screen. -/
def ScreenSelectorEffect (x : Screen) (auto : Bool) (t u : State) : Prop :=
  let r := { t.screen x with selectorAuto := auto }
  let off := { r with state := .off, forward := false, reverse := false, strokeTimer := none, clearTimer := none }
  (r.inUse = false → u = withScreen t x r) ∧
  (r.inUse = true → auto = false → u = withScreen t x (match r.state with
    | .jammed => { r with resetMark := true }
    | .off => r
    | _ => off)) ∧
  (r.inUse = true → auto = true →
    (r.state = .off → u = withScreen t x (homed t x r)) ∧
    (r.state = .jammed → r.resetMark = true →
      ((t.contacts.rakeOverload.get x).filtered = false → u = withScreen t x { r with resetMark := false }) ∧
      ((t.contacts.rakeOverload.get x).filtered = true →
        u = { withScreen t x (homed t x { r with jam := none, resetMark := false }) with conditions := u.conditions } ∧
        u.cond (jamSource x) = told t (jamSource x) false none ∧ ∀ i, i ≠ jamSource x → u.cond i = t.cond i)) ∧
    (r.state ≠ .off → ¬ (r.state = .jammed ∧ r.resetMark = true) → u = withScreen t x r))

/-- R115: the TOP limit of a screen: made, it lowers a rake in RISING. -/
def TopEffect (x : Screen) (made : Bool) (t u : State) : Prop :=
  u = if made = true ∧ (t.screen x).inUse = true ∧ (t.screen x).state = .rising then
    withScreen t x { t.screen x with
      state := .lowering, forward := false, reverse := true, strokeTimer := some (t.itemNat 5 3 * 1000) }
  else t

/-- R115: the HOME limit of a screen: made, it ends a cycle in LOWERING and the homing in HOMING. -/
def HomeEffect (x : Screen) (made : Bool) (t u : State) : Prop :=
  let r := t.screen x
  u = if made = true ∧ r.inUse = true ∧ r.state = .lowering then
    withScreen t x (atRest t x { r with cycles := min 4294967295 (r.cycles + 1), lastCycle := t.clock.time })
  else if made = true ∧ r.inUse = true ∧ r.state = .homing then withScreen t x (atRest t x r)
  else t

/-- R114: the rake overload of a screen: tripped, it backs a rake in RISING off once in a cycle, and then jams it. -/
def RakeOverloadEffect (x : Screen) (healthy : Bool) (t u : State) : Prop :=
  let r := t.screen x
  let acts := healthy = false ∧ r.inUse = true ∧ r.state = .rising
  (acts → r.overloadSeen = true → Jams t u x .overloadTwice) ∧
  (acts → r.overloadSeen = false → u = withScreen t x { r with
    state := .clearing, forward := false, reverse := true, overloadSeen := true, strokeTimer := none
    clearTimer := some (t.itemNat 5 4 * 1000) }) ∧
  (¬ acts → u = t)

/-- R95: the starter's health as its two inputs and the supply gate give it. -/
def healthOf (t : State) : StarterHealth :=
  if t.contacts.starterFault.filtered = true then .faultInput
  else if t.contacts.starterReady.filtered = false ∧ t.arbiter.gateSupply ≠ .none ∧ t.arbiter.gateRestore = false then
    .notReady
  else .healthy

/-- R95 to R97: the starter's inputs: HEALTHY lost, the Arbiter is FAULTED and a pump on the ramp goes back to IDLE; HEALTHY
again, it goes through a full gap, or to IDLE with no supply, and the queue test is made; STARTER_FAULT follows. A trigger that a
ramp held is answered as it ends (R111). The queue test of a pump's change of state comes before its hand-over (log 29). -/
def StarterEffect (t u : State) : Prop :=
  let h := healthOf t
  let was := t.arbiter.health
  let others := ∀ i, i ≠ .starterFault → u.cond i = t.cond i
  (h = was → u = t) ∧
  (was = .healthy → h ≠ .healthy →
    u = { t with
      arbiter := { t.arbiter with
        state := .faulted, held := none, rampTimer := none, gapTimer := none, runOutput := false, health := h }
      roster := u.roster, screens := u.screens, conditions := u.conditions, inbox := u.inbox } ∧
    (∀ b, t.arbiter.held = some b → (t.pump b).state = .starting →
      u.roster = rosterWith t b (rested .idle (t.pump b)) ∧ u.inbox = t.inbox ++ [.queueTest, .pump b .starting .idle]) ∧
    ((∀ b, t.arbiter.held = some b → (t.pump b).state ≠ .starting) → u.roster = t.roster ∧ u.inbox = t.inbox) ∧
    (t.arbiter.state = .ramping → RampEnds t u) ∧ (t.arbiter.state ≠ .ramping → u.screens = t.screens) ∧
    u.cond .starterFault = told t .starterFault true (some (.health h)) ∧ others) ∧
  (was ≠ .healthy → h = .healthy →
    u = { t with
      arbiter :=
        if t.arbiter.gateSupply = .none then
          { t.arbiter with state := .idle, held := none, rampTimer := none, runOutput := false, health := .healthy }
        else { gapped t with health := .healthy }
      conditions := u.conditions
      inbox := t.inbox ++ [.queueTest] } ∧
    u.cond .starterFault = told t .starterFault false none ∧ others) ∧
  (was ≠ .healthy → h ≠ .healthy → h ≠ was →
    u = { t with arbiter := { t.arbiter with health := h }, conditions := u.conditions } ∧ others ∧
    (t.arbiter.state = .faulted → u.cond .starterFault = told t .starterFault true (some (.health h))))

/-- R192: the REMOTE PERMIT keyswitch: off, a challenge is dropped and authority held is lost by a lapse; on, a bar is cleared
with its count. -/
def PermitEffect (on : Bool) (t u : State) : Prop :=
  let a := { t.authority with permit := on }
  let dropped := { a with state := .none, answerTimer := none, supervisionTimer := none }
  (on = true → u = { t with
    authority := if a.state = .barred then { a with state := .none, failures := 0 } else a }) ∧
  (on = false → a.state = .challenged → u = { t with authority := dropped }) ∧
  (on = false → a.state = .granted → Lapsed u ∧ u.plant = { t.plant with authority := dropped }) ∧
  (on = false → a.state = .none ∨ a.state = .barred → u = { t with authority := a })

end Sys2Proof.Spec

/-- A filter timer's expiry: the pending state becomes the filtered state, is cleared, and the timer stops (R26), and the
input's owner acts: the Spill Meter for SP, the Duty Controller for HF and LF (R27), the Condition Table for a press of ACCEPT
(R165), the Pump Roster for run feedback, overload, seal leak and selector (R46, R47, R55 to R57, R60, R61, R63), the Screen
Controller (R114, R115, R118), the Arbiter (R95 to R97) and the Authority Monitor (R192). No other contact moves. The
position of an ABSENT bay's selector is written too (log 24). A pump's four timers stop at each change of state (log 12),
START_LIMITED stands as it was but in LOCKED_OUT (log 14), and a reset mark goes with what it resets (log 13). -/
def Obligations.FilterExpiryTakesThePendingState : Prop :=
  ∀ (s : State), s.live →
    (∀ (w : Switch) (v : Bool), (s.contacts.get w).timer.isSome = true → (s.contacts.get w).pendingState = some v →
      ∃ u : State, exec (.filterTimerExpiry (.switch w)) s = .next (settle u) ∧
        u.contacts = s.contacts.put w ⟨(s.contacts.get w).raw, v, none, none⟩ ∧
        u.rain = s.rain ∧ u.channels = s.channels ∧ u.episodes = s.episodes ∧ u.line = s.line ∧ u.clock = s.clock ∧
        u.store = s.store ∧
        (w = .sp → u = { s with contacts := u.contacts, spill := { s.spill with spWet := v } }) ∧
        (w = .lf → u = { s with contacts := u.contacts, inbox := [.lf v] }) ∧
        (w = .hf → u = { s with
          contacts := u.contacts, inbox := [.hf v], conditions := (s.report .wwFloatHigh v).conditions }) ∧
        (w = .accept → u = { s with
          contacts := u.contacts, conditions := if v then (acknowledgeAll s).conditions else s.conditions }) ∧
        (∀ b, w = .runFeedback b → FeedbackEffect b v (taken s w v) u) ∧
        (∀ b, w = .overload b → OverloadEffect b v (taken s w v) u) ∧
        (∀ b, w = .sealLeak b → SealEffect b v (taken s w v) u) ∧
        (∀ x, w = .screenSelector x → ScreenSelectorEffect x v (taken s w v) u) ∧
        (∀ x, w = .topLimit x → TopEffect x v (taken s w v) u) ∧
        (∀ x, w = .homeLimit x → HomeEffect x v (taken s w v) u) ∧
        (∀ x, w = .rakeOverload x → RakeOverloadEffect x v (taken s w v) u) ∧
        (w = .starterReady ∨ w = .starterFault → StarterEffect (taken s w v) u) ∧
        (w = .remotePermit → PermitEffect v (taken s w v) u)) ∧
    (∀ (b : Bay) (p : Selector), (s.contacts.selector.get b).timer.isSome = true →
      (s.contacts.selector.get b).pendingState = some p →
      ∃ u : State, exec (.filterTimerExpiry (.selector b)) s = .next (settle u) ∧
        u.contacts = { s.contacts with
          selector := s.contacts.selector.put b ⟨(s.contacts.selector.get b).raw, p, none, none⟩ } ∧
        (u.pump b).selector = p ∧ (∀ c, c ≠ b → u.pump c = s.pump c) ∧
        u.plant = { s.plant with contacts := u.contacts } ∧
        SelectorEffect b p { s with contacts := u.contacts } u)

/-! ## Settings, clock and restarts -/

namespace Sys2Proof.Spec

/-- The ranges of every item, table by table, lowest and highest value (T0 R184, R191; T1 R21; T2 R41; T3 R67, R106; T4 R71; T5
R123; T6 R138; T8 R171); T7 and the tables above T8 hold no item (R196). -/
def ranges (σ : Settings) : Nat → List (Int × Int)
  | 0 => [(0, 5), (1, 247), (2, 100), (5, 200), (30, 3600), (1, 60), (10, 600)]
  | 1 =>
    let channel (c : Nat) : List (Int × Int) := [(100, 10000), (-5000, 5000), (1, 2000),
      (1, min 200 (255 - σ.get 1 (5 * c + 4))), (0, 255 - σ.get 1 (5 * c + 3))]
    channel 0 ++ channel 1 ++ channel 2 ++ channel 3 ++ [(0, 10000), (0, 10000), (0, 10000), (0, 500), (0, 1), (0, 1),
      (0, 1), (0, 10000), (0, 10000), (0, 2000), (0, 500)]
  | 2 => [(1, 10), (5, 60), (2, 2000), (1, 1999), (10, 240), (10, 720)] ++ List.replicate 10 (20, 2000)
  | 3 => [(1, 4), (10, 1800), (10, 1800), (1, 12), (1, 30), (0, 720), (0, 600), (2, 30), (5, 120), (0, 600), (1, 4), (0, 4)]
  | 4 => List.replicate 16 (0, 10000)
  | 5 => [(20, min 2000 (σ.get 5 1)), (σ.get 5 0, 3000), (0, 500), (10, 300), (2, 30), (5, 720), (1, 120), (0, 1), (0, 1)]
  | 6 => [(0, 10000), (2, 16)] ++ List.replicate 16 (0, 3000) ++ List.replicate 16 (-32768, 32767) ++
      [(σ.get 6 35 + 1, 500), (0, σ.get 6 34 - 1), (10, 600), (0, 7200), (-32768, 32767)]
  | 8 => List.replicate 50 (0, 1)
  | _ => []

/-- R197: the value a write takes: clamped into its range, and for the changeover time 10 for 1 to 9 (R67). -/
def clampedValue (σ : Settings) (table item : Nat) (v : Int) : Int :=
  match (ranges σ table)[item]? with
  | none => v
  | some (low, high) =>
    if table = 3 ∧ item = 5 ∧ 0 < v ∧ v < 10 then 10 else if v < low then low else if high < v then high else v

/-- R138: the flow an item value stands for. -/
def flowValue (v : Int) : Int := if v < 0 then v + 65536 else v

/-- The constraints of R21, R41, R71 and R138 on a value written to an item. -/
def Fits (σ : Settings) (table item : Nat) (v : Int) : Prop :=
  let now (i : Nat) : Int := if i = item then v else σ.get table i
  let n := (σ.get 6 1).toNat
  match table with
  | 1 => item = 20 ∨ item = 21 ∨ item = 23 → now 23 < now 20 - now 21
  | 2 => item = 2 ∨ item = 3 → now 3 < now 2
  | 4 =>
    let base := if item < 8 then 0 else 8
    (∀ k, k < 4 → now (base + 4 + k) < now (base + k)) ∧ ∀ k, k < 3 → now (base + k) ≤ now (base + k + 1)
  | 6 =>
    (item = 1 → v.toNat ≤ n ∨ σ.get 6 (2 + (n - 1)) + ((v.toNat : Int) - n) ≤ 3000) ∧
    (2 ≤ item → item < 18 →
      let k := item - 2
      k < n ∧ (k = 0 → v = 0) ∧
        (0 < k → σ.get 6 (2 + (k - 1)) < v ∧ (k + 1 < n → v < σ.get 6 (2 + (k + 1))))) ∧
    (18 ≤ item → item < 34 →
      let k := item - 18
      k < n ∧ (0 < k → flowValue (σ.get 6 (18 + (k - 1))) ≤ flowValue v) ∧
        (k + 1 < n → flowValue v ≤ flowValue (σ.get 6 (18 + (k + 1)))))
  | _ => True

/-- R138, R197: the working copy after a write of a value taken: the item holds it and every other item stays, but that a write
of the point count sets the points it takes out of use to 0 and brings in points that rise by 1 mm at the last flow. -/
def Written (σ τ : Settings) (table item : Nat) (v : Int) : Prop :=
  τ.get table item = v ∧
  (¬ (table = 6 ∧ item = 1) → ∀ k i, (k, i) ≠ (table, item) → τ.get k i = σ.get k i) ∧
  (table = 6 → item = 1 →
    let old := (σ.get 6 1).toNat
    let new := v.toNat
    (∀ k, k < 16 →
      τ.get 6 (2 + k) = (if new ≤ k ∧ new < old then 0
        else if old ≤ k ∧ k < new then σ.get 6 (2 + (old - 1)) + ((k : Int) - old + 1) else σ.get 6 (2 + k)) ∧
      τ.get 6 (18 + k) = (if new ≤ k ∧ new < old then 0
        else if old ≤ k ∧ k < new then σ.get 6 (18 + (old - 1)) else σ.get 6 (18 + k))) ∧
    ∀ k i, ¬ (k = 6 ∧ 1 ≤ i ∧ i < 34) → τ.get k i = σ.get k i)

/-- R168, R169: the summary, ATTN_CONDITION, the beacon and the horn as the records give them. -/
def Judged (c : Conditions) : Prop :=
  let calls (i : Source) : Prop :=
    (c.recs.get i.index).state = .activeUnack ∨ (c.recs.get i.index).state = .returnedUnack
  let shows (i : Source) : Prop := calls i ∨ (c.recs.get i.index).state = .activeAck
  (∀ i, i ∈ c.summary ↔ (c.recs.get i.index).reportable = true ∧ shows i) ∧
  (c.attn = true ↔ ∃ i : Source, (c.recs.get i.index).reportable = true ∧ calls i) ∧
  (c.beacon = true ↔ ∃ i : Source, (c.recs.get i.index).urgent = true ∧ shows i) ∧
  (c.horn = true ↔ ∃ i : Source, (c.recs.get i.index).urgent = true ∧ calls i)

/-- How many pumps of the roster a test holds of. -/
def tally (test : PumpState → Bool) (pumps : PerBay PumpRec) : Nat :=
  ([Bay.b1, .b2, .b3, .b4].filter fun b => test (pumps.get b).state).length

/-- R101: the sheds at a running limit: from the latest in the duty order, a pump STARTING or RUNNING goes to RESTING while the
pumps in those states number more than the limit. -/
def shed (limit rest : Nat) : List Bay → PerBay PumpRec → PerBay PumpRec
  | [], pumps => pumps
  | b :: before, pumps =>
    let on (st : PumpState) : Bool := st == .starting || st == .running
    if limit < tally on pumps ∧ on (pumps.get b).state = true then
      shed limit rest before (pumps.put b { rested .resting (pumps.get b) with minRest := some rest })
    else shed limit rest before pumps

/-- R59: the withdrawals at a fall of the running limit: from the latest in the duty order, a QUEUED pump goes to IDLE while the
pumps QUEUED, STARTING or RUNNING number more than the limit. -/
def withdrawn (limit : Nat) : List Bay → PerBay PumpRec → PerBay PumpRec
  | [], pumps => pumps
  | b :: before, pumps =>
    let committed (st : PumpState) : Bool := st == .queued || st == .starting || st == .running
    if limit < tally committed pumps ∧ (pumps.get b).state = .queued then
      withdrawn limit before (pumps.put b (rested .idle (pumps.get b)))
    else withdrawn limit before pumps

/-- R49, R70: what the Roster hands on as its pumps go from some states to others, the latest in the duty order first: the queue
test of each change and then the change (log 29). -/
def handed (order : List Bay) (p q : PerBay PumpRec) : List Notice :=
  (order.dedup.reverse.filter fun b => (p.get b).state != (q.get b).state).flatMap fun b =>
    [.queueTest, .pump b (p.get b).state (q.get b).state]

/-- R50, R90: the start queue without the pumps that have been withdrawn from QUEUED to IDLE, the others in their order. -/
def unqueued (p q : PerBay PumpRec) (queue : List Bay) : List Bay :=
  ([Bay.b1, .b2, .b3, .b4].filter fun b => (p.get b).state == .queued && (q.get b).state == .idle).foldl List.erase queue

/-- R93, R101: the pump on the ramp is among those shed. -/
def RampShed (s u : State) : Prop :=
  s.arbiter.state = .ramping ∧
    ∃ b : Bay, s.arbiter.held = some b ∧ (s.pump b).state = .starting ∧ (u.pump b).state = .resting

/-- R59, R100, R101: the running limit recomputed: at a change of it the sheds, the withdrawals at a fall and the queue test at a
rise. The Arbiter keeps its state and loses the withdrawn pumps from its queue, and the screens stay as they are; where the pump
on the ramp is shed, the ramp is aborted into GAP (R93) and a trigger that it held is answered (R111). -/
def Sheds (new : Nat) (s u : State) : Prop :=
  let old := s.supply.limit
  let order := s.duty.order
  let kept := shed new (s.itemNat 3 2 * 1000) order.reverse s.roster.pumps
  let left := if new < old then withdrawn new order.reverse kept else kept
  let queue := unqueued kept left s.arbiter.queue
  (new = old → u = s) ∧
  (new ≠ old →
    u = { s with
      supply := { s.supply with limit := new }
      roster := { s.roster with pumps := left }
      arbiter := u.arbiter
      screens := u.screens
      inbox := s.inbox ++ handed order s.roster.pumps kept ++
        if new < old then handed order kept left else [.queueTest] } ∧
    (RampShed s u → u.arbiter = { gapped s with queue := queue } ∧ RampEnds s u) ∧
    (¬ RampShed s u → u.arbiter = { s.arbiter with queue := queue } ∧ u.screens = s.screens))

/-- R100: a write of a supply limit: the limit in force recomputed, and a change of it handed to the Duty Controller last. -/
def LimitEffect (s u : State) : Prop :=
  let new := match s.supply.state with
    | .mains => u.itemNat 3 10
    | .generator => u.itemNat 3 11
    | .none => 0
  ∃ m : State, Sheds new { s with store := u.store } m ∧
    u = if new = s.supply.limit then m else { m with inbox := m.inbox ++ [.limit new] }

end Sys2Proof.Spec

/-- WRITE_SETTING with authority held, judged in the order of R197: T7 and tables above T8, and items past a table's last, are
BAD_INDEX; BUSY while a commit is in progress; a value out of its range is clamped and answered ADJUSTED, one that breaks a
constraint of R21, R41, R71 or R138 is refused with CONFLICT, and the working copy takes the value. That every write of a rating
point not in use is such a conflict, a write of the 0 it holds included, is the model's reading of log 17, and that a shed or
withdrawn pump's four timers stop is that of log 12. A write of T0 item 2 acts on its own frame's turnaround, and a write of
T0 item 4 not on the link timer that its own frame restarts (log 38, the model's choice), and the queue test of a pump's change of state
comes before its hand-over (log 29). At the write itself a
severity or report item acts on its record, and the attention of the table is judged anew (R171), and a supply limit on the
limit in force (R100, R101), the outputs following the states; a write of any other item does nothing more. -/
def Obligations.WriteSettingTakesTheValue : Prop :=
  (∀ (ans table item : Nat) (value : Int) (s : State), s.cleared ans →
    let σ := s.store.working
    let v := clampedValue σ table item value
    (table = 7 ∨ 8 < table ∨ (ranges σ table).length ≤ item →
      exec (.writeSetting ans table item value) s = .next (s.heard.spent.replying 0x17 .badIndex [])) ∧
    (item < (ranges σ table).length →
      (s.store.commit.isSome = true →
        exec (.writeSetting ans table item value) s = .next (s.heard.spent.replying 0x17 .busy [])) ∧
      (s.store.commit = none → ¬ Fits σ table item v →
        exec (.writeSetting ans table item value) s = .next (s.heard.spent.replying 0x17 .conflict [])) ∧
      (s.store.commit = none → Fits σ table item v →
        ∃ u : State, exec (.writeSetting ans table item value) s = .next ((settle u).replying 0x17
            (if v = value then .ok else .adjusted) ([byte table, byte item] ++ signed v)) ∧
          u.store = { s.store with working := u.store.working } ∧ Written σ u.store.working table item v ∧
          (table ≠ 8 → ¬ (table = 3 ∧ (item = 10 ∨ item = 11)) → u = { s.heard.spent with store := u.store }) ∧
          (table = 8 → u = { s.heard.spent with store := u.store, conditions := u.conditions } ∧ Judged u.conditions ∧
            ∀ i : Source, u.cond i =
              if i.index.val = item then { s.heard.cond i with urgent := decide (v = 1) }
              else if i.index.val + 25 = item then { s.heard.cond i with reportable := decide (v = 1) }
              else s.heard.cond i) ∧
          (table = 3 → item = 10 ∨ item = 11 → s.OutputsFollow → LimitEffect s.heard.spent u)))) ∧
  (∀ (σ : Settings) (table item : Nat) (v : Int), item < (ranges σ table).length →
    (ranges σ table)[item]? = some (σ.range table item) ∧ σ.taken table item v = clampedValue σ table item v ∧
      (σ.sound table item v = true ↔ Fits σ table item v) ∧ tableSize table = some (ranges σ table).length)

/-! ## The supply's inputs -/

namespace Sys2Proof.Spec

/-- R59, R102: a pump at the entry to NONE. -/
def lost (rest : Nat) (p : PumpRec) : PumpRec :=
  match p.state with
  | .queued => rested .idle p
  | .starting | .running | .stopping => { rested .resting p with minRest := some rest }
  | _ => p

/-- R117: a screen at the entry to NONE: a rake in motion is STALLED. -/
def stalled (r : ScreenRec) : ScreenRec :=
  if r.state = .rising ∨ r.state = .lowering ∨ r.state = .clearing ∨ r.state = .homing then
    { r with
      state := .stalled, forward := false, reverse := false, strokeTimer := none, clearTimer := none, overloadSeen := false }
  else r

/-- R59, R102, R104, R117: the entry to NONE: the limit 0 and the restore timer stopped; the pumps; the Arbiter with its queue
empty and its timers stopped, IDLE, or FAULTED with the fault input active; the screens, which hear of a departure from RAMPING
first (log 31); SUPPLY_NONE active, and STARTER_FAULT as the Arbiter stands; each change of a pump's state handed on, and the
limit last. -/
def EntersNone (t u : State) : Prop :=
  let fault := t.contacts.starterFault.filtered
  let ramped := t.arbiter.state = .ramping
  u = { t with
    supply := { t.supply with state := .none, limit := 0, restoreTimer := none }
    roster := { t.roster with pumps := t.roster.pumps.map (lost (t.itemNat 3 2 * 1000)) }
    arbiter := { t.arbiter with
      state := if fault = true then .faulted else .idle, held := none, queue := [], rampTimer := none, gapTimer := none
      runOutput := false, health := if fault = true then .faultInput else .healthy, gateSupply := .none, gateRestore := false }
    screens := { t.screens with
      recs := u.screens.recs, supply := .none, ramping := if ramped then false else t.screens.ramping }
    conditions := u.conditions
    inbox := u.inbox } ∧
  (∀ x, u.screen x = stalled (if ramped then
    retried { t with screens := { t.screens with ramping := false } } x (t.screen x) else t.screen x)) ∧
  u.cond .supplyNone = told t .supplyNone true none ∧
  u.cond .starterFault = (if fault = true then told t .starterFault true (some (.health .faultInput))
    else if t.arbiter.state = .faulted then told t .starterFault false none else t.cond .starterFault) ∧
  (∀ i, i ≠ .supplyNone → i ≠ .starterFault → u.cond i = t.cond i) ∧
  u.inbox = t.inbox ++ [Bay.b1, .b2, .b3, .b4].flatMap (fun b =>
      let was := (t.pump b).state
      if was = .queued then [.queueTest, .pump b was .idle]
      else if was = .starting ∨ was = .running then [.queueTest, .pump b was .resting]
      else if was = .stopping then [.pump b was .resting] else []) ++
    (if t.arbiter.state = .faulted ∧ fault = false then [.queueTest] else []) ++ [.limit 0]

/-- R91, R95, R99 to R101, R104, R111, R117: a change to MAINS or GENERATOR, in the order of R99: the limit recomputed with its
sheds; the restore timer; the gate handed to the Arbiter, which judges its health and then makes the grant test (log 10); the
supply state handed to the screens, after the Arbiter (log 31): STALLED ones brought home at a return of supply, and pending
triggers answered where the hold lifts; SUPPLY_NONE inactive, and the limit handed to the Duty Controller. -/
def EntersSupply (new : SupplyState) (timer : Timer) (t u : State) : Prop :=
  let limit := if new = .mains then t.itemNat 3 10 else t.itemNat 3 11
  ∃ m k : State,
    Sheds limit { t with supply := { t.supply with state := new } } m ∧
    StarterEffect { m with
      supply := { m.supply with restoreTimer := timer }
      arbiter := { m.arbiter with gateSupply := new, gateRestore := timer.isSome } } k ∧
    let g := grantTest k
    let h := { g with screens := { g.screens with supply := new } }
    let lifts := new = .mains ∨ (g.screens.supply = .none ∧ g.screens.ramping = false)
    u = { h with
      screens := { h.screens with recs := u.screens.recs }, conditions := u.conditions
      inbox := g.inbox ++ [.limit limit] } ∧
    (∀ x,
      let r := if g.screens.supply = .none ∧ (g.screen x).inUse = true ∧ (g.screen x).state = .stalled then
        homed h x (g.screen x) else g.screen x
      u.screen x = if lifts then retried h x r else r) ∧
    u.cond .supplyNone = told g .supplyNone false none ∧ ∀ i, i ≠ .supplyNone → u.cond i = g.cond i

end Sys2Proof.Spec

/-- The supply state, the running limit and the restore timer after a change of the mains or generator input (R98, R100,
R103), a restore delay of 0 expiring before the gate is handed over (log 35), and what the change does at its neighbours: the
entry to NONE at the Roster, the Arbiter and the screens (R59, R102, R117), the sheds and withdrawals of a change between MAINS
and GENERATOR (R59, R101), with the outputs following the states, the starter's health and the grant test (R91, R95), the screens
brought home (R117), and MAINS_FAIL and SUPPLY_NONE (R104). A change of an input that leaves the supply state as it was writes
the input and reports MAINS_FAIL, and no more. All four timers of a pump stop (log 12), the health is judged before the grant
test (log 10), and the Arbiter goes before the screens (log 31). The notices wait for the end of the step, in the order of log 28
and log 29, the queue test of a rise of the limit among them (log 11). -/
def Obligations.SupplyFollowsItsInputs : Prop :=
  ∀ (w : Switch) (v : Bool) (s : State), s.power = .on → w = .mainsPresent ∨ w = .generatorRunning →
    (s.contacts.get w).timer.isSome = true → (s.contacts.get w).pendingState = some v →
    let mains := if w = .mainsPresent then v else s.supply.mains
    let generator := if w = .generatorRunning then v else s.supply.generator
    let new : SupplyState := if mains then .mains else if generator then .generator else .none
    let fresh : Timer := if s.itemNat 3 9 = 0 then none else some (s.itemNat 3 9 * 1000)
    let timer : Timer := if new = s.supply.state then s.supply.restoreTimer
      else match s.supply.state, new with
        | _, .none => none
        | .mains, _ => if s.supply.restoreTimer.isSome then fresh else none
        | _, _ => fresh
    let heard : State := { taken s w v with
      supply := { s.supply with mains := mains, generator := generator }
      conditions := if w = .mainsPresent then (s.report .mainsFail (!v)).conditions else s.conditions }
    (∃ t : State, exec (.filterTimerExpiry (.switch w)) s = .next t ∧
        t.plant = { s.plant with
          contacts := s.contacts.put w ⟨(s.contacts.get w).raw, v, none, none⟩
          supply :=
            { mains := mains, generator := generator, state := new
              limit := if new = s.supply.state then s.supply.limit
                else match new with
                  | .mains => s.itemNat 3 10
                  | .generator => s.itemNat 3 11
                  | .none => 0
              restoreTimer := timer } }) ∧
    (s.inbox = [] → ∃ u : State, exec (.filterTimerExpiry (.switch w)) s = .next (settle u) ∧
      (new = s.supply.state → u = heard) ∧
      (new ≠ s.supply.state → new = .none → EntersNone heard u) ∧
      (new ≠ s.supply.state → new ≠ .none → s.OutputsFollow → EntersSupply new timer heard u))

/-! ## Commits, clock and restarts -/

/-- COMMIT_SETTINGS clears the completion marker and begins a commit, BUSY while one is in progress; its completion stores the
working copy and writes the marker (R198).
The commit holds 2000 ms for itself (log 18). -/
def Obligations.CommitStoresTheWorkingCopy : Prop :=
  ∀ (ans : Nat) (s : State),
    (s.cleared ans → s.store.commit.isSome = true →
      exec (.commitSettings ans) s = .next (s.heard.spent.replying 0x18 .busy [])) ∧
    (s.cleared ans → s.store.commit = none →
      exec (.commitSettings ans) s = .next (State.replying
        { s.heard.spent with store := { s.store with marker := false, commit := some 2000 } } 0x18 .ok [])) ∧
    (s.power = .on → s.store.commit.isSome = true → exec .commitCompletion s =
      .next { s with store := { s.store with stored := s.store.working, marker := true, commit := none } })

/-- The station clock: its second adds 1 and wraps from 4,294,967,295 to 0; SET_CLOCK, addressed or broadcast, sets the time and
CLOCK_SET and leaves the second timer alone (R201, R202).
The second timer starts again at its expiry (log 22), and the frame's own report of LINK_LOST inactive is stamped with the time
before it is set (log 37). -/
def Obligations.ClockCountsAndIsSet : Prop :=
  ∀ (time : Nat) (s : State), time < 4294967296 →
    (s.power = .on → s.clock.secondTimer.isSome = true → exec .clockSecondExpiry s = .next { s with
      clock := { s.clock with time := (s.clock.time + 1) % 4294967296, secondTimer := some 1000 } }) ∧
    (s.ready → exec (.setClock false time) s = .next (State.replying
      { s.heard with clock := { s.clock with time := time, isSet := true } } 0x19 .ok [])) ∧
    (s.ready → s.line.address ≠ 0 → exec (.setClock true time) s = .next { s with
      clock := { s.clock with time := time, isSet := true }
      line := { s.line with frame := none, gapTimer := none } })

/-- Loss of supply halts the part, and a commit in progress ends with no marker (R199), the stored copy a free value and the
counter of free values moved on by 1 (log 7); a part already halted stays as it is. A part without supply takes no command but a
restart and a change of a raw contact (00_scope.md 3.7; log 4). -/
def Obligations.SupplyLossHaltsThePart : Prop :=
  (∀ s : State,
      (s.power = .halted → exec .supplyLoss s = .next s) ∧
      (s.power = .on → s.store.commit = none → exec .supplyLoss s = .next { s with power := .halted }) ∧
      (s.power = .on → s.store.commit.isSome = true → ∃ u : State, exec .supplyLoss s = .next u ∧ u.power = .halted ∧
        u.store.marker = false ∧ u.store.commit = none ∧ u.store.working = s.store.working ∧
        u = { s with power := .halted, store := u.store, freeCount := s.freeCount + 1 })) ∧
  (∀ (c : Instr) (s : State), s.power = .halted → c ≠ .coldStart → c ≠ .warmSupplyRestart →
      (∀ k v, c ≠ .rawContactChange k v) → exec c s = .next s)

namespace Sys2Proof.Spec

/-- R68: a bay's record at a restart, from the row of the table that applies; an ABSENT bay keeps its counts (log 24). -/
def bayRestarted (cold : Bool) (s t : State) (b : Bay) : PumpRec :=
  let selector := (s.contacts.selector.get b).raw
  let inService := cold || (s.pump b).inService
  let lockouts := if cold = true then 0 else (s.pump b).lockouts
  let r : PumpRec :=
    { state := .absent, selector := selector, inService := inService, forced := .none, reason := none
      resetMark := false, degraded := false, startLimited := false, changeoverDue := false
      runSeconds := if cold = true then 0 else (s.pump b).runSeconds
      startsTotal := if cold = true then 0 else (s.pump b).startsTotal
      lockouts := lockouts, secondsInState := 0, window := []
      minRun := none, minRest := none, stopConfirm := none, feedbackLoss := none
      starterSelect := false, runContactor := false }
  let installed := { r with degraded := (s.contacts.sealLeak.get b).raw }
  if t.itemNat 3 0 < b.number then r
  else if cold = false ∧ (s.pump b).state = .lockedOut then
    { installed with state := .lockedOut, reason := (s.pump b).reason }
  else if selector ≠ .auto ∨ inService = false then { installed with state := .unavailable }
  else if (s.contacts.overload.get b).raw = false then
    { installed with state := .lockedOut, reason := some .overload, lockouts := min 255 (lockouts + 1) }
  else if (s.contacts.runFeedback.get b).raw = true then
    { installed with state := .stopping, stopConfirm := some (t.itemNat 3 4 * 1000) }
  else { installed with state := .resting, minRest := some (t.itemNat 3 2 * 1000) }

/-- A timer of whole seconds as a restart starts it: at 0 it has expired at once. -/
def startedAt (secs : Nat) : Timer := if secs = 0 then none else some (secs * 1000)

/-- R107: the Arbiter at a restart, its health judged on the inputs taken. -/
def arbiterRestarted (s t : State) : Arbiter :=
  let health : StarterHealth :=
    if s.contacts.starterFault.raw = true then .faultInput
    else if s.contacts.starterReady.raw = false ∧ t.supply.state ≠ .none ∧ t.supply.restoreTimer = none then .notReady
    else .healthy
  { state := if health = .healthy then .idle else .faulted
    held := none, queue := [], rampTimer := none, gapTimer := none, runOutput := false, health := health
    gateSupply := t.supply.state, gateRestore := t.supply.restoreTimer.isSome, holdExpired := t.roster.restartHold.isNone }

/-- R88: a duty order brought into line: the pumps whose state is not one of the six taken out, those missing added in bay
order, and the sound ones set before the degraded ones. -/
def linedUp (t : State) (order : List Bay) : List Bay :=
  let onDuty (b : Bay) : Bool := (t.pump b).state ∉ [.absent, .unavailable, .lockedOut]
  let kept := order.filter onDuty
  let all := kept ++ [Bay.b1, .b2, .b3, .b4].filter fun b => onDuty b && !kept.contains b
  all.filter (fun b => !(t.pump b).degraded) ++ all.filter fun b => (t.pump b).degraded

/-- R88: the Duty Controller at a restart, its restart evaluation made: the overrides act on stage 0. -/
def dutyRestarted (cold : Bool) (s t : State) : Duty :=
  let dry := !s.contacts.lf.raw
  let out := t.episodes.isOpen
  { stage := if dry = true then 0 else if out = true ∨ s.contacts.hf.raw = true then 4 else 0
    profile := if t.rain.storm = .storm then .storm else .normal
    storm := t.rain.storm, report := ⟨false, none, false⟩
    hfCovered := s.contacts.hf.raw, lfCovered := !dry, allOut := out, cutoff := dry, limit := t.supply.limit
    handCount := ([Bay.b1, .b2, .b3, .b4].filter fun b => decide ((t.pump b).state ≠ .absent) &&
      decide ((s.contacts.selector.get b).raw = .hand) && (s.contacts.runFeedback.get b).raw).length
    order := linedUp t (if cold = true then [.b1, .b2, .b3, .b4] else s.duty.order)
    rotationPending := false, counted := t.duty.counted, uncounted := t.duty.uncounted
    changeoverTimer := ⟨none, none, none, none⟩, replaced := ⟨false, false, false, false⟩ }

/-- R124: a screen's record at a restart, from the row of the table that applies; one not in use runs no interval timer
(R112, log 26). -/
def screenRestarted (cold : Bool) (s t : State) (x : Screen) : ScreenRec :=
  let inUse := decide (t.item 5 (if x = .a then 7 else 8) = 1)
  let r : ScreenRec :=
    { state := .off, inUse := inUse, selectorAuto := (s.contacts.screenSelector.get x).raw, jam := none
      resetMark := false, inhibit := false, pending := false, overloadSeen := false, differential := none, blinded := false
      cycles := if cold = true then 0 else (s.screen x).cycles
      lastCycle := if cold = true then 0 else (s.screen x).lastCycle
      strokeTimer := none, clearTimer := none
      interval := ⟨if inUse = true then some 0 else none, if t.rain.storm = .storm then t.itemNat 5 6 else t.itemNat 5 5⟩
      forward := false, reverse := false }
  if inUse = false then r
  else if cold = false ∧ (s.screen x).state = .jammed then { r with state := .jammed, jam := (s.screen x).jam }
  else if r.selectorAuto = false then r
  else homed t x r

/-- R158: a record's totals with INTERRUPTED. -/
def interrupted (q : Tally) : Tally := { q with flags := { q.flags with interrupted := true } }

/-- R158: the Episode Table at a warm restart: what was being qualified is gone, an episode in progress is INTERRUPTED, and one
CLOSING has its merge gap over again or, with a gap of 0, is settled. -/
def TableRewarmed (gap : Nat) (e f : EpisodeTable) : Prop :=
  let kept := { e with qualifying := false, qualifyTimer := none, mergeTimer := none }
  (e.inProgress = .none → f = { kept with attn := f.attn }) ∧
  (∀ i r, e.inProgress = .slot i → e.slots.get i = some r →
    (r.state ≠ .closing → SlotBecomes kept f i { r with tally := interrupted r.tally }) ∧
    (r.state = .closing → 0 < gap →
      SlotBecomes { kept with mergeTimer := some (gap * 1000) } f i { r with tally := interrupted r.tally }) ∧
    (r.state = .closing → gap = 0 → SlotBecomes { kept with inProgress := .none } f i
      { r with state := .closed, tally := interrupted r.tally })) ∧
  (∀ p, e.inProgress = .accumulator → e.acc.current = some p →
    let acc := { e.acc with tally := interrupted e.acc.tally }
    (p.closing = false → f = { kept with acc := acc, attn := f.attn }) ∧
    (p.closing = true → 0 < gap → f = { kept with acc := acc, mergeTimer := some (gap * 1000), attn := f.attn }) ∧
    (∀ last, p.closing = true → gap = 0 → p.finish = some last →
      f = { kept with acc := { acc with current := none, latest := last }, inProgress := .none, attn := f.attn }))

/-- R22, R27, R68, R97, R104, R124, R139, R155, R185: what the owner of each source reports at a restart. -/
def reportAtRestart (t : State) : Source → Bool × Option Detail
  | .wwFloatHigh => (t.contacts.hf.filtered, none)
  | .pump1Lockout => lockout .b1
  | .pump2Lockout => lockout .b2
  | .pump3Lockout => lockout .b3
  | .pump4Lockout => lockout .b4
  | .pumpSeal => ([Bay.b1, .b2, .b3, .b4].any fun b => (t.pump b).degraded, none)
  | .screenAJam => jam .a
  | .screenBJam => jam .b
  | .starterFault => (t.arbiter.state == .faulted, some (.health t.arbiter.health))
  | .mainsFail => (!t.contacts.mainsPresent.filtered, none)
  | .supplyNone => (t.supply.state == .none, none)
  | .overflowActive => (t.episodes.isOpen, some (.serial t.episodes.progressSerial))
  | .episodeTableFull => (decide (∀ i : Fin 16, t.episodes.slots.get i ≠ none), none)
  | .wwHigh | .wwLow | .inHigh | .chWwInvalid | .chInInvalid | .chSaInvalid | .chSbInvalid | .screenBlinded
  | .ratingExceeded | .linkLost | .restart | .settingsDefaulted => (false, none)
where
  lockout (b : Bay) : Bool × Option Detail := ((t.pump b).state == .lockedOut, (t.pump b).reason.map .lockout)
  jam (x : Screen) : Bool × Option Detail := ((t.screen x).state == .jammed, (t.screen x).jam.map .jam)

/-- R171 to R173: a condition record at a restart before its owner's report: kept at a warm one and blank at a cold one, its
severity and reportable from T8, its shelf lapsed. -/
def condRestarted (cold : Bool) (s t : State) (i : Source) : CondRec :=
  let r : CondRec := if cold = true then ⟨.normal, false, false, false, 0, 0, 0, none, none⟩ else s.cond i
  let r := { r with urgent := decide (t.item 8 i.index.val = 1), reportable := decide (t.item 8 (25 + i.index.val) = 1) }
  if r.state = .shelved then
    { r with
      state := if r.active = true then .activeUnack else .normal
      change := (r.change + 1) % 256, changedAt := t.clock.time, shelf := none }
  else r

/-- R172, R173: the Condition Table at a restart: each owner's report taken, then RESTART pulsed with the cause, and
SETTINGS_DEFAULTED if the defaults were loaded. -/
def ConditionsRestarted (cause : RestartCause) (s t : State) : Prop :=
  let before := condRestarted (cause == .cold) s t
  let pulsed (i : Source) (d : Option Detail) : CondRec :=
    ((before i).takeReport t.clock.time true d).takeReport t.clock.time false none
  (∀ i, i ≠ .restart → i ≠ .settingsDefaulted →
    t.cond i = (before i).takeReport t.clock.time (reportAtRestart t i).1 (reportAtRestart t i).2) ∧
  t.cond .restart = pulsed .restart (some (.cause cause)) ∧
  t.cond .settingsDefaulted =
    if s.store.marker = true then before .settingsDefaulted else pulsed .settingsDefaulted none

end Sys2Proof.Spec

/-- What every restart gives whatever came before it (R22, R42, R68, R88, R107, R109, R124, R139, R155, R158, R159, R171 to
R173, R185, R195, R199 to R201): the settings loaded or defaulted, the outputs off, and every block at its restart values: the
pumps with their lockouts kept, the duty order brought into line, the screens brought home, an episode in progress INTERRUPTED
and a CLOSING one settled at a merge gap of 0, and the condition records with their owners' reports and the pulses taken. An
ABSENT bay is log 24, a screen not in use log 26. COLD_START and WARM_SUPPLY_RESTART bring the restart of their kind, a part
that still has supply losing it first (log 20). -/
def Obligations.RestartGivesTheRestartValues : Prop :=
  (∀ (cause : RestartCause) (s : State),
      let t := restart cause s
      let σ := if s.store.marker then s.store.stored else Settings.defaults
      t.power = .on ∧ t.restartCause = cause ∧ t.pending = s.pending ∧
      t.store = { s.store with working := σ, commit := none } ∧
      t.contacts = s.contacts.retaken ∧
      t.clock = (if cause = .cold then ⟨0, false, some 1000⟩ else { s.clock with secondTimer := some 1000 }) ∧
      (∀ c, t.channel c = ChannelRec.restarted (σ.get 1 (c.base + 3)).toNat (σ.get 1 (c.base + 4)).toNat ∧
        t.channels.sampleTimers.get c = some 200) ∧
      t.rain = {
        storm := if t.episodes.inProgress = .none then .dry else .storm, episodeFlag := t.episodes.inProgress != .none
        quiet := 0, openBin := 0, closedBins := List.replicate 60 0, intensity := 0
        total := if cause = .cold then 0 else s.rain.total, clearedAt := if cause = .cold then 0 else s.rain.clearedAt
        minuteTimer := some 60000, dryTimer := none, dryRestarted := false, bounceTimer := none } ∧
      (cause = .cold → t.episodes = {
        slots := Vector.replicate 16 none, acc := .empty, serialCounter := 1, inProgress := .none, qualifying := false
        qualifyTimer := none, mergeTimer := none, attn := false }) ∧
      (cause ≠ .cold → TableRewarmed (t.itemNat 6 37) s.episodes t.episodes) ∧
      t.spill = {
        report := ⟨false, none, false⟩, spWet := s.contacts.sp.raw, rating := σ.rating, head := none, rated := none
        held := 0, spilling := false, fromSpilling := t.episodes.isOpen, basis := .head, flowUsed := 0, above := false
        accumulation := none, integrationTimer := some 1000 } ∧
      (let st : SupplyState := if s.contacts.mainsPresent.raw = true then .mains
         else if s.contacts.generatorRunning.raw = true then .generator else .none
       t.supply = {
         state := st
         limit := match st with
           | .mains => t.itemNat 3 10
           | .generator => t.itemNat 3 11
           | .none => 0
         restoreTimer := if st = .none then none else startedAt (t.itemNat 3 9)
         mains := s.contacts.mainsPresent.raw, generator := s.contacts.generatorRunning.raw }) ∧
      t.arbiter = arbiterRestarted s t ∧
      t.line = {
        receiver := .waiting, frame := none, gapTimer := none, turnaroundTimer := none, reply := none
        restartPending := false, latch := false, linkTimer := some ((σ.get 0 4).toNat * 1000)
        baud := (σ.get 0 0).toNat, address := (σ.get 0 1).toNat } ∧
      (let barred : Bool := decide (cause ≠ .cold) && decide (s.authority.state = .barred)
       t.authority = {
         state := if barred = true then .barred else .none, challenge := (σ.get 0 1).toNat * 257
         failures := if cause = .cold then 0 else if barred = true then 3 else s.authority.failures
         answerTimer := none, supervisionTimer := none, permit := s.contacts.remotePermit.raw }) ∧
      (∀ b : Bay, t.pump b = bayRestarted (cause == .cold) s t b) ∧
      t.roster = {
        pumps := t.roster.pumps, installed := t.itemNat 3 0
        secondTimer := some 1000, restartHold := startedAt (t.itemNat 3 6) } ∧
      t.duty = dutyRestarted (cause == .cold) s t ∧
      (∀ x : Screen, t.screen x = screenRestarted (cause == .cold) s t x) ∧
      t.screens = {
        recs := t.screens.recs, inReport := ⟨false, none, false⟩, saReport := ⟨false, none, false⟩
        sbReport := ⟨false, none, false⟩, storm := t.rain.storm, supply := t.supply.state, ramping := false } ∧
      ConditionsRestarted cause s t) ∧
  (∀ s : State,
      (s.power = .halted → exec .coldStart s = .next (restart .cold s) ∧
        exec .warmSupplyRestart s = .next (restart .warmSupply s)) ∧
      (s.power = .on → s.store.commit = none → exec .coldStart s = .next (restart .cold { s with power := .halted }) ∧
        exec .warmSupplyRestart s = .next (restart .warmSupply { s with power := .halted })))
end

