-- ==== Sys2Proof/Laws/State.lean ====
section
/-! SUPPORT. What each named update of the state leaves alone: one lemma per field per update. -/

namespace Sys2Proof.Machine

variable (s : State)

/-! ## setPump -/

@[simp] theorem setPump_power (b : Bay) (p : PumpRec) : (s.setPump b p).power = s.power := rfl
@[simp] theorem setPump_restartCause (b : Bay) (p : PumpRec) : (s.setPump b p).restartCause = s.restartCause := rfl
@[simp] theorem setPump_store (b : Bay) (p : PumpRec) : (s.setPump b p).store = s.store := rfl
@[simp] theorem setPump_clock (b : Bay) (p : PumpRec) : (s.setPump b p).clock = s.clock := rfl
@[simp] theorem setPump_contacts (b : Bay) (p : PumpRec) : (s.setPump b p).contacts = s.contacts := rfl
@[simp] theorem setPump_channels (b : Bay) (p : PumpRec) : (s.setPump b p).channels = s.channels := rfl
@[simp] theorem setPump_rain (b : Bay) (p : PumpRec) : (s.setPump b p).rain = s.rain := rfl
@[simp] theorem setPump_duty (b : Bay) (p : PumpRec) : (s.setPump b p).duty = s.duty := rfl
@[simp] theorem setPump_arbiter (b : Bay) (p : PumpRec) : (s.setPump b p).arbiter = s.arbiter := rfl
@[simp] theorem setPump_supply (b : Bay) (p : PumpRec) : (s.setPump b p).supply = s.supply := rfl
@[simp] theorem setPump_screens (b : Bay) (p : PumpRec) : (s.setPump b p).screens = s.screens := rfl
@[simp] theorem setPump_spill (b : Bay) (p : PumpRec) : (s.setPump b p).spill = s.spill := rfl
@[simp] theorem setPump_episodes (b : Bay) (p : PumpRec) : (s.setPump b p).episodes = s.episodes := rfl
@[simp] theorem setPump_conditions (b : Bay) (p : PumpRec) : (s.setPump b p).conditions = s.conditions := rfl
@[simp] theorem setPump_line (b : Bay) (p : PumpRec) : (s.setPump b p).line = s.line := rfl
@[simp] theorem setPump_authority (b : Bay) (p : PumpRec) : (s.setPump b p).authority = s.authority := rfl
@[simp] theorem setPump_inbox (b : Bay) (p : PumpRec) : (s.setPump b p).inbox = s.inbox := rfl
@[simp] theorem setPump_freeCount (b : Bay) (p : PumpRec) : (s.setPump b p).freeCount = s.freeCount := rfl
@[simp] theorem setPump_pending (b : Bay) (p : PumpRec) : (s.setPump b p).pending = s.pending := rfl

/-! ## modPump -/

@[simp] theorem modPump_power (b : Bay) (f : PumpRec → PumpRec) : (s.modPump b f).power = s.power := rfl
@[simp] theorem modPump_restartCause (b : Bay) (f : PumpRec → PumpRec) : (s.modPump b f).restartCause = s.restartCause := rfl
@[simp] theorem modPump_store (b : Bay) (f : PumpRec → PumpRec) : (s.modPump b f).store = s.store := rfl
@[simp] theorem modPump_clock (b : Bay) (f : PumpRec → PumpRec) : (s.modPump b f).clock = s.clock := rfl
@[simp] theorem modPump_contacts (b : Bay) (f : PumpRec → PumpRec) : (s.modPump b f).contacts = s.contacts := rfl
@[simp] theorem modPump_channels (b : Bay) (f : PumpRec → PumpRec) : (s.modPump b f).channels = s.channels := rfl
@[simp] theorem modPump_rain (b : Bay) (f : PumpRec → PumpRec) : (s.modPump b f).rain = s.rain := rfl
@[simp] theorem modPump_duty (b : Bay) (f : PumpRec → PumpRec) : (s.modPump b f).duty = s.duty := rfl
@[simp] theorem modPump_arbiter (b : Bay) (f : PumpRec → PumpRec) : (s.modPump b f).arbiter = s.arbiter := rfl
@[simp] theorem modPump_supply (b : Bay) (f : PumpRec → PumpRec) : (s.modPump b f).supply = s.supply := rfl
@[simp] theorem modPump_screens (b : Bay) (f : PumpRec → PumpRec) : (s.modPump b f).screens = s.screens := rfl
@[simp] theorem modPump_spill (b : Bay) (f : PumpRec → PumpRec) : (s.modPump b f).spill = s.spill := rfl
@[simp] theorem modPump_episodes (b : Bay) (f : PumpRec → PumpRec) : (s.modPump b f).episodes = s.episodes := rfl
@[simp] theorem modPump_conditions (b : Bay) (f : PumpRec → PumpRec) : (s.modPump b f).conditions = s.conditions := rfl
@[simp] theorem modPump_line (b : Bay) (f : PumpRec → PumpRec) : (s.modPump b f).line = s.line := rfl
@[simp] theorem modPump_authority (b : Bay) (f : PumpRec → PumpRec) : (s.modPump b f).authority = s.authority := rfl
@[simp] theorem modPump_inbox (b : Bay) (f : PumpRec → PumpRec) : (s.modPump b f).inbox = s.inbox := rfl
@[simp] theorem modPump_freeCount (b : Bay) (f : PumpRec → PumpRec) : (s.modPump b f).freeCount = s.freeCount := rfl
@[simp] theorem modPump_pending (b : Bay) (f : PumpRec → PumpRec) : (s.modPump b f).pending = s.pending := rfl

/-! ## setScreen -/

@[simp] theorem setScreen_power (x : Screen) (r : ScreenRec) : (s.setScreen x r).power = s.power := rfl
@[simp] theorem setScreen_restartCause (x : Screen) (r : ScreenRec) : (s.setScreen x r).restartCause = s.restartCause := rfl
@[simp] theorem setScreen_store (x : Screen) (r : ScreenRec) : (s.setScreen x r).store = s.store := rfl
@[simp] theorem setScreen_clock (x : Screen) (r : ScreenRec) : (s.setScreen x r).clock = s.clock := rfl
@[simp] theorem setScreen_contacts (x : Screen) (r : ScreenRec) : (s.setScreen x r).contacts = s.contacts := rfl
@[simp] theorem setScreen_channels (x : Screen) (r : ScreenRec) : (s.setScreen x r).channels = s.channels := rfl
@[simp] theorem setScreen_rain (x : Screen) (r : ScreenRec) : (s.setScreen x r).rain = s.rain := rfl
@[simp] theorem setScreen_roster (x : Screen) (r : ScreenRec) : (s.setScreen x r).roster = s.roster := rfl
@[simp] theorem setScreen_duty (x : Screen) (r : ScreenRec) : (s.setScreen x r).duty = s.duty := rfl
@[simp] theorem setScreen_arbiter (x : Screen) (r : ScreenRec) : (s.setScreen x r).arbiter = s.arbiter := rfl
@[simp] theorem setScreen_supply (x : Screen) (r : ScreenRec) : (s.setScreen x r).supply = s.supply := rfl
@[simp] theorem setScreen_spill (x : Screen) (r : ScreenRec) : (s.setScreen x r).spill = s.spill := rfl
@[simp] theorem setScreen_episodes (x : Screen) (r : ScreenRec) : (s.setScreen x r).episodes = s.episodes := rfl
@[simp] theorem setScreen_conditions (x : Screen) (r : ScreenRec) : (s.setScreen x r).conditions = s.conditions := rfl
@[simp] theorem setScreen_line (x : Screen) (r : ScreenRec) : (s.setScreen x r).line = s.line := rfl
@[simp] theorem setScreen_authority (x : Screen) (r : ScreenRec) : (s.setScreen x r).authority = s.authority := rfl
@[simp] theorem setScreen_inbox (x : Screen) (r : ScreenRec) : (s.setScreen x r).inbox = s.inbox := rfl
@[simp] theorem setScreen_freeCount (x : Screen) (r : ScreenRec) : (s.setScreen x r).freeCount = s.freeCount := rfl
@[simp] theorem setScreen_pending (x : Screen) (r : ScreenRec) : (s.setScreen x r).pending = s.pending := rfl

/-! ## modScreen -/

@[simp] theorem modScreen_power (x : Screen) (f : ScreenRec → ScreenRec) : (s.modScreen x f).power = s.power := rfl
@[simp] theorem modScreen_restartCause (x : Screen) (f : ScreenRec → ScreenRec) : (s.modScreen x f).restartCause = s.restartCause := rfl
@[simp] theorem modScreen_store (x : Screen) (f : ScreenRec → ScreenRec) : (s.modScreen x f).store = s.store := rfl
@[simp] theorem modScreen_clock (x : Screen) (f : ScreenRec → ScreenRec) : (s.modScreen x f).clock = s.clock := rfl
@[simp] theorem modScreen_contacts (x : Screen) (f : ScreenRec → ScreenRec) : (s.modScreen x f).contacts = s.contacts := rfl
@[simp] theorem modScreen_channels (x : Screen) (f : ScreenRec → ScreenRec) : (s.modScreen x f).channels = s.channels := rfl
@[simp] theorem modScreen_rain (x : Screen) (f : ScreenRec → ScreenRec) : (s.modScreen x f).rain = s.rain := rfl
@[simp] theorem modScreen_roster (x : Screen) (f : ScreenRec → ScreenRec) : (s.modScreen x f).roster = s.roster := rfl
@[simp] theorem modScreen_duty (x : Screen) (f : ScreenRec → ScreenRec) : (s.modScreen x f).duty = s.duty := rfl
@[simp] theorem modScreen_arbiter (x : Screen) (f : ScreenRec → ScreenRec) : (s.modScreen x f).arbiter = s.arbiter := rfl
@[simp] theorem modScreen_supply (x : Screen) (f : ScreenRec → ScreenRec) : (s.modScreen x f).supply = s.supply := rfl
@[simp] theorem modScreen_spill (x : Screen) (f : ScreenRec → ScreenRec) : (s.modScreen x f).spill = s.spill := rfl
@[simp] theorem modScreen_episodes (x : Screen) (f : ScreenRec → ScreenRec) : (s.modScreen x f).episodes = s.episodes := rfl
@[simp] theorem modScreen_conditions (x : Screen) (f : ScreenRec → ScreenRec) : (s.modScreen x f).conditions = s.conditions := rfl
@[simp] theorem modScreen_line (x : Screen) (f : ScreenRec → ScreenRec) : (s.modScreen x f).line = s.line := rfl
@[simp] theorem modScreen_authority (x : Screen) (f : ScreenRec → ScreenRec) : (s.modScreen x f).authority = s.authority := rfl
@[simp] theorem modScreen_inbox (x : Screen) (f : ScreenRec → ScreenRec) : (s.modScreen x f).inbox = s.inbox := rfl
@[simp] theorem modScreen_freeCount (x : Screen) (f : ScreenRec → ScreenRec) : (s.modScreen x f).freeCount = s.freeCount := rfl
@[simp] theorem modScreen_pending (x : Screen) (f : ScreenRec → ScreenRec) : (s.modScreen x f).pending = s.pending := rfl

/-! ## setChannel -/

@[simp] theorem setChannel_power (c : Channel) (r : ChannelRec) : (s.setChannel c r).power = s.power := rfl
@[simp] theorem setChannel_restartCause (c : Channel) (r : ChannelRec) : (s.setChannel c r).restartCause = s.restartCause := rfl
@[simp] theorem setChannel_store (c : Channel) (r : ChannelRec) : (s.setChannel c r).store = s.store := rfl
@[simp] theorem setChannel_clock (c : Channel) (r : ChannelRec) : (s.setChannel c r).clock = s.clock := rfl
@[simp] theorem setChannel_contacts (c : Channel) (r : ChannelRec) : (s.setChannel c r).contacts = s.contacts := rfl
@[simp] theorem setChannel_rain (c : Channel) (r : ChannelRec) : (s.setChannel c r).rain = s.rain := rfl
@[simp] theorem setChannel_roster (c : Channel) (r : ChannelRec) : (s.setChannel c r).roster = s.roster := rfl
@[simp] theorem setChannel_duty (c : Channel) (r : ChannelRec) : (s.setChannel c r).duty = s.duty := rfl
@[simp] theorem setChannel_arbiter (c : Channel) (r : ChannelRec) : (s.setChannel c r).arbiter = s.arbiter := rfl
@[simp] theorem setChannel_supply (c : Channel) (r : ChannelRec) : (s.setChannel c r).supply = s.supply := rfl
@[simp] theorem setChannel_screens (c : Channel) (r : ChannelRec) : (s.setChannel c r).screens = s.screens := rfl
@[simp] theorem setChannel_spill (c : Channel) (r : ChannelRec) : (s.setChannel c r).spill = s.spill := rfl
@[simp] theorem setChannel_episodes (c : Channel) (r : ChannelRec) : (s.setChannel c r).episodes = s.episodes := rfl
@[simp] theorem setChannel_conditions (c : Channel) (r : ChannelRec) : (s.setChannel c r).conditions = s.conditions := rfl
@[simp] theorem setChannel_line (c : Channel) (r : ChannelRec) : (s.setChannel c r).line = s.line := rfl
@[simp] theorem setChannel_authority (c : Channel) (r : ChannelRec) : (s.setChannel c r).authority = s.authority := rfl
@[simp] theorem setChannel_inbox (c : Channel) (r : ChannelRec) : (s.setChannel c r).inbox = s.inbox := rfl
@[simp] theorem setChannel_freeCount (c : Channel) (r : ChannelRec) : (s.setChannel c r).freeCount = s.freeCount := rfl
@[simp] theorem setChannel_pending (c : Channel) (r : ChannelRec) : (s.setChannel c r).pending = s.pending := rfl

/-! ## restartSample -/

@[simp] theorem restartSample_power (c : Channel) : (s.restartSample c).power = s.power := rfl
@[simp] theorem restartSample_restartCause (c : Channel) : (s.restartSample c).restartCause = s.restartCause := rfl
@[simp] theorem restartSample_store (c : Channel) : (s.restartSample c).store = s.store := rfl
@[simp] theorem restartSample_clock (c : Channel) : (s.restartSample c).clock = s.clock := rfl
@[simp] theorem restartSample_contacts (c : Channel) : (s.restartSample c).contacts = s.contacts := rfl
@[simp] theorem restartSample_rain (c : Channel) : (s.restartSample c).rain = s.rain := rfl
@[simp] theorem restartSample_roster (c : Channel) : (s.restartSample c).roster = s.roster := rfl
@[simp] theorem restartSample_duty (c : Channel) : (s.restartSample c).duty = s.duty := rfl
@[simp] theorem restartSample_arbiter (c : Channel) : (s.restartSample c).arbiter = s.arbiter := rfl
@[simp] theorem restartSample_supply (c : Channel) : (s.restartSample c).supply = s.supply := rfl
@[simp] theorem restartSample_screens (c : Channel) : (s.restartSample c).screens = s.screens := rfl
@[simp] theorem restartSample_spill (c : Channel) : (s.restartSample c).spill = s.spill := rfl
@[simp] theorem restartSample_episodes (c : Channel) : (s.restartSample c).episodes = s.episodes := rfl
@[simp] theorem restartSample_conditions (c : Channel) : (s.restartSample c).conditions = s.conditions := rfl
@[simp] theorem restartSample_line (c : Channel) : (s.restartSample c).line = s.line := rfl
@[simp] theorem restartSample_authority (c : Channel) : (s.restartSample c).authority = s.authority := rfl
@[simp] theorem restartSample_inbox (c : Channel) : (s.restartSample c).inbox = s.inbox := rfl
@[simp] theorem restartSample_freeCount (c : Channel) : (s.restartSample c).freeCount = s.freeCount := rfl
@[simp] theorem restartSample_pending (c : Channel) : (s.restartSample c).pending = s.pending := rfl

/-! ## post -/

@[simp] theorem post_power (n : Notice) : (s.post n).power = s.power := rfl
@[simp] theorem post_restartCause (n : Notice) : (s.post n).restartCause = s.restartCause := rfl
@[simp] theorem post_store (n : Notice) : (s.post n).store = s.store := rfl
@[simp] theorem post_clock (n : Notice) : (s.post n).clock = s.clock := rfl
@[simp] theorem post_contacts (n : Notice) : (s.post n).contacts = s.contacts := rfl
@[simp] theorem post_channels (n : Notice) : (s.post n).channels = s.channels := rfl
@[simp] theorem post_rain (n : Notice) : (s.post n).rain = s.rain := rfl
@[simp] theorem post_roster (n : Notice) : (s.post n).roster = s.roster := rfl
@[simp] theorem post_duty (n : Notice) : (s.post n).duty = s.duty := rfl
@[simp] theorem post_arbiter (n : Notice) : (s.post n).arbiter = s.arbiter := rfl
@[simp] theorem post_supply (n : Notice) : (s.post n).supply = s.supply := rfl
@[simp] theorem post_screens (n : Notice) : (s.post n).screens = s.screens := rfl
@[simp] theorem post_spill (n : Notice) : (s.post n).spill = s.spill := rfl
@[simp] theorem post_episodes (n : Notice) : (s.post n).episodes = s.episodes := rfl
@[simp] theorem post_conditions (n : Notice) : (s.post n).conditions = s.conditions := rfl
@[simp] theorem post_line (n : Notice) : (s.post n).line = s.line := rfl
@[simp] theorem post_authority (n : Notice) : (s.post n).authority = s.authority := rfl
@[simp] theorem post_freeCount (n : Notice) : (s.post n).freeCount = s.freeCount := rfl
@[simp] theorem post_pending (n : Notice) : (s.post n).pending = s.pending := rfl

/-! ## report -/

@[simp] theorem report_power (i : Source) (a : Bool) (d : Option Detail) : (s.report i a d).power = s.power := rfl
@[simp] theorem report_restartCause (i : Source) (a : Bool) (d : Option Detail) : (s.report i a d).restartCause = s.restartCause := rfl
@[simp] theorem report_store (i : Source) (a : Bool) (d : Option Detail) : (s.report i a d).store = s.store := rfl
@[simp] theorem report_clock (i : Source) (a : Bool) (d : Option Detail) : (s.report i a d).clock = s.clock := rfl
@[simp] theorem report_contacts (i : Source) (a : Bool) (d : Option Detail) : (s.report i a d).contacts = s.contacts := rfl
@[simp] theorem report_channels (i : Source) (a : Bool) (d : Option Detail) : (s.report i a d).channels = s.channels := rfl
@[simp] theorem report_rain (i : Source) (a : Bool) (d : Option Detail) : (s.report i a d).rain = s.rain := rfl
@[simp] theorem report_roster (i : Source) (a : Bool) (d : Option Detail) : (s.report i a d).roster = s.roster := rfl
@[simp] theorem report_duty (i : Source) (a : Bool) (d : Option Detail) : (s.report i a d).duty = s.duty := rfl
@[simp] theorem report_arbiter (i : Source) (a : Bool) (d : Option Detail) : (s.report i a d).arbiter = s.arbiter := rfl
@[simp] theorem report_supply (i : Source) (a : Bool) (d : Option Detail) : (s.report i a d).supply = s.supply := rfl
@[simp] theorem report_screens (i : Source) (a : Bool) (d : Option Detail) : (s.report i a d).screens = s.screens := rfl
@[simp] theorem report_spill (i : Source) (a : Bool) (d : Option Detail) : (s.report i a d).spill = s.spill := rfl
@[simp] theorem report_episodes (i : Source) (a : Bool) (d : Option Detail) : (s.report i a d).episodes = s.episodes := rfl
@[simp] theorem report_line (i : Source) (a : Bool) (d : Option Detail) : (s.report i a d).line = s.line := rfl
@[simp] theorem report_authority (i : Source) (a : Bool) (d : Option Detail) : (s.report i a d).authority = s.authority := rfl
@[simp] theorem report_inbox (i : Source) (a : Bool) (d : Option Detail) : (s.report i a d).inbox = s.inbox := rfl
@[simp] theorem report_freeCount (i : Source) (a : Bool) (d : Option Detail) : (s.report i a d).freeCount = s.freeCount := rfl
@[simp] theorem report_pending (i : Source) (a : Bool) (d : Option Detail) : (s.report i a d).pending = s.pending := rfl

/-! ## pulse -/

@[simp] theorem pulse_power (i : Source) (d : Option Detail) : (s.pulse i d).power = s.power := rfl
@[simp] theorem pulse_restartCause (i : Source) (d : Option Detail) : (s.pulse i d).restartCause = s.restartCause := rfl
@[simp] theorem pulse_store (i : Source) (d : Option Detail) : (s.pulse i d).store = s.store := rfl
@[simp] theorem pulse_clock (i : Source) (d : Option Detail) : (s.pulse i d).clock = s.clock := rfl
@[simp] theorem pulse_contacts (i : Source) (d : Option Detail) : (s.pulse i d).contacts = s.contacts := rfl
@[simp] theorem pulse_channels (i : Source) (d : Option Detail) : (s.pulse i d).channels = s.channels := rfl
@[simp] theorem pulse_rain (i : Source) (d : Option Detail) : (s.pulse i d).rain = s.rain := rfl
@[simp] theorem pulse_roster (i : Source) (d : Option Detail) : (s.pulse i d).roster = s.roster := rfl
@[simp] theorem pulse_duty (i : Source) (d : Option Detail) : (s.pulse i d).duty = s.duty := rfl
@[simp] theorem pulse_arbiter (i : Source) (d : Option Detail) : (s.pulse i d).arbiter = s.arbiter := rfl
@[simp] theorem pulse_supply (i : Source) (d : Option Detail) : (s.pulse i d).supply = s.supply := rfl
@[simp] theorem pulse_screens (i : Source) (d : Option Detail) : (s.pulse i d).screens = s.screens := rfl
@[simp] theorem pulse_spill (i : Source) (d : Option Detail) : (s.pulse i d).spill = s.spill := rfl
@[simp] theorem pulse_episodes (i : Source) (d : Option Detail) : (s.pulse i d).episodes = s.episodes := rfl
@[simp] theorem pulse_line (i : Source) (d : Option Detail) : (s.pulse i d).line = s.line := rfl
@[simp] theorem pulse_authority (i : Source) (d : Option Detail) : (s.pulse i d).authority = s.authority := rfl
@[simp] theorem pulse_inbox (i : Source) (d : Option Detail) : (s.pulse i d).inbox = s.inbox := rfl
@[simp] theorem pulse_freeCount (i : Source) (d : Option Detail) : (s.pulse i d).freeCount = s.freeCount := rfl
@[simp] theorem pulse_pending (i : Source) (d : Option Detail) : (s.pulse i d).pending = s.pending := rfl

/-! ## modCond -/

@[simp] theorem modCond_power (i : Source) (f : CondRec → CondRec) : (s.modCond i f).power = s.power := rfl
@[simp] theorem modCond_restartCause (i : Source) (f : CondRec → CondRec) : (s.modCond i f).restartCause = s.restartCause := rfl
@[simp] theorem modCond_store (i : Source) (f : CondRec → CondRec) : (s.modCond i f).store = s.store := rfl
@[simp] theorem modCond_clock (i : Source) (f : CondRec → CondRec) : (s.modCond i f).clock = s.clock := rfl
@[simp] theorem modCond_contacts (i : Source) (f : CondRec → CondRec) : (s.modCond i f).contacts = s.contacts := rfl
@[simp] theorem modCond_channels (i : Source) (f : CondRec → CondRec) : (s.modCond i f).channels = s.channels := rfl
@[simp] theorem modCond_rain (i : Source) (f : CondRec → CondRec) : (s.modCond i f).rain = s.rain := rfl
@[simp] theorem modCond_roster (i : Source) (f : CondRec → CondRec) : (s.modCond i f).roster = s.roster := rfl
@[simp] theorem modCond_duty (i : Source) (f : CondRec → CondRec) : (s.modCond i f).duty = s.duty := rfl
@[simp] theorem modCond_arbiter (i : Source) (f : CondRec → CondRec) : (s.modCond i f).arbiter = s.arbiter := rfl
@[simp] theorem modCond_supply (i : Source) (f : CondRec → CondRec) : (s.modCond i f).supply = s.supply := rfl
@[simp] theorem modCond_screens (i : Source) (f : CondRec → CondRec) : (s.modCond i f).screens = s.screens := rfl
@[simp] theorem modCond_spill (i : Source) (f : CondRec → CondRec) : (s.modCond i f).spill = s.spill := rfl
@[simp] theorem modCond_episodes (i : Source) (f : CondRec → CondRec) : (s.modCond i f).episodes = s.episodes := rfl
@[simp] theorem modCond_line (i : Source) (f : CondRec → CondRec) : (s.modCond i f).line = s.line := rfl
@[simp] theorem modCond_authority (i : Source) (f : CondRec → CondRec) : (s.modCond i f).authority = s.authority := rfl
@[simp] theorem modCond_inbox (i : Source) (f : CondRec → CondRec) : (s.modCond i f).inbox = s.inbox := rfl
@[simp] theorem modCond_freeCount (i : Source) (f : CondRec → CondRec) : (s.modCond i f).freeCount = s.freeCount := rfl
@[simp] theorem modCond_pending (i : Source) (f : CondRec → CondRec) : (s.modCond i f).pending = s.pending := rfl

/-! ## setEpisodes -/

@[simp] theorem setEpisodes_power (t : EpisodeTable) : (s.setEpisodes t).power = s.power := rfl
@[simp] theorem setEpisodes_restartCause (t : EpisodeTable) : (s.setEpisodes t).restartCause = s.restartCause := rfl
@[simp] theorem setEpisodes_store (t : EpisodeTable) : (s.setEpisodes t).store = s.store := rfl
@[simp] theorem setEpisodes_clock (t : EpisodeTable) : (s.setEpisodes t).clock = s.clock := rfl
@[simp] theorem setEpisodes_contacts (t : EpisodeTable) : (s.setEpisodes t).contacts = s.contacts := rfl
@[simp] theorem setEpisodes_channels (t : EpisodeTable) : (s.setEpisodes t).channels = s.channels := rfl
@[simp] theorem setEpisodes_rain (t : EpisodeTable) : (s.setEpisodes t).rain = s.rain := rfl
@[simp] theorem setEpisodes_roster (t : EpisodeTable) : (s.setEpisodes t).roster = s.roster := rfl
@[simp] theorem setEpisodes_duty (t : EpisodeTable) : (s.setEpisodes t).duty = s.duty := rfl
@[simp] theorem setEpisodes_arbiter (t : EpisodeTable) : (s.setEpisodes t).arbiter = s.arbiter := rfl
@[simp] theorem setEpisodes_supply (t : EpisodeTable) : (s.setEpisodes t).supply = s.supply := rfl
@[simp] theorem setEpisodes_screens (t : EpisodeTable) : (s.setEpisodes t).screens = s.screens := rfl
@[simp] theorem setEpisodes_spill (t : EpisodeTable) : (s.setEpisodes t).spill = s.spill := rfl
@[simp] theorem setEpisodes_conditions (t : EpisodeTable) : (s.setEpisodes t).conditions = s.conditions := rfl
@[simp] theorem setEpisodes_line (t : EpisodeTable) : (s.setEpisodes t).line = s.line := rfl
@[simp] theorem setEpisodes_authority (t : EpisodeTable) : (s.setEpisodes t).authority = s.authority := rfl
@[simp] theorem setEpisodes_inbox (t : EpisodeTable) : (s.setEpisodes t).inbox = s.inbox := rfl
@[simp] theorem setEpisodes_freeCount (t : EpisodeTable) : (s.setEpisodes t).freeCount = s.freeCount := rfl
@[simp] theorem setEpisodes_pending (t : EpisodeTable) : (s.setEpisodes t).pending = s.pending := rfl

/-! ## modPending -/

@[simp] theorem modPending_power (f : Tally → Tally) : (s.modPending f).power = s.power := rfl
@[simp] theorem modPending_restartCause (f : Tally → Tally) : (s.modPending f).restartCause = s.restartCause := rfl
@[simp] theorem modPending_store (f : Tally → Tally) : (s.modPending f).store = s.store := rfl
@[simp] theorem modPending_clock (f : Tally → Tally) : (s.modPending f).clock = s.clock := rfl
@[simp] theorem modPending_contacts (f : Tally → Tally) : (s.modPending f).contacts = s.contacts := rfl
@[simp] theorem modPending_channels (f : Tally → Tally) : (s.modPending f).channels = s.channels := rfl
@[simp] theorem modPending_rain (f : Tally → Tally) : (s.modPending f).rain = s.rain := rfl
@[simp] theorem modPending_roster (f : Tally → Tally) : (s.modPending f).roster = s.roster := rfl
@[simp] theorem modPending_duty (f : Tally → Tally) : (s.modPending f).duty = s.duty := rfl
@[simp] theorem modPending_arbiter (f : Tally → Tally) : (s.modPending f).arbiter = s.arbiter := rfl
@[simp] theorem modPending_supply (f : Tally → Tally) : (s.modPending f).supply = s.supply := rfl
@[simp] theorem modPending_screens (f : Tally → Tally) : (s.modPending f).screens = s.screens := rfl
@[simp] theorem modPending_episodes (f : Tally → Tally) : (s.modPending f).episodes = s.episodes := rfl
@[simp] theorem modPending_conditions (f : Tally → Tally) : (s.modPending f).conditions = s.conditions := rfl
@[simp] theorem modPending_line (f : Tally → Tally) : (s.modPending f).line = s.line := rfl
@[simp] theorem modPending_authority (f : Tally → Tally) : (s.modPending f).authority = s.authority := rfl
@[simp] theorem modPending_inbox (f : Tally → Tally) : (s.modPending f).inbox = s.inbox := rfl
@[simp] theorem modPending_freeCount (f : Tally → Tally) : (s.modPending f).freeCount = s.freeCount := rfl
@[simp] theorem modPending_pending (f : Tally → Tally) : (s.modPending f).pending = s.pending := rfl

/-! ## setOrder -/

@[simp] theorem setOrder_power (o : List Bay) : (s.setOrder o).power = s.power := rfl
@[simp] theorem setOrder_restartCause (o : List Bay) : (s.setOrder o).restartCause = s.restartCause := rfl
@[simp] theorem setOrder_store (o : List Bay) : (s.setOrder o).store = s.store := rfl
@[simp] theorem setOrder_clock (o : List Bay) : (s.setOrder o).clock = s.clock := rfl
@[simp] theorem setOrder_contacts (o : List Bay) : (s.setOrder o).contacts = s.contacts := rfl
@[simp] theorem setOrder_channels (o : List Bay) : (s.setOrder o).channels = s.channels := rfl
@[simp] theorem setOrder_rain (o : List Bay) : (s.setOrder o).rain = s.rain := rfl
@[simp] theorem setOrder_roster (o : List Bay) : (s.setOrder o).roster = s.roster := rfl
@[simp] theorem setOrder_arbiter (o : List Bay) : (s.setOrder o).arbiter = s.arbiter := rfl
@[simp] theorem setOrder_supply (o : List Bay) : (s.setOrder o).supply = s.supply := rfl
@[simp] theorem setOrder_screens (o : List Bay) : (s.setOrder o).screens = s.screens := rfl
@[simp] theorem setOrder_spill (o : List Bay) : (s.setOrder o).spill = s.spill := rfl
@[simp] theorem setOrder_episodes (o : List Bay) : (s.setOrder o).episodes = s.episodes := rfl
@[simp] theorem setOrder_conditions (o : List Bay) : (s.setOrder o).conditions = s.conditions := rfl
@[simp] theorem setOrder_line (o : List Bay) : (s.setOrder o).line = s.line := rfl
@[simp] theorem setOrder_authority (o : List Bay) : (s.setOrder o).authority = s.authority := rfl
@[simp] theorem setOrder_inbox (o : List Bay) : (s.setOrder o).inbox = s.inbox := rfl
@[simp] theorem setOrder_freeCount (o : List Bay) : (s.setOrder o).freeCount = s.freeCount := rfl
@[simp] theorem setOrder_pending (o : List Bay) : (s.setOrder o).pending = s.pending := rfl

/-! ## setLine -/

@[simp] theorem setLine_power (l : Line) : (s.setLine l).power = s.power := rfl
@[simp] theorem setLine_restartCause (l : Line) : (s.setLine l).restartCause = s.restartCause := rfl
@[simp] theorem setLine_store (l : Line) : (s.setLine l).store = s.store := rfl
@[simp] theorem setLine_clock (l : Line) : (s.setLine l).clock = s.clock := rfl
@[simp] theorem setLine_contacts (l : Line) : (s.setLine l).contacts = s.contacts := rfl
@[simp] theorem setLine_channels (l : Line) : (s.setLine l).channels = s.channels := rfl
@[simp] theorem setLine_rain (l : Line) : (s.setLine l).rain = s.rain := rfl
@[simp] theorem setLine_roster (l : Line) : (s.setLine l).roster = s.roster := rfl
@[simp] theorem setLine_duty (l : Line) : (s.setLine l).duty = s.duty := rfl
@[simp] theorem setLine_arbiter (l : Line) : (s.setLine l).arbiter = s.arbiter := rfl
@[simp] theorem setLine_supply (l : Line) : (s.setLine l).supply = s.supply := rfl
@[simp] theorem setLine_screens (l : Line) : (s.setLine l).screens = s.screens := rfl
@[simp] theorem setLine_spill (l : Line) : (s.setLine l).spill = s.spill := rfl
@[simp] theorem setLine_episodes (l : Line) : (s.setLine l).episodes = s.episodes := rfl
@[simp] theorem setLine_conditions (l : Line) : (s.setLine l).conditions = s.conditions := rfl
@[simp] theorem setLine_authority (l : Line) : (s.setLine l).authority = s.authority := rfl
@[simp] theorem setLine_inbox (l : Line) : (s.setLine l).inbox = s.inbox := rfl
@[simp] theorem setLine_freeCount (l : Line) : (s.setLine l).freeCount = s.freeCount := rfl
@[simp] theorem setLine_pending (l : Line) : (s.setLine l).pending = s.pending := rfl

/-! ## setAuthority -/

@[simp] theorem setAuthority_power (a : Authority) : (s.setAuthority a).power = s.power := rfl
@[simp] theorem setAuthority_restartCause (a : Authority) : (s.setAuthority a).restartCause = s.restartCause := rfl
@[simp] theorem setAuthority_store (a : Authority) : (s.setAuthority a).store = s.store := rfl
@[simp] theorem setAuthority_clock (a : Authority) : (s.setAuthority a).clock = s.clock := rfl
@[simp] theorem setAuthority_contacts (a : Authority) : (s.setAuthority a).contacts = s.contacts := rfl
@[simp] theorem setAuthority_channels (a : Authority) : (s.setAuthority a).channels = s.channels := rfl
@[simp] theorem setAuthority_rain (a : Authority) : (s.setAuthority a).rain = s.rain := rfl
@[simp] theorem setAuthority_roster (a : Authority) : (s.setAuthority a).roster = s.roster := rfl
@[simp] theorem setAuthority_duty (a : Authority) : (s.setAuthority a).duty = s.duty := rfl
@[simp] theorem setAuthority_arbiter (a : Authority) : (s.setAuthority a).arbiter = s.arbiter := rfl
@[simp] theorem setAuthority_supply (a : Authority) : (s.setAuthority a).supply = s.supply := rfl
@[simp] theorem setAuthority_screens (a : Authority) : (s.setAuthority a).screens = s.screens := rfl
@[simp] theorem setAuthority_spill (a : Authority) : (s.setAuthority a).spill = s.spill := rfl
@[simp] theorem setAuthority_episodes (a : Authority) : (s.setAuthority a).episodes = s.episodes := rfl
@[simp] theorem setAuthority_conditions (a : Authority) : (s.setAuthority a).conditions = s.conditions := rfl
@[simp] theorem setAuthority_line (a : Authority) : (s.setAuthority a).line = s.line := rfl
@[simp] theorem setAuthority_inbox (a : Authority) : (s.setAuthority a).inbox = s.inbox := rfl
@[simp] theorem setAuthority_freeCount (a : Authority) : (s.setAuthority a).freeCount = s.freeCount := rfl
@[simp] theorem setAuthority_pending (a : Authority) : (s.setAuthority a).pending = s.pending := rfl

/-! ## setItem -/

@[simp] theorem setItem_power (t i : Nat) (v : Int) : (s.setItem t i v).power = s.power := rfl
@[simp] theorem setItem_restartCause (t i : Nat) (v : Int) : (s.setItem t i v).restartCause = s.restartCause := rfl
@[simp] theorem setItem_clock (t i : Nat) (v : Int) : (s.setItem t i v).clock = s.clock := rfl
@[simp] theorem setItem_contacts (t i : Nat) (v : Int) : (s.setItem t i v).contacts = s.contacts := rfl
@[simp] theorem setItem_channels (t i : Nat) (v : Int) : (s.setItem t i v).channels = s.channels := rfl
@[simp] theorem setItem_rain (t i : Nat) (v : Int) : (s.setItem t i v).rain = s.rain := rfl
@[simp] theorem setItem_roster (t i : Nat) (v : Int) : (s.setItem t i v).roster = s.roster := rfl
@[simp] theorem setItem_duty (t i : Nat) (v : Int) : (s.setItem t i v).duty = s.duty := rfl
@[simp] theorem setItem_arbiter (t i : Nat) (v : Int) : (s.setItem t i v).arbiter = s.arbiter := rfl
@[simp] theorem setItem_supply (t i : Nat) (v : Int) : (s.setItem t i v).supply = s.supply := rfl
@[simp] theorem setItem_screens (t i : Nat) (v : Int) : (s.setItem t i v).screens = s.screens := rfl
@[simp] theorem setItem_spill (t i : Nat) (v : Int) : (s.setItem t i v).spill = s.spill := rfl
@[simp] theorem setItem_episodes (t i : Nat) (v : Int) : (s.setItem t i v).episodes = s.episodes := rfl
@[simp] theorem setItem_conditions (t i : Nat) (v : Int) : (s.setItem t i v).conditions = s.conditions := rfl
@[simp] theorem setItem_line (t i : Nat) (v : Int) : (s.setItem t i v).line = s.line := rfl
@[simp] theorem setItem_authority (t i : Nat) (v : Int) : (s.setItem t i v).authority = s.authority := rfl
@[simp] theorem setItem_inbox (t i : Nat) (v : Int) : (s.setItem t i v).inbox = s.inbox := rfl
@[simp] theorem setItem_freeCount (t i : Nat) (v : Int) : (s.setItem t i v).freeCount = s.freeCount := rfl
@[simp] theorem setItem_pending (t i : Nat) (v : Int) : (s.setItem t i v).pending = s.pending := rfl

/-! ## What the written fields become -/

@[simp] theorem post_inbox (n : Notice) : (s.post n).inbox = s.inbox ++ [n] := rfl
@[simp] theorem setLine_line (l : Line) : (s.setLine l).line = l := rfl
@[simp] theorem setAuthority_authority (a : Authority) : (s.setAuthority a).authority = a := rfl
@[simp] theorem setOrder_order (o : List Bay) : (s.setOrder o).duty.order = o := rfl
@[simp] theorem setEpisodes_attn (t : EpisodeTable) : (s.setEpisodes t).episodes.attn = episodeAttn t := rfl
@[simp] theorem setEpisodes_slots (t : EpisodeTable) : (s.setEpisodes t).episodes.slots = t.slots := rfl
@[simp] theorem setEpisodes_acc (t : EpisodeTable) : (s.setEpisodes t).episodes.acc = t.acc := rfl
@[simp] theorem setEpisodes_inProgress (t : EpisodeTable) : (s.setEpisodes t).episodes.inProgress = t.inProgress := rfl
@[simp] theorem setEpisodes_serialCounter (t : EpisodeTable) :
    (s.setEpisodes t).episodes.serialCounter = t.serialCounter := rfl
@[simp] theorem setPump_installed (b : Bay) (p : PumpRec) : (s.setPump b p).roster.installed = s.roster.installed := rfl
@[simp] theorem modPump_installed (b : Bay) (f : PumpRec → PumpRec) :
    (s.modPump b f).roster.installed = s.roster.installed := rfl

/-! ## Collections of a fixed size -/

@[simp] theorem PerBay.get_put_self {α : Type} (v : PerBay α) (b : Bay) (x : α) : (v.put b x).get b = x := by
  cases b <;> rfl

theorem PerBay.get_put_ne {α : Type} (v : PerBay α) {b c : Bay} (x : α) (h : c ≠ b) : (v.put b x).get c = v.get c := by
  cases b <;> cases c <;> first | rfl | exact absurd rfl h

@[simp] theorem PerBay.get_map {α β : Type} (f : α → β) (v : PerBay α) (b : Bay) : (v.map f).get b = f (v.get b) := by
  cases b <;> rfl

@[simp] theorem PerScreen.get_put_self {α : Type} (v : PerScreen α) (x : Screen) (y : α) : (v.put x y).get x = y := by
  cases x <;> rfl

theorem PerScreen.get_put_ne {α : Type} (v : PerScreen α) {x z : Screen} (y : α) (h : z ≠ x) :
    (v.put x y).get z = v.get z := by
  cases x <;> cases z <;> first | rfl | exact absurd rfl h

@[simp] theorem PerScreen.get_map {α β : Type} (f : α → β) (v : PerScreen α) (x : Screen) :
    (v.map f).get x = f (v.get x) := by
  cases x <;> rfl

@[simp] theorem PerChannel.get_put_self {α : Type} (v : PerChannel α) (c : Channel) (x : α) : (v.put c x).get c = x := by
  cases c <;> rfl

theorem PerChannel.get_put_ne {α : Type} (v : PerChannel α) {c d : Channel} (x : α) (h : d ≠ c) :
    (v.put c x).get d = v.get d := by
  cases c <;> cases d <;> first | rfl | exact absurd rfl h

@[simp] theorem PerChannel.get_map {α β : Type} (f : α → β) (v : PerChannel α) (c : Channel) :
    (v.map f).get c = f (v.get c) := by
  cases c <;> rfl

/-! ## Records read back -/

@[simp] theorem pump_setPump_self (b : Bay) (p : PumpRec) : (s.setPump b p).pump b = p := by
  simp [State.setPump, State.pump]

theorem pump_setPump_ne {b c : Bay} (p : PumpRec) (h : c ≠ b) : (s.setPump b p).pump c = s.pump c := by
  simp [State.setPump, State.pump, PerBay.get_put_ne _ _ h]

@[simp] theorem pump_modPump_self (b : Bay) (f : PumpRec → PumpRec) : (s.modPump b f).pump b = f (s.pump b) := by
  simp [State.modPump]

theorem pump_modPump_ne {b c : Bay} (f : PumpRec → PumpRec) (h : c ≠ b) : (s.modPump b f).pump c = s.pump c := by
  simp [State.modPump, pump_setPump_ne _ _ h]

@[simp] theorem screen_setScreen_self (x : Screen) (r : ScreenRec) : (s.setScreen x r).screen x = r := by
  simp [State.setScreen, State.screen]

theorem screen_setScreen_ne {x z : Screen} (r : ScreenRec) (h : z ≠ x) : (s.setScreen x r).screen z = s.screen z := by
  simp [State.setScreen, State.screen, PerScreen.get_put_ne _ _ h]

@[simp] theorem screen_modScreen_self (x : Screen) (f : ScreenRec → ScreenRec) :
    (s.modScreen x f).screen x = f (s.screen x) := by
  simp [State.modScreen]

theorem screen_modScreen_ne {x z : Screen} (f : ScreenRec → ScreenRec) (h : z ≠ x) :
    (s.modScreen x f).screen z = s.screen z := by
  simp [State.modScreen, screen_setScreen_ne _ _ h]

@[simp] theorem channel_setChannel_self (c : Channel) (r : ChannelRec) : (s.setChannel c r).channel c = r := by
  simp [State.setChannel, State.channel]

theorem channel_setChannel_ne {c d : Channel} (r : ChannelRec) (h : d ≠ c) :
    (s.setChannel c r).channel d = s.channel d := by
  simp [State.setChannel, State.channel, PerChannel.get_put_ne _ _ h]

@[simp] theorem pump_post (n : Notice) (b : Bay) : (s.post n).pump b = s.pump b := rfl
@[simp] theorem screen_post (n : Notice) (x : Screen) : (s.post n).screen x = s.screen x := rfl
@[simp] theorem pump_report (i : Source) (a : Bool) (d : Option Detail) (b : Bay) :
    (s.report i a d).pump b = s.pump b := rfl
@[simp] theorem screen_report (i : Source) (a : Bool) (d : Option Detail) (x : Screen) :
    (s.report i a d).screen x = s.screen x := rfl
@[simp] theorem screen_modPump (b : Bay) (f : PumpRec → PumpRec) (x : Screen) : (s.modPump b f).screen x = s.screen x := rfl
@[simp] theorem pump_modScreen (x : Screen) (f : ScreenRec → ScreenRec) (b : Bay) :
    (s.modScreen x f).pump b = s.pump b := rfl
@[simp] theorem feedback_post (n : Notice) (b : Bay) : (s.post n).feedback b = s.feedback b := rfl
@[simp] theorem closed_post (n : Notice) (w : Switch) : (s.post n).closed w = s.closed w := rfl
@[simp] theorem item_post (n : Notice) (t i : Nat) : (s.post n).item t i = s.item t i := rfl

/-! ## lateExpiry -/

@[simp] theorem lateExpiry_power : (lateExpiry s).power = s.power := rfl
@[simp] theorem lateExpiry_restartCause : (lateExpiry s).restartCause = s.restartCause := rfl
@[simp] theorem lateExpiry_store : (lateExpiry s).store = s.store := rfl
@[simp] theorem lateExpiry_clock : (lateExpiry s).clock = s.clock := rfl
@[simp] theorem lateExpiry_contacts : (lateExpiry s).contacts = s.contacts := rfl
@[simp] theorem lateExpiry_channels : (lateExpiry s).channels = s.channels := rfl
@[simp] theorem lateExpiry_roster : (lateExpiry s).roster = s.roster := rfl
@[simp] theorem lateExpiry_duty : (lateExpiry s).duty = s.duty := rfl
@[simp] theorem lateExpiry_arbiter : (lateExpiry s).arbiter = s.arbiter := rfl
@[simp] theorem lateExpiry_supply : (lateExpiry s).supply = s.supply := rfl
@[simp] theorem lateExpiry_screens : (lateExpiry s).screens = s.screens := rfl
@[simp] theorem lateExpiry_spill : (lateExpiry s).spill = s.spill := rfl
@[simp] theorem lateExpiry_episodes : (lateExpiry s).episodes = s.episodes := rfl
@[simp] theorem lateExpiry_conditions : (lateExpiry s).conditions = s.conditions := rfl
@[simp] theorem lateExpiry_line : (lateExpiry s).line = s.line := rfl
@[simp] theorem lateExpiry_authority : (lateExpiry s).authority = s.authority := rfl
@[simp] theorem lateExpiry_inbox : (lateExpiry s).inbox = s.inbox := rfl
@[simp] theorem lateExpiry_pending : (lateExpiry s).pending = s.pending := rfl
@[simp] theorem lateExpiry_rain_storm : (lateExpiry s).rain.storm = s.rain.storm := rfl
@[simp] theorem lateExpiry_rain_episodeFlag : (lateExpiry s).rain.episodeFlag = s.rain.episodeFlag := rfl
@[simp] theorem lateExpiry_rain_quiet : (lateExpiry s).rain.quiet = s.rain.quiet := rfl
@[simp] theorem lateExpiry_rain_openBin : (lateExpiry s).rain.openBin = s.rain.openBin := rfl
@[simp] theorem lateExpiry_rain_closedBins : (lateExpiry s).rain.closedBins = s.rain.closedBins := rfl
@[simp] theorem lateExpiry_rain_intensity : (lateExpiry s).rain.intensity = s.rain.intensity := rfl
@[simp] theorem lateExpiry_rain_total : (lateExpiry s).rain.total = s.rain.total := rfl
@[simp] theorem lateExpiry_rain_clearedAt : (lateExpiry s).rain.clearedAt = s.rain.clearedAt := rfl
@[simp] theorem lateExpiry_rain_minuteTimer : (lateExpiry s).rain.minuteTimer = s.rain.minuteTimer := rfl
@[simp] theorem lateExpiry_rain_dryTimer : (lateExpiry s).rain.dryTimer = s.rain.dryTimer := rfl
@[simp] theorem lateExpiry_rain_bounceTimer : (lateExpiry s).rain.bounceTimer = s.rain.bounceTimer := rfl
@[simp] theorem lateExpiry_rain_dryRestarted : (lateExpiry s).rain.dryRestarted = false := rfl

/-! ## countTip -/

@[simp] theorem Rain.countTip_storm (n : Nat) (r : Rain) : (r.countTip n).storm = r.storm := rfl
@[simp] theorem Rain.countTip_episodeFlag (n : Nat) (r : Rain) : (r.countTip n).episodeFlag = r.episodeFlag := rfl
@[simp] theorem Rain.countTip_quiet (n : Nat) (r : Rain) : (r.countTip n).quiet = r.quiet := rfl
@[simp] theorem Rain.countTip_closedBins (n : Nat) (r : Rain) : (r.countTip n).closedBins = r.closedBins := rfl
@[simp] theorem Rain.countTip_intensity (n : Nat) (r : Rain) : (r.countTip n).intensity = r.intensity := rfl
@[simp] theorem Rain.countTip_clearedAt (n : Nat) (r : Rain) : (r.countTip n).clearedAt = r.clearedAt := rfl
@[simp] theorem Rain.countTip_minuteTimer (n : Nat) (r : Rain) : (r.countTip n).minuteTimer = r.minuteTimer := rfl
@[simp] theorem Rain.countTip_dryTimer (n : Nat) (r : Rain) : (r.countTip n).dryTimer = some (minutes n) := rfl
@[simp] theorem Rain.countTip_bounceTimer (n : Nat) (r : Rain) : (r.countTip n).bounceTimer = some 250 := rfl
@[simp] theorem Rain.countTip_dryRestarted (n : Nat) (r : Rain) : (r.countTip n).dryRestarted = r.dryTimer.isSome := rfl
@[simp] theorem Rain.countTip_openBin (n : Nat) (r : Rain) : (r.countTip n).openBin = satAdd 255 r.openBin 1 := rfl
@[simp] theorem Rain.countTip_total (n : Nat) (r : Rain) : (r.countTip n).total = satAdd 4294967295 r.total 1 := rfl

/-- An expiry is behind a counted tip exactly where the tip found the dry timer running (R37, log 34). -/
@[simp] theorem Rain.countTip_tippedFirst (n : Nat) (r : Rain) : (r.countTip n).tippedFirst = r.dryTimer.isSome := by
  simp [Rain.tippedFirst]

/-! ## A command's guard -/

/-- A command that acts only with supply, on a part that has it. -/
theorem powered_on (f : State → State) (h : s.power = .on) : powered f s = .next (f s) := by simp [powered, h]

/-- A command that acts only with supply, on a halted part (R199). -/
theorem powered_halted (f : State → State) (h : s.power = .halted) : powered f s = .next s := by simp [powered, h]

/-- Such a command always answers a next state. -/
theorem powered_next (f : State → State) : ∃ t, powered f s = .next t := ⟨_, rfl⟩

end Sys2Proof.Machine
end

