-- ==== Sys2Proof/Laws/Settling.lean ====
section
/-! SUPPORT. What the pumping and screen operations, and the settling of a step, leave alone: everything but the Pump
Roster, the Duty Controller, the Starter Arbiter, the Screen Controller, the Condition Table and the notices. -/

namespace Sys2Proof.Machine

variable (s : State)

/-! ## Folds -/

/-- A fold of operations that each leave a view of the state alone leaves it alone. -/
theorem foldl_view {α β : Type} (view : State → β) (f : State → α → State) (h : ∀ t a, view (f t a) = view t) (l : List α) :
    ∀ s, view (l.foldl f s) = view s := by
  induction l with
  | nil => intro s; rfl
  | cons a l ih => intro s; rw [List.foldl_cons, ih, h]

/-- A change for each bay that leaves a view alone each time leaves it alone. -/
theorem forBays_view {β : Type} (view : State → β) (f : Bay → State → State) (h : ∀ b t, view (f b t) = view t) :
    view (forBays f s) = view s := foldl_view view _ (fun t b => h b t) _ s

/-- A change for both screens that leaves a view alone each time leaves it alone. -/
theorem forScreens_view {β : Type} (view : State → β) (f : Screen → State → State) (h : ∀ x t, view (f x t) = view t) :
    view (forScreens f s) = view s := by rw [forScreens, h, h]

/-! ## Named updates -/

@[simp] theorem setPump_plant (b : Bay) (p : PumpRec) : (s.setPump b p).plant = s.plant := rfl
@[simp] theorem modPump_plant (b : Bay) (f : PumpRec → PumpRec) : (s.modPump b f).plant = s.plant := rfl
@[simp] theorem setScreen_plant (x : Screen) (r : ScreenRec) : (s.setScreen x r).plant = s.plant := rfl
@[simp] theorem modScreen_plant (x : Screen) (f : ScreenRec → ScreenRec) : (s.modScreen x f).plant = s.plant := rfl
@[simp] theorem post_plant (n : Notice) : (s.post n).plant = s.plant := rfl
@[simp] theorem report_plant (i : Source) (a : Bool) (d : Option Detail) : (s.report i a d).plant = s.plant := rfl
@[simp] theorem pulse_plant (i : Source) (d : Option Detail) : (s.pulse i d).plant = s.plant := rfl
@[simp] theorem setOrder_plant (o : List Bay) : (s.setOrder o).plant = s.plant := rfl

@[simp] theorem withRoster_plant (r : Roster) : ({ s with roster := r } : State).plant = s.plant := rfl
@[simp] theorem withDuty_plant (d : Duty) : ({ s with duty := d } : State).plant = s.plant := rfl
@[simp] theorem withArbiter_plant (a : Arbiter) : ({ s with arbiter := a } : State).plant = s.plant := rfl
@[simp] theorem withScreens_plant (x : Screens) : ({ s with screens := x } : State).plant = s.plant := rfl
@[simp] theorem withInbox_plant (l : List Notice) : ({ s with inbox := l } : State).plant = s.plant := rfl

/-! ## The Screen Controller -/

@[simp] theorem jamScreen_plant (x : Screen) (w : JamReason) : (jamScreen x w s).plant = s.plant := rfl
@[simp] theorem overloadInRising_plant (x : Screen) : (overloadInRising x s).plant = s.plant := by
  unfold overloadInRising; split <;> simp
@[simp] theorem topReached_plant (x : Screen) : (topReached x s).plant = s.plant := rfl
@[simp] theorem judgeRise_plant (x : Screen) : (judgeRise x s).plant = s.plant := by
  unfold judgeRise; split <;> [simp; (split <;> simp)]
@[simp] theorem startCycle_plant (x : Screen) : (startCycle x s).plant = s.plant := by simp [startCycle]
@[simp] theorem startTest_plant (x : Screen) : (startTest x s).plant = s.plant := by unfold startTest; split <;> simp
@[simp] theorem trigger_plant (x : Screen) : (trigger x s).plant = s.plant := by
  unfold trigger; split <;> [(split <;> simp); rfl]
@[simp] theorem returnToRest_plant (x : Screen) : (returnToRest x s).plant = s.plant := by
  unfold returnToRest; split <;> [simp; (dsimp only; split <;> simp)]
@[simp] theorem enterHoming_plant (x : Screen) : (enterHoming x s).plant = s.plant := by
  unfold enterHoming; split <;> [simp; (split <;> simp)]
@[simp] theorem clearJam_plant (x : Screen) : (clearJam x s).plant = s.plant := by simp [clearJam]
@[simp] theorem topMade_plant (x : Screen) : (topMade x s).plant = s.plant := by unfold topMade; split <;> simp
@[simp] theorem homeMade_plant (x : Screen) : (homeMade x s).plant = s.plant := by
  unfold homeMade; split <;> [(split <;> simp); rfl]
@[simp] theorem rakeTrip_plant (x : Screen) : (rakeTrip x s).plant = s.plant := by unfold rakeTrip; split <;> simp
@[simp] theorem strokeExpired_plant (x : Screen) : (strokeExpired x s).plant = s.plant := by
  unfold strokeExpired; dsimp only; split <;> simp
@[simp] theorem clearExpired_plant (x : Screen) : (clearExpired x s).plant = s.plant := by
  unfold clearExpired; dsimp only; split <;> simp
@[simp] theorem intervalExpired_plant (x : Screen) : (intervalExpired x s).plant = s.plant := by simp [intervalExpired]
@[simp] theorem stallScreen_plant (x : Screen) : (stallScreen x s).plant = s.plant := by
  unfold stallScreen; split <;> simp
@[simp] theorem retest_plant (x : Screen) : (retest x s).plant = s.plant := by unfold retest; split <;> simp
@[simp] theorem screensLoseSupply_plant : (screensLoseSupply s).plant = s.plant := by
  rw [screensLoseSupply, forScreens_view _ State.plant _ fun x t => stallScreen_plant t x]; rfl
@[simp] theorem homeStalled_plant (x : Screen) : (homeStalled x s).plant = s.plant := by
  unfold homeStalled; split <;> simp
@[simp] theorem forScreens_retest_plant : (forScreens retest s).plant = s.plant :=
  forScreens_view s State.plant _ fun x t => retest_plant t x
@[simp] theorem forScreens_homeStalled_plant : (forScreens homeStalled s).plant = s.plant :=
  forScreens_view s State.plant _ fun x t => homeStalled_plant t x
@[simp] theorem screensGainSupply_plant (n : SupplyState) : (screensGainSupply n s).plant = s.plant := by
  unfold screensGainSupply; dsimp only; repeat' split
  all_goals first | rfl | simp | (simp; rfl)
@[simp] theorem screensRamping_plant (on : Bool) : (screensRamping on s).plant = s.plant := by
  unfold screensRamping; cases on <;> simp <;> rfl
@[simp] theorem rereadInterval_plant (x : Screen) : (rereadInterval x s).plant = s.plant := by
  unfold rereadInterval; split <;> [(dsimp only; split <;> [simp; (split <;> simp)]); rfl]
@[simp] theorem screensStorm_plant (n : StormState) : (screensStorm n s).plant = s.plant := by
  unfold screensStorm; dsimp only; split
  · rw [forScreens_view _ State.plant _ fun x t => rereadInterval_plant t x]; rfl
  · rfl
@[simp] theorem screenSelectorChange_plant (x : Screen) (a : Bool) : (screenSelectorChange x a s).plant = s.plant := by
  unfold screenSelectorChange; dsimp only; repeat' split
  all_goals simp
@[simp] theorem updateDifferential_plant (a : Bool) (x : Screen) : (updateDifferential a x s).plant = s.plant := by
  unfold updateDifferential; dsimp only; repeat' split
  all_goals simp
@[simp] theorem screensReport_plant (c : Channel) (r : ChannelReport) : (screensReport c r s).plant = s.plant := by
  unfold screensReport; split
  · rfl
  · rw [forScreens_view _ State.plant _ fun x t => updateDifferential_plant t r.accepted x]; rfl
  · simp
  · simp
@[simp] theorem inhibitOn_plant (x : Screen) : (inhibitOn x s).plant = s.plant := rfl
@[simp] theorem inhibitOff_plant (x : Screen) : (inhibitOff x s).plant = s.plant := by
  unfold inhibitOff; dsimp only; repeat' split
  all_goals simp

/-! ## The Roster and the Arbiter -/

@[simp] theorem letGo_plant (st : StarterState) : (letGo st s).plant = s.plant := rfl
@[simp] theorem enterGap_plant : (enterGap s).plant = s.plant := rfl
@[simp] theorem abortRamp_plant (b : Bay) : (abortRamp b s).plant = s.plant := by unfold abortRamp; split <;> simp
@[simp] theorem dequeue_plant (b : Bay) : (dequeue b s).plant = s.plant := rfl
@[simp] theorem enterState_plant (b : Bay) (st : PumpState) : (enterState b st s).plant = s.plant := by
  unfold enterState; dsimp only; split <;> [rfl; (split <;> simp)]
@[simp] theorem depart_plant (b : Bay) : (depart b s).plant = s.plant := by unfold depart; split <;> simp
@[simp] theorem goResting_plant (b : Bay) : (goResting b s).plant = s.plant := by simp [goResting]
@[simp] theorem goIdle_plant (b : Bay) : (goIdle b s).plant = s.plant := by simp [goIdle]
@[simp] theorem goUnavailable_plant (b : Bay) : (goUnavailable b s).plant = s.plant := by simp [goUnavailable]
@[simp] theorem stopConfirmed_plant (b : Bay) : (stopConfirmed b s).plant = s.plant := by
  unfold stopConfirmed; split <;> simp
@[simp] theorem goStopping_plant (b : Bay) : (goStopping b s).plant = s.plant := by
  unfold goStopping; dsimp only; split <;> simp
@[simp] theorem lockOut_plant (b : Bay) (w : LockoutReason) : (lockOut b w s).plant = s.plant := by simp [lockOut]
@[simp] theorem releaseLockout_plant (b : Bay) : (releaseLockout b s).plant = s.plant := by
  unfold releaseLockout; dsimp only; split <;> simp
@[simp] theorem setStartLimited_plant (b : Bay) (on : Bool) : (setStartLimited b on s).plant = s.plant := by
  unfold setStartLimited; dsimp only; split <;> [rfl; (split <;> simp)]
@[simp] theorem judgeStartLimited_plant (b : Bay) : (judgeStartLimited b s).plant = s.plant := by
  simp [judgeStartLimited]
@[simp] theorem takeGrant_plant (b : Bay) (q : List Bay) : (takeGrant b q s).plant = s.plant := by
  unfold takeGrant; dsimp only; rw [screensRamping_plant]; exact enterState_plant s b .starting
@[simp] theorem declineGrant_plant (b : Bay) (q : List Bay) : (declineGrant b q s).plant = s.plant := by
  simp [declineGrant]
@[simp] theorem grantFrom_plant (q : List Bay) : ∀ s, (grantFrom q s).plant = s.plant := by
  induction q with
  | nil => intro s; rfl
  | cons b q ih =>
    intro s; unfold grantFrom; split
    · split
      · split <;> simp [ih]
      · rw [ih]; rfl
    · rfl
@[simp] theorem grantTest_plant : (grantTest s).plant = s.plant := by simp [grantTest]
@[simp] theorem queueOne_plant (b : Bay) : (queueOne b s).plant = s.plant := by
  unfold queueOne; split
  · split
    · simp
    · rw [grantTest_plant]; exact enterState_plant s b _
  · rfl
@[simp] theorem queueTest_plant : (queueTest s).plant = s.plant :=
  foldl_view State.plant _ (fun t b => queueOne_plant t b) _ s
@[simp] theorem reportStarter_plant : (reportStarter s).plant = s.plant := by
  unfold reportStarter; split <;> exact report_plant s _ _ _
@[simp] theorem enterFaulted_plant : (enterFaulted s).plant = s.plant := by
  unfold enterFaulted; dsimp only; repeat' split
  all_goals first | rfl | simp
@[simp] theorem leaveFaulted_plant : (leaveFaulted s).plant = s.plant := by
  unfold leaveFaulted; dsimp only; split <;> simp
@[simp] theorem judgeStarter_plant : (judgeStarter s).plant = s.plant := by
  unfold judgeStarter; try dsimp only
  repeat' split
  all_goals first | rfl | simp
@[simp] theorem arbiterGate_plant (st : SupplyState) (r : Bool) : (arbiterGate st r s).plant = s.plant := by
  simp [arbiterGate]
@[simp] theorem arbiterLosesSupply_plant : (arbiterLosesSupply s).plant = s.plant := by
  unfold arbiterLosesSupply; dsimp only; repeat' split
  all_goals simp
@[simp] theorem leaveUnavailable_plant (b : Bay) : (leaveUnavailable b s).plant = s.plant := by
  unfold leaveUnavailable; split <;> [simp; (split <;> simp)]
@[simp] theorem setForced_plant (b : Bay) (f : Forced) : (setForced b f s).plant = s.plant := by
  unfold setForced; dsimp only; split <;> simp
@[simp] theorem handChange_plant (b : Bay) (w : Bool) : (handChange b w s).plant = s.plant := by
  unfold handChange; split <;> simp
@[simp] theorem selectorOffAuto_plant (b : Bay) (p : Selector) : (selectorOffAuto b p s).plant = s.plant := by
  unfold selectorOffAuto; repeat' split
  all_goals simp
@[simp] theorem selectorToAuto_plant (b : Bay) : (selectorToAuto b s).plant = s.plant := by
  unfold selectorToAuto; dsimp only; repeat' split
  all_goals simp
@[simp] theorem selectorChange_plant (b : Bay) (p : Selector) : (selectorChange b p s).plant = s.plant := by
  unfold selectorChange; dsimp only; repeat' split
  all_goals simp
@[simp] theorem feedbackChange_plant (b : Bay) (on : Bool) : (feedbackChange b on s).plant = s.plant := by
  unfold feedbackChange; dsimp only; rw [handChange_plant]; repeat' split
  all_goals simp
@[simp] theorem overloadTrip_plant (b : Bay) : (overloadTrip b s).plant = s.plant := by
  unfold overloadTrip; split <;> simp
@[simp] theorem sealChange_plant (b : Bay) (l : Bool) : (sealChange b l s).plant = s.plant := by
  unfold sealChange; dsimp only; split <;> simp
@[simp] theorem unwanted_plant (b : Bay) : (unwanted b s).plant = s.plant := by
  unfold unwanted; repeat' split
  all_goals simp
@[simp] theorem changeoverStop_plant (b : Bay) : (changeoverStop b s).plant = s.plant := by
  unfold changeoverStop; split <;> simp
@[simp] theorem takeWanted_plant (c u w : List Bay) : (takeWanted c u w s).plant = s.plant := by
  unfold takeWanted; dsimp only
  rw [queueTest_plant, forBays_view _ State.plant, forBays_view _ State.plant]
  · rfl
  · intro b t; split <;> simp
  · intro b t; split <;> simp
@[simp] theorem cutoffPump_plant (b : Bay) : (cutoffPump b s).plant = s.plant := by unfold cutoffPump; split <;> simp
@[simp] theorem shedPump_plant (b : Bay) : (shedPump b s).plant = s.plant := by unfold shedPump; split <;> simp
@[simp] theorem losePump_plant (b : Bay) : (losePump b s).plant = s.plant := by
  unfold losePump; dsimp only; split <;> simp
@[simp] theorem shedToLimit_plant (n : Nat) : ∀ s, (shedToLimit n s).plant = s.plant := by
  induction n with
  | zero => intro s; rfl
  | succ n ih => intro s; unfold shedToLimit; repeat' split
                 all_goals simp [ih]
@[simp] theorem withdrawExcess_plant (n : Nat) : ∀ s, (withdrawExcess n s).plant = s.plant := by
  induction n with
  | zero => intro s; rfl
  | succ n ih => intro s; unfold withdrawExcess; repeat' split
                 all_goals simp [ih]

/-! ## The Duty Controller -/

@[simp] theorem updateMembership_plant (b : Bay) (w n : PumpState) : (updateMembership b w n s).plant = s.plant := by
  unfold updateMembership; repeat' split
  all_goals simp
@[simp] theorem reclass_plant (b : Bay) : (reclass b s).plant = s.plant := by unfold reclass; split <;> simp
@[simp] theorem setChangeover_plant (b : Bay) (t : Timer) : (setChangeover b t s).plant = s.plant := rfl
@[simp] theorem setReplaced_plant (b : Bay) (on : Bool) : (setReplaced b on s).plant = s.plant := rfl
@[simp] theorem setDue_plant (b : Bay) (on : Bool) : (setDue b on s).plant = s.plant := rfl
@[simp] theorem enteredRunning_plant (b : Bay) : (enteredRunning b s).plant = s.plant := by
  have h : ∀ t : State, (forBays (fun c s => if (s.pump c).changeoverDue then setReplaced c true s else s) t).plant
      = t.plant := fun t => forBays_view t State.plant _ fun c u => by split <;> simp
  unfold enteredRunning; dsimp only; split <;> split <;> simp [h]
@[simp] theorem leftRunning_plant (b : Bay) : (leftRunning b s).plant = s.plant := rfl
@[simp] theorem forcedChanged_plant (b : Bay) (w n : Forced) : (forcedChanged b w n s).plant = s.plant := by
  unfold forcedChanged; repeat' split
  all_goals simp
@[simp] theorem ownEffect_plant (n : Notice) : (ownEffect n s).plant = s.plant := by
  unfold ownEffect; split <;> try (first | rfl | simp; done | (dsimp only; split <;> simp; done))
  · repeat' split
    all_goals simp
  · exact forBays_view s State.plant _ fun b t => forcedChanged_plant t b _ _
@[simp] theorem levelStep_plant (r : ChannelReport) : (levelStep r s).plant = s.plant := by
  unfold levelStep; repeat' split
  all_goals rfl
@[simp] theorem rotate_plant : (rotate s).plant = s.plant := by
  unfold rotate; try dsimp only
  repeat' split
  all_goals rfl
@[simp] theorem dropDue_plant (b : Bay) : (dropDue b s).plant = s.plant := rfl
@[simp] theorem cutoffNotice_plant (n : Notice) : (cutoffNotice n s).plant = s.plant := by
  unfold cutoffNotice; repeat' split
  all_goals first
    | rfl
    | simp
    | exact forBays_view s State.plant _ fun b t => cutoffPump_plant t b
@[simp] theorem handOver_plant (n : Notice) : (handOver n s).plant = s.plant := by
  unfold handOver
  rw [takeWanted_plant, cutoffNotice_plant, foldl_view State.plant _ fun t b => dropDue_plant t b]
@[simp] theorem settleStage_plant (n : Notice) (d : Nat) : (settleStage n d s).plant = s.plant := by
  unfold settleStage; repeat' split
  all_goals first | rfl | exact levelStep_plant s _
@[simp] theorem evaluate_plant (n : Notice) : (evaluate n s).plant = s.plant := by simp [evaluate]
@[simp] theorem deliver_plant (n : Notice) : (deliver n s).plant = s.plant := by unfold deliver; split <;> simp
@[simp] theorem settleWithin_plant (k : Nat) : ∀ s, (settleWithin k s).plant = s.plant := by
  induction k with
  | zero => intro s; rfl
  | succ k ih =>
    intro s; unfold settleWithin; split
    · rfl
    · rw [ih, deliver_plant]; rfl

/-- What settling leaves alone: everything no notice reaches. -/
@[simp] theorem settle_plant : (settle s).plant = s.plant := by simp [settle]

/-- A step with no notice to take settles at once. -/
theorem settle_quiet (h : s.inbox = []) : settle s = s := by
  unfold settle settleBound settleWithin; rw [h]

end Sys2Proof.Machine
end

