-- ==== Sys2Proof/Laws/Requests.lean ====
section
/-! SUPPORT. What a request does at the line: the frame heard, the authority spent, the reply built. -/

namespace Sys2Proof.Machine

variable (s : State)

/-! ## Replies -/

/-- A character as a sender makes it is good (R174). -/
@[simp] theorem good_make (d : Byte) (mark : Bool) : (Character.make d mark).good = true := by
  revert d mark; decide +kernel

/-- A run of characters to the master's address is one that the line is sent (R174, R186). -/
theorem sent_run (data : List Byte) : Sent (Character.run (byte 254) data) :=
  ⟨_, _, rfl, rfl, rfl, by simp [Character.make], by simp [Character.run]⟩

/-- The header of a reply, as replyChars gives it. -/
theorem replyBody_eq (code : Nat) (st : Status) (p : List Byte) : replyBody s code st p = s.replyChars code st p := by
  unfold replyBody State.replyChars State.attnByte State.shownChallenge
  congr 2
  · simp only [bitsToNat]
    cases s.conditions.attn <;> cases s.episodes.attn <;> cases s.line.latch <;> simp
  · cases s.authority.state <;> simp

/-- TURNAROUND is entered with the reply built from the settled state. -/
theorem enterTurnaround_settled (code : Nat) (a : Answer) :
    enterTurnaround code a = (settle a.state).replying code a.status a.payload := by
  simp only [enterTurnaround, replyFrame, replyBody_eq]; rfl

/-- An answer that leaves no notice is replied to as it stands. -/
theorem enterTurnaround_quiet (code : Nat) (a : Answer) (h : a.state.inbox = []) :
    enterTurnaround code a = a.state.replying code a.status a.payload := by
  rw [enterTurnaround_settled, settle_quiet _ h]

/-! ## Hearing -/

@[simp] theorem heard_inbox : s.heard.inbox = s.inbox := rfl
@[simp] theorem heard_power : s.heard.power = s.power := rfl
@[simp] theorem heard_authority : s.heard.authority = s.authority := rfl
@[simp] theorem heard_clock : s.heard.clock = s.clock := rfl
@[simp] theorem heard_store : s.heard.store = s.store := rfl
@[simp] theorem heard_rain : s.heard.rain = s.rain := rfl
@[simp] theorem heard_channels : s.heard.channels = s.channels := rfl
@[simp] theorem heard_roster : s.heard.roster = s.roster := rfl
@[simp] theorem heard_screens : s.heard.screens = s.screens := rfl
@[simp] theorem heard_episodes : s.heard.episodes = s.episodes := rfl
@[simp] theorem heard_contacts : s.heard.contacts = s.contacts := rfl
@[simp] theorem heard_address : s.heard.line.address = s.line.address := rfl
@[simp] theorem heard_item (t i : Nat) : s.heard.item t i = s.item t i := rfl
@[simp] theorem heard_itemNat (t i : Nat) : s.heard.itemNat t i = s.itemNat t i := rfl
@[simp] theorem heard_pump (b : Bay) : s.heard.pump b = s.pump b := rfl
@[simp] theorem heard_screen (x : Screen) : s.heard.screen x = s.screen x := rfl
@[simp] theorem heard_channel (c : Channel) : s.heard.channel c = s.channel c := rfl
@[simp] theorem spent_inbox : s.spent.inbox = s.inbox := rfl
@[simp] theorem spent_pump (b : Bay) : s.spent.pump b = s.pump b := rfl
@[simp] theorem spent_screen (x : Screen) : s.spent.screen x = s.screen x := rfl
@[simp] theorem spent_channel (c : Channel) : s.spent.channel c = s.channel c := rfl
@[simp] theorem spent_item (t i : Nat) : s.spent.item t i = s.item t i := rfl
@[simp] theorem spent_store : s.spent.store = s.store := rfl
@[simp] theorem spent_contacts : s.spent.contacts = s.contacts := rfl
@[simp] theorem spent_cond (i : Source) : s.spent.cond i = s.cond i := rfl

/-- What a receiver that listens leaves when the frame is valid. -/
theorem validFrame_heard (h : s.line.receiver = .waiting) :
    validFrame (addressCharacter s.line.address s) = s.heard := by
  unfold addressCharacter; rw [h]; simp only [hearAddress, if_true]; rfl

/-- The receiver listens after the address character. -/
theorem addressCharacter_receiving (h : s.line.receiver = .waiting) :
    (addressCharacter s.line.address s).line.receiver = .receiving := by
  unfold addressCharacter; rw [h]; simp [hearAddress, beginFrame]

/-- A request of a part that is ready is answered by its owner from the state heard. -/
theorem addressed_ready (code : Nat) (act : State → Answer) (h : s.ready) :
    addressed code act s = .next (enterTurnaround code (act s.heard)) := by
  obtain ⟨⟨hp, -⟩, hr⟩ := h
  simp only [addressed, powered, hp, if_true, addressCharacter_receiving s hr, answerFrame, validFrame_heard s hr]

/-- The monitor lets a privileged request through and spends its answer (R190). -/
theorem privileged_cleared (ans : Nat) (act : State → Answer) (h : s.cleared ans) :
    privileged ans act s.heard = act s.heard.spent := by
  obtain ⟨-, hs, ha⟩ := h
  unfold privileged
  rw [heard_authority, hs]
  simp only [show ans = s.heard.expectedAnswer from ha, if_true]
  rfl

/-- A privileged request with authority held is answered by its owner from the state heard and spent. -/
theorem addressed_cleared (code ans : Nat) (act : State → Answer) (h : s.cleared ans) :
    addressed code (privileged ans act) s = .next (enterTurnaround code (act s.heard.spent)) := by
  rw [addressed_ready _ _ _ h.1, privileged_cleared _ _ _ h]

end Sys2Proof.Machine
end

