-- ==== Sys2Proof/Tests/Slice0.lean ====
section
/-! SUPPORT. Tests of the model. The expected values come from the worked examples and tables of spec/, named at each
test. The witnesses at the end show that the hypotheses of each statement can be met together. -/

namespace Sys2Proof.Tests

open Sys2Proof Sys2Proof.Machine Sys2Proof.Spec

set_option Elab.async false

/-! ## WellFormed refuses each number that no character carries (10.9) -/

theorem test_refuses_clearChannel :
    ¬ (Instr.clearChannel 65536 0).WellFormed ∧ ¬ (Instr.clearChannel 0 256).WellFormed := by
  simp [Instr.WellFormed]
theorem test_refuses_readChannels :
    ¬ (Instr.readChannels 256 1).WellFormed ∧ ¬ (Instr.readChannels 0 256).WellFormed := by simp [Instr.WellFormed]
theorem test_refuses_pumpReset :
    ¬ (Instr.pumpReset 65536 1).WellFormed ∧ ¬ (Instr.pumpReset 0 256).WellFormed := by simp [Instr.WellFormed]
theorem test_refuses_pumpForce :
    ¬ (Instr.pumpForce 65536 1 1).WellFormed ∧ ¬ (Instr.pumpForce 0 256 1).WellFormed ∧
      ¬ (Instr.pumpForce 0 1 256).WellFormed := by simp [Instr.WellFormed]
theorem test_refuses_pumpService :
    ¬ (Instr.pumpService 65536 1 1).WellFormed ∧ ¬ (Instr.pumpService 0 256 1).WellFormed ∧
      ¬ (Instr.pumpService 0 1 256).WellFormed := by simp [Instr.WellFormed]
theorem test_refuses_readPumps :
    ¬ (Instr.readPumps 256 1).WellFormed ∧ ¬ (Instr.readPumps 0 256).WellFormed := by simp [Instr.WellFormed]
theorem test_refuses_screenInhibit :
    ¬ (Instr.screenInhibit 65536 1 1).WellFormed ∧ ¬ (Instr.screenInhibit 0 256 1).WellFormed ∧
      ¬ (Instr.screenInhibit 0 1 256).WellFormed := by simp [Instr.WellFormed]
theorem test_refuses_screenRake : ¬ (Instr.screenRake 256).WellFormed := by simp [Instr.WellFormed]
theorem test_refuses_screenReset :
    ¬ (Instr.screenReset 65536 1).WellFormed ∧ ¬ (Instr.screenReset 0 256).WellFormed := by simp [Instr.WellFormed]
theorem test_refuses_readScreens :
    ¬ (Instr.readScreens 256 1).WellFormed ∧ ¬ (Instr.readScreens 0 256).WellFormed := by simp [Instr.WellFormed]
theorem test_refuses_retireEpisode :
    ¬ (Instr.retireEpisode 256 1).WellFormed ∧ ¬ (Instr.retireEpisode 0 65536).WellFormed := by simp [Instr.WellFormed]
theorem test_refuses_retireAccumulator : ¬ (Instr.retireAccumulator 65536).WellFormed := by simp [Instr.WellFormed]
theorem test_refuses_readEpisodes :
    ¬ (Instr.readEpisodes 256 1).WellFormed ∧ ¬ (Instr.readEpisodes 0 256).WellFormed := by simp [Instr.WellFormed]
theorem test_refuses_ackCondition :
    ¬ (Instr.ackCondition 256 1).WellFormed ∧ ¬ (Instr.ackCondition 0 65536).WellFormed := by simp [Instr.WellFormed]
theorem test_refuses_shelve :
    ¬ (Instr.shelve 65536 1 1).WellFormed ∧ ¬ (Instr.shelve 0 256 1).WellFormed ∧
      ¬ (Instr.shelve 0 1 65536).WellFormed := by simp [Instr.WellFormed]
theorem test_refuses_unshelve :
    ¬ (Instr.unshelve 65536 1).WellFormed ∧ ¬ (Instr.unshelve 0 256).WellFormed := by simp [Instr.WellFormed]
theorem test_refuses_readConditions :
    ¬ (Instr.readConditions 256 1).WellFormed ∧ ¬ (Instr.readConditions 0 256).WellFormed := by simp [Instr.WellFormed]
theorem test_refuses_answer : ¬ (Instr.answer 65536).WellFormed := by simp [Instr.WellFormed]
theorem test_refuses_restart : ¬ (Instr.restart 65536).WellFormed := by simp [Instr.WellFormed]
theorem test_refuses_readSettings :
    ¬ (Instr.readSettings 256 1 1).WellFormed ∧ ¬ (Instr.readSettings 0 256 1).WellFormed ∧
      ¬ (Instr.readSettings 0 1 256).WellFormed := by simp [Instr.WellFormed]
theorem test_refuses_writeSetting :
    ¬ (Instr.writeSetting 65536 1 1 0).WellFormed ∧ ¬ (Instr.writeSetting 0 256 1 0).WellFormed ∧
      ¬ (Instr.writeSetting 0 1 256 0).WellFormed ∧ ¬ (Instr.writeSetting 0 1 1 32768).WellFormed ∧
      ¬ (Instr.writeSetting 0 1 1 (-32769)).WellFormed := by simp [Instr.WellFormed]
theorem test_refuses_commitSettings : ¬ (Instr.commitSettings 65536).WellFormed := by simp [Instr.WellFormed]
theorem test_refuses_setClock : ¬ (Instr.setClock false 4294967296).WellFormed := by simp [Instr.WellFormed]

/-! ## No word spells a command: no row of the table gives bits -/

theorem test_no_word_spells_a_command : decodeTableWord 8 0 = none ∧ decodeTableWord 0 0 = none := by decide
theorem test_no_word_is_placed : State.reset.withFetchWord 8 1 = State.reset := rfl

/-! ## Helpers -/

/-- The state a command leaves. -/
def after : Answered → State
  | .next s => s
  | .fault f => nomatch f
  | .refused _ => State.reset

/-- The part right after reset with its contacts changed. -/
def wired (f : Contacts → Contacts) : State := { State.reset with contacts := f State.reset.contacts }

/-- The part with authority held; the answer it expects is `granted.answerNow`. -/
def granted : State := { State.reset with authority := { State.reset.authority with state := .granted } }

/-- A state with bay 1's record changed. -/
def bay1 (f : PumpRec → PumpRec) (s : State) : State := s.modPump .b1 f

/-- A state with screen A's record changed. -/
def screenA (f : ScreenRec → ScreenRec) (s : State) : State := s.modScreen .a f

/-- Bay 1 in a state, with its selector in AUTO. -/
def pump (st : PumpState) (s : State) : State := bay1 (fun p => { p with state := st, selector := .auto }) s

/-- Screen A in a state, with its selector in AUTO. -/
def rake (st : ScreenState) (s : State) : State := screenA (fun r => { r with state := st, selectorAuto := true }) s

/-- The mains present and the overloads healthy. -/
def powerful (s : State) : State :=
  { s with
    contacts := { s.contacts with
      overload := PerBay.all (.settled true), rakeOverload := ⟨.settled true, .settled true⟩ }
    screens := { s.screens with supply := .mains } }

/-- The station at address 12, the keyswitch on, with a challenge and a state of authority (chapter 11's examples). -/
def station12 (challenge : Nat) (st : AuthState) : State :=
  { State.reset with
    line := { State.reset.line with address := 12 }
    authority := { State.reset.authority with challenge := challenge, state := st, permit := true } }

/-- A state with the receiver in a state. -/
def receiver (r : Receiver) (s : State) : State := { s with line := { s.line with receiver := r } }

/-- The characters of the reply's payload, after the master's address, LEN and the six header characters. -/
def payloadOf (s : State) : Option (List Byte) := s.line.reply.map fun l =>
  ((l.drop 8).take (l.length - 10)).map (·.data)

/-- The status character of the reply. -/
def statusOf (s : State) : Option Byte := s.line.reply.bind fun l => l[3]?.map (·.data)

/-- A closed episode. -/
def closedEpisode (serial : Nat) : Episode := ⟨serial, .closed, 100, some 200, Tally.begin 100, 0, .dry⟩

/-- A state with episodes in its slots. -/
def slotted (l : Vector (Option Episode) 16) (s : State) : State := { s with episodes := { s.episodes with slots := l } }

/-- Slots 0 to 5 occupied, 6 to 15 FREE. -/
def sixSlots : Vector (Option Episode) 16 :=
  #v[some (closedEpisode 1), some (closedEpisode 2), some (closedEpisode 3), some (closedEpisode 4),
     some (closedEpisode 5), some (closedEpisode 6), none, none, none, none, none, none, none, none, none, none]

/-- A state with one source's record changed. -/
def cond (i : Source) (f : CondRec → CondRec) (s : State) : State := { s with conditions := s.conditions.modify i f }

/-! ## Steps -/

/-- A waiting command is taken. -/
theorem test_step_takes_the_front :
    (match step { State.reset with pending := [.tipArrival, .tipArrival] } with
      | .next t => (t.rain.openBin, t.pending.length)
      | _ => (0, 0)) = (1, 1) := by decide
/-- With none waiting a millisecond passes (log 2). -/
theorem test_idle_passes_a_millisecond :
    (match step State.reset with
      | .next t => t.clock.secondTimer
      | _ => none) = some 999 := by decide

/-! ## Level channels: the examples of 1.3, 1.6, 1.7 and 1.10 -/

theorem test_sample_is_scaled :
    ((after (exec (.sampleArrival .ww 12345) State.reset)).channel .ww).level = some 2086 ∧
      (let t := after (exec (.sampleArrival .ww 3750) State.reset)
       (t.channel .ww).level = some 0 ∧ (t.channel .ww).band = .lowClamp) := by decide +kernel
theorem test_open_loop_pins :
    let t := after (exec (.sampleArrival .sa 400) State.reset)
    (t.channel .sa).counter = 50 ∧ (t.channel .sa).pinned = true ∧ (t.channel .sa).valid = false ∧
      (t.cond .chSaInvalid).active = true ∧ (t.cond .chSaInvalid).detail = some (.fault .loopOpen) := by decide +kernel
/-- The genuine jump: 14000 after 12345 is a STEP fault, and 14040 after it is clean. -/
theorem test_step_fault_costs_one_sample :
    let s := after (exec (.sampleArrival .ww 12345) (wired fun k => { k with lf := .settled true }))
    let t := after (exec (.sampleArrival .ww 14000) s)
    let u := after (exec (.sampleArrival .ww 14040) t)
    (t.channel .ww).level = some 2086 ∧ (t.channel .ww).counter = 2 ∧ (t.channel .ww).stepRef = some 14000 ∧
      (u.channel .ww).level = some 2510 ∧ (u.channel .ww).counter = 1 := by decide +kernel
theorem test_clearChannel_still_faulted :
    statusOf (after (exec (.clearChannel granted.answerNow 2) granted)) = some 11#8 := by decide +kernel
theorem test_readChannels_reads_four :
    (payloadOf (after (exec (.readChannels 0 9) State.reset))).map (·.length) = some 46 := by decide +kernel

/-! ## Contacts and rain: the examples of 2.3, 2.4 and 2.5 -/

/-- A quick flick: AUTO to OFF starts the filter, and back to AUTO within it stops it. -/
theorem test_quick_flick_is_filtered_out :
    let s := wired fun k => { k with
      selectorA := k.selectorA.put .b2 true, selector := k.selector.put .b2 (.settled .auto) }
    let t := after (exec (.rawContactChange (.selectorA .b2) false) s)
    let u := after (exec (.rawContactChange (.selectorA .b2) true) t)
    t.contacts.selector.get .b2 = ⟨.off, .auto, some .off, some 500⟩ ∧
      u.contacts.selector.get .b2 = ⟨.auto, .auto, none, none⟩ := by decide +kernel
theorem test_filter_expiry_takes_the_pending_state :
    let s := wired fun k => { k with hf := ⟨true, false, some true, some 0⟩ }
    let t := after (exec (.filterTimerExpiry (.switch .hf)) s)
    t.contacts.hf = .settled true ∧ t.duty.hfCovered = true ∧ (t.cond .wwFloatHigh).active = true := by decide +kernel
theorem test_tip_makes_wet :
    let t := after (exec .tipArrival State.reset)
    t.rain.openBin = 1 ∧ t.rain.storm = .wet ∧ t.rain.dryTimer = some 3600000 ∧ t.rain.bounceTimer = some 250 := by
  decide +kernel
theorem test_bounced_tip_is_lost :
    let t := after (exec .tipArrival State.reset)
    (after (exec .tipArrival t)).rain.openBin = 1 ∧ (after (exec .bounceTimerExpiry t)).rain.bounceTimer = none := by
  decide +kernel
/-- The intensity of 23 tips of 0.2 mm in fifteen minutes is 184. -/
theorem test_intensity :
    (after (exec .binClose { State.reset with rain := { State.reset.rain with
      closedBins := List.replicate 46 0 ++ [0, 0, 1, 0, 2, 1, 3, 2, 4, 1, 3, 2, 0, 3], openBin := 1 } })).rain.intensity =
      184 := by decide +kernel
/-- Thirteen tips bring the storm: 104 reaches 100. -/
theorem test_storm_begins :
    let t := after (exec .binClose { State.reset with rain := { State.reset.rain with
      storm := .wet, closedBins := List.replicate 57 0 ++ [1, 2, 4], openBin := 6 } })
    t.rain.intensity = 104 ∧ t.rain.storm = .storm ∧ t.rain.quiet = 0 ∧ t.duty.storm = .storm := by decide +kernel
theorem test_dry_timer_ends_wet :
    (after (exec .dryTimerExpiry { State.reset with rain := { State.reset.rain with
      storm := .wet, dryTimer := some 0 } })).rain.storm = .dry := by decide +kernel
/-- A tip and the dry timer's expiry together in WET: WET after both with the dry timer running, in either order (R37). -/
theorem test_tip_and_dry_timer_together :
    let s := { State.reset with rain := { State.reset.rain with storm := .wet, dryTimer := some 0 } }
    let t := after (exec .dryTimerExpiry (after (exec .tipArrival s)))
    let u := after (exec .tipArrival (after (exec .dryTimerExpiry s)))
    t.rain.storm = .wet ∧ t.rain.dryTimer.isSome = true ∧ u.rain.storm = .wet ∧ u.rain.dryTimer.isSome = true := by
  decide +kernel
theorem test_clearRain_answers_the_total :
    let t := after (exec .clearRain { State.reset with rain := { State.reset.rain with total := 258 } })
    payloadOf t = some [0#8, 0#8, 1#8, 2#8] ∧ t.rain.total = 0 := by decide +kernel
theorem test_readRain_has_73_characters :
    (payloadOf (after (exec .readRain State.reset))).map (·.length) = some 73 := by decide +kernel

/-! ## Pumps: the examples of 3.8 and 3.11, and 5.1 -/

/-- The start window fills: the entry of 1000 reaches 3600 s and leaves, and START_LIMITED clears. -/
theorem test_start_window_empties :
    let w : List StartEntry := [⟨1000, 3599⟩, ⟨1600, 2999⟩, ⟨2200, 2399⟩, ⟨2800, 1799⟩, ⟨3400, 1199⟩, ⟨4000, 599⟩]
    let t := after (exec .rosterSecondTimerExpiry
      (bay1 (fun p => { p with state := .idle, selector := .auto, window := w, startLimited := true }) State.reset))
    (t.pump .b1).window.length = 5 ∧ (t.pump .b1).startLimited = false := by decide +kernel
/-- A grant: select on, a third entry in the window, starts total 412, the ramp of 8 s. -/
theorem test_grant_starts_the_head :
    let s := { bay1 (fun p => { p with
        state := .queued, selector := .auto, window := [⟨10, 200⟩, ⟨20, 100⟩], startsTotal := 411 }) State.reset with
      arbiter := { State.reset.arbiter with
        state := .gap, gapTimer := some 0, queue := [.b1], gateSupply := .mains, holdExpired := true }
      duty := { State.reset.duty with
        cutoff := false, lfCovered := true, hfCovered := true, stage := 4, limit := 4, order := [.b1], counted := [.b1] } }
    let t := after (exec .gapTimerExpiry s)
    (t.pump .b1).state = .starting ∧ (t.pump .b1).starterSelect = true ∧ (t.pump .b1).window.length = 3 ∧
      (t.pump .b1).startsTotal = 412 ∧ t.arbiter.state = .ramping ∧ t.arbiter.rampTimer = some 8000 := by decide +kernel
/-- The ramp completes with the feedback off: LOCKED_OUT with FAIL_TO_START, the starter into its gap of 15 s. -/
theorem test_failed_start_locks_out :
    let s := { bay1 (fun p => { p with state := .starting, selector := .auto, starterSelect := true }) State.reset with
      arbiter := { State.reset.arbiter with state := .ramping, held := some .b1, rampTimer := some 0, runOutput := true } }
    let t := after (exec .rampTimerExpiry s)
    (t.pump .b1).state = .lockedOut ∧ (t.pump .b1).lockouts = 1 ∧ (t.pump .b1).reason = some .failToStart ∧
      (t.pump .b1).starterSelect = false ∧ (t.cond .pump1Lockout).active = true ∧ t.arbiter.gapTimer = some 15000 := by
  decide +kernel
/-- The ramp completes with the feedback on: RUNNING, the min-run timer of 60 s. -/
theorem test_good_start_runs :
    let s := { bay1 (fun p => { p with state := .starting, selector := .auto, starterSelect := true })
        (wired fun k => { k with runFeedback := k.runFeedback.put .b1 (.settled true) }) with
      arbiter := { State.reset.arbiter with state := .ramping, held := some .b1, rampTimer := some 0, runOutput := true }
      duty := { State.reset.duty with cutoff := false, lfCovered := true, order := [.b1], counted := [.b1] } }
    let t := after (exec .rampTimerExpiry s)
    (t.pump .b1).runContactor = true ∧ (t.pump .b1).minRun = some 60000 := by decide +kernel
theorem test_feedback_lost :
    let t := after (exec (.feedbackLossTimerExpiry .b1)
      (bay1 (fun p => { p with state := .running, runContactor := true, feedbackLoss := some 0 }) State.reset))
    (t.pump .b1).reason = some .feedbackLost ∧ (t.pump .b1).runContactor = false := by decide +kernel
theorem test_fail_to_stop :
    ((after (exec (.stopConfirmTimerExpiry .b1)
      (bay1 (fun p => { p with state := .stopping, stopConfirm := some 0 })
        (wired fun k => { k with runFeedback := k.runFeedback.put .b1 (.settled true) })))).pump .b1).reason =
      some .failToStop := by decide +kernel
theorem test_min_run_served_unwanted :
    ((after (exec (.minRunTimerExpiry .b1)
      (bay1 (fun p => { p with state := .running, runContactor := true, minRun := some 0 })
        (wired fun k => { k with runFeedback := k.runFeedback.put .b1 (.settled true) })))).pump .b1).state =
      .stopping := by decide +kernel
theorem test_min_rest_served :
    ((after (exec (.minRestTimerExpiry .b1)
      (bay1 (fun p => { p with state := .resting, selector := .auto, minRest := some 0 }) State.reset))).pump .b1).state =
      .idle := by decide +kernel
theorem test_restart_hold_ends : (after (exec .restartHoldExpiry State.reset)).arbiter.holdExpired = true := by
  decide +kernel
theorem test_restore_timer_ends :
    (after (exec .restoreTimerExpiry { State.reset with
      supply := { State.reset.supply with restoreTimer := some 0 } })).supply.restoreTimer = none := by decide +kernel
theorem test_changeover_makes_due :
    ((after (exec (.changeoverTimerExpiry .b1)
      { bay1 (fun p => { p with state := .running, runContactor := true, selector := .auto }) State.reset with
        duty := { State.reset.duty with
          cutoff := false, lfCovered := true, hfCovered := true, stage := 4, limit := 4, order := [.b1], counted := [.b1]
          changeoverTimer := State.reset.duty.changeoverTimer.put .b1 (some 0) } })).pump .b1).changeoverDue = true := by
  decide +kernel
/-- PUMP_RESET with the overload healthy: RESTING for 120 s, the lockout count as it was. -/
theorem test_pumpReset_rests :
    let s := powerful (bay1 (fun p => { p with
      state := .lockedOut, selector := .auto, reason := some .failToStart, lockouts := 1 }) granted)
    let t := after (exec (.pumpReset granted.answerNow 1) s)
    (t.pump .b1).state = .resting ∧ (t.pump .b1).minRest = some 120000 ∧ (t.pump .b1).lockouts = 1 ∧
      (t.pump .b1).reason = none ∧ statusOf t = some 0#8 := by decide +kernel
/-- The exchange of 11.5: PUMP_FORCE with 63837 at the challenge 16170 is taken, and the challenge becomes 58683. -/
theorem test_pumpForce_spends_the_challenge :
    let s := (station12 16170 .granted).modPump .b2 fun p => { p with selector := .auto }
    let t := after (exec (.pumpForce 63837 2 1) s)
    (t.pump .b2).forced = .run ∧ t.authority.challenge = 58683 ∧ t.authority.supervisionTimer = some 60000 := by
  decide +kernel
/-- The same answer again is a lapse: NONE, one failure, the forced mode gone. -/
theorem test_spent_answer_lapses :
    let s := (station12 58683 .granted).modPump .b2 fun p => { p with selector := .auto, forced := .run }
    let t := after (exec (.pumpForce 63837 2 0) s)
    (t.pump .b2).forced = .none ∧ t.authority.state = .none ∧ t.authority.failures = 1 ∧ statusOf t = some 4#8 := by
  decide +kernel
theorem test_pumpService_takes_out :
    let t := after (exec (.pumpService granted.answerNow 1 1) (pump .idle granted))
    (t.pump .b1).inService = false ∧ (t.pump .b1).state = .unavailable := by decide +kernel
theorem test_readPumps_reads_four :
    (payloadOf (after (exec (.readPumps 0 4) State.reset))).map (·.length) = some 86 := by decide +kernel

/-! ## Screens: the example of 6.7 -/

theorem test_overload_backs_off :
    let s := rake .rising { powerful State.reset with
      contacts := { (powerful State.reset).contacts with rakeOverload := ⟨⟨false, true, some false, some 0⟩, .settled true⟩ } }
    let t := after (exec (.filterTimerExpiry (.switch (.rakeOverload .a))) s)
    (t.screen .a).state = .clearing ∧ (t.screen .a).clearTimer = some 5000 ∧ (t.screen .a).reverse = true ∧
      (t.screen .a).overloadSeen = true := by decide +kernel
theorem test_clear_timer_raises_again :
    let t := after (exec (.clearTimerExpiry .a)
      (screenA (fun r => { r with clearTimer := some 0 }) (rake .clearing (powerful State.reset))))
    (t.screen .a).state = .rising ∧ (t.screen .a).strokeTimer = some 60000 := by decide +kernel
theorem test_stroke_timer_jams :
    let t := after (exec (.strokeTimerExpiry .a)
      (screenA (fun r => { r with strokeTimer := some 0 }) (rake .rising (powerful State.reset))))
    (t.screen .a).state = .jammed ∧ (t.screen .a).jam = some .topTimeout ∧ (t.cond .screenAJam).active = true := by
  decide +kernel
theorem test_interval_starts_a_cycle :
    let t := after (exec (.intervalTimerExpiry .a) (rake .idle (powerful State.reset)))
    (t.screen .a).state = .rising ∧ (t.screen .a).interval = ⟨some 0, 60⟩ ∧ (t.screen .a).forward = true := by
  decide +kernel
theorem test_screenRake_starts_a_cycle :
    payloadOf (after (exec (.screenRake 0) (rake .idle (powerful State.reset)))) = some [1#8] := by decide +kernel
theorem test_screenInhibit_rests_the_screen :
    ((after (exec (.screenInhibit granted.answerNow 0 1) (rake .idle granted))).screen .a).state = .inhibited := by
  decide +kernel
/-- SCREEN_RESET with the overload still tripped is refused, and once it is healthy brings the rake home. -/
theorem test_screenReset_homes :
    statusOf (after (exec (.screenReset granted.answerNow 0) (rake .jammed granted))) = some 11#8 ∧
      (let t := after (exec (.screenReset granted.answerNow 0) (rake .jammed (powerful granted)))
       (t.screen .a).state = .homing ∧ (t.screen .a).strokeTimer = some 60000 ∧ (t.screen .a).reverse = true) := by
  decide +kernel
theorem test_readScreens_reads_two :
    (payloadOf (after (exec (.readScreens 0 2) State.reset))).map (·.length) = some 40 := by decide +kernel

/-! ## Spills and episodes: the examples of 7.3, 7.5 and 10.6 -/

theorem test_rated_flow :
    let m := State.reset.spill.rating
    m.flow (-20) = 0 ∧ m.flow 30 = 72 ∧ m.flow 136 = 563 ∧ m.flow 146 = 625 ∧ m.flow 200 = 960 ∧ m.flow 450 = 2900 := by
  decide +kernel
/-- The spill begins at 40001 with a head of 136 mm: 56 litres and 3 tenths. -/
theorem test_spill_begins :
    let t := after (exec .integrationTimerExpiry { State.reset with
      clock := { State.reset.clock with time := 40001, isSet := true }
      spill := { State.reset.spill with report := ⟨true, some 2086, true⟩, held := 24 } })
    t.spill.head = some 136 ∧ t.spill.held = 563 ∧ t.spill.spilling = true ∧ t.episodes.qualifying = true ∧
      (t.spill.accumulation.map fun a => (a.start, a.tally.litres, a.tally.rem, a.tally.seconds)) = some (40001, 56, 3, 1) := by
  decide +kernel
/-- With IN unusable the probe decides: the held flow of 625 adds 63 litres to 287 with 7 tenths, ESTIMATED. -/
theorem test_probe_goes_on_with_the_held_flow :
    let t := after (exec .integrationTimerExpiry { State.reset with
      spill := { State.reset.spill with
        held := 625, spilling := true, spWet := true
        accumulation := some ⟨40001, { Tally.begin 40001 with litres := 287, rem := 7 }⟩ }
      episodes := { State.reset.episodes with qualifying := true, qualifyTimer := some 9 } })
    (t.spill.accumulation.map fun a => (a.tally.litres, a.tally.rem, a.tally.flags.estimated)) = some (350, 2, true) := by
  decide +kernel
theorem test_episode_opens :
    let t := after (exec .qualifyTimerExpiry { State.reset with
      spill := { State.reset.spill with accumulation := some ⟨40001, Tally.begin 40001⟩ }
      episodes := { State.reset.episodes with qualifying := true, qualifyTimer := some 0 } })
    t.episodes.inProgress = .slot 0 ∧ t.episodes.serialCounter = 2 ∧ t.rain.storm = .storm ∧ t.duty.allOut = true ∧
      (t.cond .overflowActive).active = true := by decide +kernel
theorem test_episode_settles :
    let t := after (exec .mergeTimerExpiry { slotted (sixSlots.set 0 (some { closedEpisode 1 with state := .closing })) State.reset with
      rain := { State.reset.rain with storm := .storm, episodeFlag := true }
      episodes := { State.reset.episodes with
        slots := sixSlots.set 0 (some { closedEpisode 1 with state := .closing })
        inProgress := .slot 0, mergeTimer := some 0 } })
    t.episodes.inProgress = .none ∧ (t.episodes.slots.get 0).map (·.state) = some .closed ∧ t.rain.episodeFlag = false := by
  decide +kernel
theorem test_retirement_frees_the_slot :
    let t := after (exec (.retireEpisode 2 3) (slotted sixSlots State.reset))
    t.episodes.slots.get 2 = none ∧ statusOf t = some 0#8 ∧
      statusOf (after (exec (.retireEpisode 2 4) (slotted sixSlots State.reset))) = some 8#8 := by decide +kernel
theorem test_retireAccumulator_empty :
    statusOf (after (exec (.retireAccumulator 0) State.reset)) = some 0#8 ∧
      statusOf (after (exec (.retireAccumulator 1) State.reset)) = some 8#8 := by decide +kernel
/-- Six occupied slots: MORE with five records and next index 5; from 5 the rest fit, a count of 20 cut to 11. -/
theorem test_readEpisodes_more :
    let t := after (exec (.readEpisodes 0 16) (slotted sixSlots State.reset))
    let u := after (exec (.readEpisodes 5 20) (slotted sixSlots State.reset))
    statusOf t = some 1#8 ∧ (payloadOf t).map (fun l => (l.take 3, l.length)) = some ([0#8, 5#8, 5#8], 173) ∧
      statusOf u = some 0#8 ∧ (payloadOf u).map (fun l => (l.take 2, l.length)) = some ([5#8, 11#8], 56) := by decide +kernel
theorem test_readAccumulator_has_45_characters :
    (payloadOf (after (exec .readAccumulator State.reset))).map (·.length) = some 45 := by decide +kernel

/-! ## Conditions: the race of chapter 9 and the reading of 10.6 -/

/-- WW_HIGH raised twice since it was read: 7 is STALE and the reply carries 9, and 9 acknowledges with 10. -/
theorem test_acknowledgement_race :
    let s := cond .wwHigh (fun r => { r with state := .activeUnack, active := true, change := 9, raises := 13 }) State.reset
    let t := after (exec (.ackCondition 0 7) s)
    let u := after (exec (.ackCondition 0 9) s)
    statusOf t = some 8#8 ∧ payloadOf t = some [0#8, 1#8, 9#8] ∧ (u.cond .wwHigh).state = .activeAck ∧
      (u.cond .wwHigh).change = 10 := by decide +kernel
theorem test_ackAll_counts :
    let t := after (exec .ackAll State.reset)
    payloadOf t = some [4#8] ∧ t.conditions.horn = false ∧ (t.cond .mainsFail).state = .activeAck := by decide +kernel
theorem test_shelve_times_the_record :
    let t := after (exec (.shelve granted.answerNow 17 60) granted)
    (t.cond .mainsFail).state = .shelved ∧ (t.cond .mainsFail).shelf = some 3600000 := by decide +kernel
theorem test_overflow_cannot_be_shelved :
    statusOf (after (exec (.shelve granted.answerNow 19 60) granted)) = some 9#8 := by decide +kernel
theorem test_unshelve_returns_the_record :
    let s := cond .mainsFail (fun r => { r with state := .shelved, shelf := some 5 }) granted
    ((after (exec (.unshelve granted.answerNow 17) s)).cond .mainsFail).state = .activeUnack := by decide +kernel
theorem test_shelve_timer_returns_the_record :
    let s := cond .wwHigh (fun r => { r with state := .shelved, shelf := some 0 }) granted
    ((after (exec (.shelveTimerExpiry .wwHigh) s)).cond .wwHigh).state = .normal := by decide +kernel
/-- READ_CONDITIONS 0, 25: MORE with 13 records and next index 13. -/
theorem test_readConditions_more :
    let t := after (exec (.readConditions 0 25) State.reset)
    statusOf t = some 1#8 ∧ (payloadOf t).map (fun l => (l.take 3, l.length)) = some ([0#8, 13#8, 13#8], 198) := by
  decide +kernel

/-! ## Telemetry line: the poll of 10.10 -/

theorem test_check_of_the_poll : checkChars [1#8, 1#8] = [0x3E#8, 0x1F#8] := by decide +kernel
theorem test_poll_is_heard :
    let t := hearAll (requestFrame 12 1 []) (station12 3084 .none)
    t.line.receiver = .turnaround ∧ (t.line.reply.map fun l => (l.length, l.take 2)) =
      some (61, [⟨254#8, true, false, true⟩, ⟨57#8, false, false, true⟩]) := by
  decide +kernel
theorem test_address_character_begins_a_frame :
    let t := after (exec (.receiveCharacter (Character.make 12#8 true)) (station12 3084 .none))
    t.line.receiver = .receiving ∧ t.line.gapTimer = some 20 := by decide +kernel
theorem test_line_break_abandons :
    (after (exec .lineBreak (receiver .receiving State.reset))).line.latch = true := by decide +kernel
theorem test_gap_limit_abandons :
    (after (exec .gapLimitExpiry { State.reset with
      line := { State.reset.line with receiver := .receiving, gapTimer := some 0 } })).line.receiver = .waiting := by
  decide +kernel
theorem test_turnaround_sends :
    let t := after (exec .turnaroundTimerExpiry (after (exec .readRain State.reset)))
    t.line.receiver = .sending ∧ (after (exec .replySent t)).line.receiver = .waiting := by decide +kernel
theorem test_link_lost : ((after (exec .linkTimerExpiry State.reset)).cond .linkLost).active = true := by decide +kernel
theorem test_readStatus_clears_the_latch :
    let t := after (exec .readStatus { State.reset with line := { State.reset.line with latch := true } })
    t.line.latch = false ∧ (payloadOf t).map (·.length) = some 51 := by decide +kernel

/-! ## Remote authority: the examples of 11.2 and 11.5 -/

theorem test_one_answer_and_one_step : (station12 4660 .granted).answerNow = 37292 ∧ nextChallenge 4660 = 49277 := by
  decide +kernel
theorem test_openAuthority_challenges :
    let t := after (exec .openAuthority (station12 3084 .none))
    t.authority.challenge = 8565 ∧ t.authority.state = .challenged ∧ t.authority.answerTimer = some 10000 := by
  decide +kernel
theorem test_answer_grants :
    let t := after (exec (.answer 2997) (station12 8565 .challenged))
    t.authority.challenge = 16170 ∧ t.authority.state = .granted ∧ t.authority.failures = 0 := by decide +kernel
theorem test_releaseAuthority_drops :
    (after (exec .releaseAuthority granted)).authority.state = .none := by decide +kernel
theorem test_answer_window_fails :
    (after (exec .answerWindowExpiry { State.reset with authority := { State.reset.authority with
      state := .challenged, answerTimer := some 0, failures := 2 } })).authority.state = .barred := by decide +kernel
theorem test_supervision_lapses :
    (after (exec .supervisionTimerExpiry { State.reset with authority := { State.reset.authority with
      state := .granted, supervisionTimer := some 0 } })).authority.failures = 1 := by decide +kernel
theorem test_restart_waits_for_the_reply :
    let t := after (exec (.restart granted.answerNow) granted)
    let u := after (exec .replySent (after (exec .turnaroundTimerExpiry t)))
    t.line.restartPending = true ∧ u.restartCause = .warmRequest := by decide +kernel

/-! ## Settings, clock and restarts: the example of 12.3 -/

theorem test_readSettings_reads_a_table :
    (payloadOf (after (exec (.readSettings 3 3 1) State.reset))) = some [3#8, 1#8, 0#8, 6#8] := by decide +kernel
theorem test_writeSetting_takes_a_value :
    let t := after (exec (.writeSetting granted.answerNow 2 2 150) granted)
    t.item 2 2 = 150 ∧ statusOf t = some 0#8 ∧ payloadOf t = some [2#8, 2#8, 0#8, 150#8] := by decide +kernel
theorem test_writeSetting_lifts_a_short_changeover :
    let t := after (exec (.writeSetting granted.answerNow 3 5 5) granted)
    t.item 3 5 = 10 ∧ statusOf t = some 2#8 := by decide +kernel
theorem test_commit_clears_the_marker :
    let t := after (exec (.commitSettings granted.answerNow)
      { granted with store := { granted.store with marker := true } })
    t.store.marker = false ∧ (after (exec .commitCompletion t)).store.marker = true := by decide +kernel
/-- A commit cut short: no marker, and the warm restart loads the defaults. -/
theorem test_commit_cut_short :
    let s := { State.reset with store := ⟨State.reset.store.working.set 3 11 3, Settings.defaults, false, some 1500⟩ }
    let t := after (exec .supplyLoss s)
    let u := after (exec .warmSupplyRestart t)
    t.power = .halted ∧ t.store.commit = none ∧ u.item 3 11 = 2 ∧ u.restartCause = .warmSupply ∧
      (u.cond .settingsDefaulted).state = .returnedUnack ∧ (u.cond .restart).detail = some (.cause .warmSupply) ∧
      u.conditions.horn = true := by decide +kernel
theorem test_cold_start_seeds_the_challenge :
    let t := after (exec .coldStart { State.reset with power := .halted, store := ⟨Settings.defaults, Settings.defaults.set 0 1 12, true, none⟩ })
    t.line.address = 12 ∧ t.authority.challenge = 3084 ∧ t.power = .on := by decide +kernel
theorem test_setClock_sets_the_clock :
    let t := after (exec (.setClock false 80000) State.reset)
    let u := after (exec (.setClock true 80000) State.reset)
    t.clock.time = 80000 ∧ t.clock.isSet = true ∧ u.clock.time = 80000 ∧ u.line.reply = none := by decide +kernel
theorem test_clock_wraps :
    (after (exec .clockSecondExpiry { State.reset with
      clock := { State.reset.clock with time := 4294967295 } })).clock.time = 0 := by decide +kernel

/-! ## Witnesses: states and operands that meet the hypotheses of each statement -/

/-- Bay 1 with a feedback, selector AUTO and healthy overloads, under demand for every pump, the cutoff not in force. -/
def busy (feedback : Bool) (s : State) : State :=
  let s := powerful s
  { s with
    contacts := { s.contacts with runFeedback := s.contacts.runFeedback.put .b1 (.settled feedback) }
    duty := { s.duty with cutoff := false, lfCovered := true, hfCovered := true, stage := 4, limit := 4 } }

/-- A state with one condition record shelved. -/
def shelved : State := cond .mainsFail (fun r => { r with state := .shelved, shelf := some 5 }) granted

theorem witness_StepRunsTheFrontCommand :
    ({ State.reset with pending := [.tipArrival, .binClose] } : State).pending = .tipArrival :: [.binClose] := rfl

theorem witness_IdleStepPassesOneMillisecond :
    (State.reset.pending = [] ∧ State.reset.power = .on) ∧
      (({ State.reset with power := .halted } : State).pending = [] ∧
        ({ State.reset with power := .halted } : State).power = .halted) := by decide

theorem witness_OutOfBandSampleIsFaulted :
    State.reset.power = .on ∧ (∀ c, (State.reset.channels.sampleTimers.get c).isSome = true) ∧
      ((0 < 3600 ∨ 20800 < 0) ∧ (999 < 3600 ∨ 20800 < 999) ∧ (1000 < 3600 ∨ 20800 < 1000) ∧
        (3599 < 3600 ∨ 20800 < 3599) ∧ (20801 < 3600 ∨ 20800 < 20801)) := by
  refine ⟨rfl, ?_, by decide⟩
  intro c; cases c <;> decide

/-- WW with a step reference of 4000. -/
def stepped : State :=
  { State.reset with channels := { State.reset.channels with
      recs := State.reset.channels.recs.put .ww { State.reset.channel .ww with stepRef := some 4000 } } }

theorem witness_InBandSampleIsJudged_heard :
    State.reset.live ∧ (∀ c, (State.reset.channels.sampleTimers.get c).isSome = true) ∧
      (State.reset.cond .screenBlinded).active = someBlinded State.reset := by
  refine ⟨by decide, fun c => ?_, by decide +kernel⟩
  cases c <;> decide

theorem witness_InBandSampleIsJudged :
    (State.reset.power = .on ∧ (State.reset.channels.sampleTimers.get .ww).isSome = true ∧ stepped.power = .on ∧
      (stepped.channels.sampleTimers.get .ww).isSome = true ∧ (3600 ≤ 3600 ∧ 3600 ≤ 20800) ∧
      (3600 ≤ 20800 ∧ 20800 ≤ 20800)) ∧
    StepFails stepped .ww (candidate stepped .ww (clamped 20800)) ∧
    ¬ StepFails State.reset .ww (candidate State.reset .ww (clamped 20800)) ∧
    CrossFails State.reset .ww (candidate State.reset .ww (clamped 20800)) ∧
    ¬ CrossFails State.reset .ww (candidate State.reset .ww (clamped 3600)) ∧
    (¬ StepFails State.reset .ww (candidate State.reset .ww (clamped 3600))) ∧
    ((after (exec (.sampleArrival .ww 3600) State.reset)).channel .ww).valid = true ∧
    (let s := { State.reset with channels := { State.reset.channels with
        recs := State.reset.channels.recs.put .ww { State.reset.channel .ww with valid := false, counter := 50 } } }
     ¬ StepFails s .ww (candidate s .ww (clamped 12345)) ∧
      ((after (exec (.sampleArrival .ww 12345) s)).channel .ww).valid = false) := by
  refine ⟨by decide, ⟨4000, rfl, by decide +kernel⟩, ?_, .inl ⟨rfl, .inr ⟨rfl, by decide +kernel⟩⟩, ?_, ?_,
    by decide +kernel, ?_, by decide +kernel⟩
  · rintro ⟨r, h, -⟩; exact absurd h (by simp [State.reset, State.channel, PerChannel.get, ChannelRec.restarted])
  · rintro (⟨-, ⟨h, -⟩ | ⟨-, h⟩⟩ | ⟨h, -⟩)
    · exact absurd h (by decide)
    · exact absurd h (by decide +kernel)
    · exact absurd h (by decide)
  · rintro ⟨r, h, -⟩; exact absurd h (by simp [State.reset, State.channel, PerChannel.get, ChannelRec.restarted])
  · rintro ⟨r, h, -⟩
    exact absurd h (by simp [State.reset, State.channel, PerChannel.get, PerChannel.put, ChannelRec.restarted])

/-- The part right after reset with a command waiting. -/
def waiting (c : Instr) : State := { State.reset with pending := [c] }

theorem waiting_channels (c : Instr) : (waiting c).ChannelsLawful := by
  change State.reset.ChannelsLawful
  refine ⟨fun c => ?_, fun c => ?_, fun h => absurd h (by decide)⟩
  · cases c <;> (unfold ChannelRec.Lawful; decide +kernel)
  · cases c <;> decide +kernel

theorem witness_ChannelLawIsKept :
    ∃ t, (waiting (.sampleArrival .sa 400)).ChannelsLawful ∧ step (waiting (.sampleArrival .sa 400)) = .next t :=
  ⟨_, waiting_channels _, rfl⟩

theorem witness_ClearChannelUnpins :
    granted.cleared granted.answerNow ∧ 3 < 4 ∧ Channel.index .sb = 3 ∧ (granted.channel .sb).band ≠ .normal ∧
      (let s := { granted with channels := { granted.channels with
          recs := granted.channels.recs.put .ww { granted.channel .ww with band := .normal, pinned := true } } }
       s.cleared s.answerNow ∧ Channel.index .ww = 0 ∧ (s.channel .ww).band = .normal) := by decide +kernel

theorem witness_RawChangeRunsTheFilter :
    State.reset.power = .on ∧ (State.reset.contacts.get .hf).raw ≠ true ∧
      ((wired fun k => { k with hf := ⟨true, false, some true, some 5⟩ }).power = .on ∧
        ((wired fun k => { k with hf := ⟨true, false, some true, some 5⟩ }).contacts.get .hf).raw ≠ false) := by
  decide +kernel

theorem witness_FilterExpiryTakesThePendingState :
    (∀ w, let s := wired fun k => k.put w ⟨true, false, some true, some 0⟩
      s.live ∧ (s.contacts.get w).timer.isSome = true ∧ (s.contacts.get w).pendingState = some true) ∧
    (let s := wired fun k => { k with selector := k.selector.put .b1 ⟨.auto, .off, some .auto, some 0⟩ }
     s.live ∧ (s.contacts.selector.get .b1).timer.isSome = true ∧
      (s.contacts.selector.get .b1).pendingState = some .auto) := by
  refine ⟨fun w => ?_, by decide +kernel⟩
  cases w with
  | runFeedback b => cases b <;> decide +kernel
  | overload b => cases b <;> decide +kernel
  | sealLeak b => cases b <;> decide +kernel
  | screenSelector x => cases x <;> decide +kernel
  | topLimit x => cases x <;> decide +kernel
  | homeLimit x => cases x <;> decide +kernel
  | rakeOverload x => cases x <;> decide +kernel
  | _ => decide +kernel

/-- A contact whose filter ends with a value. -/
def due (w : Switch) (v : Bool) (s : State) : State := { s with contacts := s.contacts.put w ⟨v, !v, some v, some 0⟩ }

theorem witness_FilterExpiryTakesThePendingState_bay :
    ∀ st ∈ [PumpState.absent, .unavailable, .idle, .resting, .queued, .starting, .running, .stopping, .lockedOut],
      ∀ v : Bool, ∀ w ∈ [Switch.runFeedback .b1, .overload .b1, .sealLeak .b1],
        let s := due w v (pump st State.reset)
        s.live ∧ (s.contacts.get w).timer.isSome = true ∧ (s.contacts.get w).pendingState = some v ∧
          ((taken s w v).pump .b1).state = st ∧ ((taken s w v).pump .b1).degraded = false := by decide +kernel

theorem witness_FilterExpiryTakesThePendingState_selector :
    ∀ st ∈ [PumpState.absent, .unavailable, .idle, .starting, .lockedOut], ∀ pos ∈ [Selector.hand, .off, .auto],
      ∀ mark free : Bool,
        let s := bay1 (fun p => { p with resetMark := mark }) (pump st { State.reset with
          contacts := { State.reset.contacts with
            overload := PerBay.all (.settled free), selector := PerBay.all ⟨pos, .auto, some pos, some 0⟩ } })
        s.live ∧ (s.contacts.selector.get .b1).timer.isSome = true ∧
          (s.contacts.selector.get .b1).pendingState = some pos ∧ (s.pump .b1).state = st ∧
          (s.pump .b1).inService = true ∧ (s.pump .b1).resetMark = mark ∧
          (s.contacts.overload.get .b1).filtered = free := by decide +kernel

theorem witness_FilterExpiryTakesThePendingState_screen :
    ∀ st ∈ [ScreenState.idle, .rising, .lowering, .homing, .jammed, .off], ∀ v mark : Bool,
      ∀ w ∈ [Switch.screenSelector .a, .topLimit .a, .homeLimit .a, .rakeOverload .a],
        let s := screenA (fun r => { r with resetMark := mark, overloadSeen := mark }) (due w v (rake st State.reset))
        s.live ∧ (s.contacts.get w).timer.isSome = true ∧ (s.contacts.get w).pendingState = some v ∧
          ((taken s w v).screen .a).inUse = true ∧ ((taken s w v).screen .a).state = st ∧
          ((taken s w v).screen .a).resetMark = mark ∧ ((taken s w v).screen .a).overloadSeen = mark := by decide +kernel

theorem witness_FilterExpiryTakesThePendingState_starter :
    ∀ was ∈ [StarterHealth.healthy, .faultInput, .notReady], ∀ h ∈ [StarterHealth.healthy, .faultInput, .notReady],
      let w := if h = .notReady then Switch.starterReady else .starterFault
      let v := decide (h = .faultInput)
      let s := due w v { State.reset with arbiter := { State.reset.arbiter with
        gateSupply := .mains, health := was, state := if was = .healthy then .ramping else .faulted
        held := if was = .healthy then some .b1 else none } }
      let s := if h = .healthy then { s with contacts := { s.contacts with starterReady := .settled true } } else s
      s.live ∧ (s.contacts.get w).timer.isSome = true ∧ (s.contacts.get w).pendingState = some v ∧
        healthOf (taken s w v) = h ∧ (taken s w v).arbiter.health = was := by decide +kernel

theorem witness_FilterExpiryTakesThePendingState_permit :
    ∀ st ∈ [AuthState.none, .challenged, .granted, .barred], ∀ v : Bool,
      let s := due .remotePermit v (station12 8565 st)
      s.live ∧ (s.contacts.get .remotePermit).timer.isSome = true ∧
        (s.contacts.get .remotePermit).pendingState = some v ∧ (taken s .remotePermit v).authority.state = st := by
  decide +kernel

theorem witness_TipsAndTheDryTimerMoveTheStorm_elsewhere :
    (let s := { State.reset with episodes := { State.reset.episodes with
        inProgress := .accumulator, acc := { Accumulator.empty with current := some ⟨false, 5, none⟩ } } }
     s.power = .on ∧ s.rain.bounceTimer = none ∧ s.episodes.qualifying = false ∧ s.episodes.inProgress = .accumulator) ∧
    (State.reset.power = .on ∧ State.reset.rain.bounceTimer = none ∧ State.reset.episodes.qualifying = false ∧
      State.reset.episodes.inProgress = .none) := by decide +kernel

theorem witness_TipsAndTheDryTimerMoveTheStorm :
    (let s := { State.reset with rain := { State.reset.rain with bounceTimer := some 5, dryTimer := some 9 } }
     s.power = .on ∧ s.rain.bounceTimer.isSome = true ∧ s.rain.dryTimer.isSome = true) ∧
    (let s := { State.reset with
        spill := { State.reset.spill with accumulation := some ⟨0, Tally.begin 0⟩ }
        episodes := { State.reset.episodes with qualifying := true } }
     s.power = .on ∧ s.rain.bounceTimer = none ∧ s.episodes.qualifying = true ∧
      s.spill.accumulation = some ⟨0, Tally.begin 0⟩) ∧
    (let s := slotted sixSlots { State.reset with episodes := { State.reset.episodes with inProgress := .slot 5 } }
     s.power = .on ∧ s.rain.bounceTimer = none ∧ s.episodes.qualifying = false ∧ s.episodes.inProgress = .slot 5 ∧
      s.episodes.slots.get 5 = some (closedEpisode 6)) := by decide +kernel

theorem witness_TipsAndTheDryTimerMoveTheStorm_together :
    (let s := { State.reset with rain := { State.reset.rain with
        storm := .wet, dryTimer := some 9, dryRestarted := true, bounceTimer := some 250 } }
     s.power = .on ∧ s.rain.dryTimer.isSome = true ∧ s.rain.dryRestarted = true ∧ s.rain.bounceTimer = some 250) ∧
    (∀ bounce ∈ [none, some 249],
      let s := { State.reset with rain := { State.reset.rain with
        storm := .wet, dryTimer := some 9, dryRestarted := true, bounceTimer := bounce } }
      s.power = .on ∧ s.rain.dryTimer.isSome = true ∧ ¬ (s.rain.dryRestarted = true ∧ s.rain.bounceTimer = some 250)) ∧
    (let s := { State.reset with rain := { State.reset.rain with storm := .wet, dryTimer := some 9 } }
     s.power = .on ∧ s.rain.storm = .wet ∧ s.rain.dryTimer.isSome = true ∧ s.rain.bounceTimer = none) := by
  decide +kernel

theorem witness_BinCloseJudgesTheStorm :
    ∀ st : StormState, let s := { State.reset with rain := { State.reset.rain with storm := st } }
      s.power = .on ∧ s.rain.minuteTimer.isSome = true ∧ s.rain.storm = st := by
  intro st; cases st <;> decide

theorem waiting_storm (c : Instr) : (waiting c).StormLawful := by
  refine ⟨rfl, fun h => absurd h (by simp [waiting, State.reset]), by simp [waiting, State.reset]⟩

theorem witness_StormLawIsKept :
    ∃ t, (waiting .tipArrival).StormLawful ∧ step (waiting .tipArrival) = .next t := ⟨_, waiting_storm _, rfl⟩

theorem witness_RosterSecondCounts : State.reset.power = .on ∧ State.reset.roster.secondTimer.isSome = true := by decide

theorem witness_FaultTimersLockThePumpOut :
    (let s := bay1 (fun p => { p with state := .running, feedbackLoss := some 0 }) State.reset
     s.power = .on ∧ (s.pump .b1).feedbackLoss.isSome = true ∧ (s.pump .b1).state = .running) ∧
    (let s := bay1 (fun p => { p with state := .stopping, stopConfirm := some 0 }) (busy true State.reset)
     s.power = .on ∧ (s.pump .b1).stopConfirm.isSome = true ∧ (s.pump .b1).state = .stopping ∧
      (s.contacts.runFeedback.get .b1).filtered = true) := by decide +kernel

theorem witness_MinRunAndMinRestAreServed :
    (∀ fb wanted : Bool, let s := { bay1 (fun p => { p with state := .running, minRun := some 0 }) (busy fb State.reset) with
        duty := { (busy fb State.reset).duty with counted := if wanted then [.b1] else [] } }
      s.live ∧ (s.pump .b1).minRun.isSome = true ∧ (s.pump .b1).state = .running ∧
        s.duty.wanted.contains .b1 = wanted ∧ (s.contacts.runFeedback.get .b1).filtered = fb) ∧
    (let s := bay1 (fun p => { p with state := .resting, minRest := some 0 }) State.reset
     s.live ∧ (s.pump .b1).minRest.isSome = true ∧ (s.pump .b1).state = .resting) := by
  refine ⟨?_, by decide +kernel⟩
  intro fb wanted; cases fb <;> cases wanted <;> decide +kernel

theorem witness_HoldsAndRestoreTimerEnd :
    (State.reset.live ∧ State.reset.roster.restartHold.isSome = true ∧ State.reset.arbiter.queue = []) ∧
    (let s := { wired fun k => { k with starterReady := .settled true } with
        supply := { State.reset.supply with restoreTimer := some 0 } }
     s.live ∧ s.supply.restoreTimer.isSome = true ∧ s.arbiter.queue = [] ∧ s.arbiter.health = .healthy ∧
      s.contacts.starterReady.filtered = true ∧ s.contacts.starterFault.filtered = false) := by decide +kernel

theorem witness_PumpResetClearsALockout :
    granted.cleared granted.answerNow ∧ (0 = 0 ∨ 4 < 0) ∧ (5 = 0 ∨ 4 < 5) ∧
      (Bay.number .b4 = 4 ∧ (granted.pump .b4).state = .absent) ∧
      (Bay.number .b1 = 1 ∧ (granted.pump .b1).state ≠ .absent ∧ (granted.pump .b1).selector ≠ .auto) ∧
      (let s := pump .idle granted
       s.cleared s.answerNow ∧ (s.pump .b1).state ≠ .absent ∧ (s.pump .b1).selector = .auto ∧
        (s.pump .b1).state ≠ .lockedOut) ∧
      (let s := pump .lockedOut granted
       s.cleared s.answerNow ∧ (s.pump .b1).selector = .auto ∧ (s.pump .b1).state = .lockedOut ∧
        (s.contacts.overload.get .b1).filtered = false) ∧
      (let s := pump .lockedOut (powerful granted)
       s.cleared s.answerNow ∧ (s.pump .b1).selector = .auto ∧ (s.pump .b1).state = .lockedOut ∧
        (s.contacts.overload.get .b1).filtered = true) := by decide +kernel

theorem witness_PumpForceSetsTheForcedMode :
    granted.cleared granted.answerNow ∧ 2 < 3 ∧ (2 ≤ 2 ∧ (0 = 0 ∨ 4 < 0)) ∧ (2 ≤ 2 ∧ (5 = 0 ∨ 4 < 5)) ∧
      (Bay.number .b4 = 4 ∧ (granted.pump .b4).state = .absent) ∧
      (Bay.number .b1 = 1 ∧ (granted.pump .b1).state ≠ .absent ∧ (granted.pump .b1).selector ≠ .auto) ∧
      (let s := bay1 (fun p => { p with inService := false }) (pump .idle granted)
       s.cleared s.answerNow ∧ (1 = 1 ∨ 1 = 2) ∧ (s.pump .b1).state ≠ .absent ∧ (s.pump .b1).selector = .auto ∧
        (s.pump .b1).inService = false) ∧
      (let s := pump .idle granted
       s.cleared s.answerNow ∧ (s.pump .b1).state ≠ .absent ∧ (s.pump .b1).selector = .auto ∧
        Forced.code .none = 0 ∧ Forced.code .run = 1 ∧ Forced.code .stop = 2 ∧
        ((s.pump .b1).inService = true ∨ Forced.run = .none)) := by decide +kernel

theorem witness_PumpServiceWritesTheService :
    granted.cleared granted.answerNow ∧ 1 < 2 ∧ (1 ≤ 1 ∧ (0 = 0 ∨ 4 < 0)) ∧ (1 ≤ 1 ∧ (5 = 0 ∨ 4 < 5)) ∧
      (Bay.number .b4 = 4 ∧ (granted.pump .b4).state = .absent) ∧
      (Bay.number .b1 = 1 ∧ (granted.pump .b1).state ≠ .absent ∧ (granted.pump .b1).selector ≠ .auto) ∧
      (let s := pump .idle granted
       s.cleared s.answerNow ∧ (s.pump .b1).selector = .auto ∧ (s.pump .b1).inService = true ∧
        (s.pump .b1).inService = ((0 : Nat) == 0) ∧ (s.pump .b1).state = .idle) ∧
      (∀ st ∈ [PumpState.queued, .running, .stopping, .lockedOut, .unavailable], let s := pump st granted
       s.cleared s.answerNow ∧ (s.pump .b1).selector = .auto ∧ (s.pump .b1).inService = true ∧ (s.pump .b1).state = st) ∧
      (let s := { pump .starting granted with
          arbiter := { State.reset.arbiter with state := .ramping, held := some .b1, rampTimer := some 5 } }
       s.cleared s.answerNow ∧ (s.pump .b1).selector = .auto ∧ (s.pump .b1).inService = true ∧
        (s.pump .b1).state = .starting ∧ s.arbiter.state = .ramping ∧ s.arbiter.held = some .b1) ∧
      (let s := bay1 (fun p => { p with inService := false }) (pump .unavailable (powerful granted))
       s.cleared s.answerNow ∧ (s.pump .b1).selector = .auto ∧ (s.pump .b1).inService = false ∧
        (s.pump .b1).state = .unavailable ∧ (s.contacts.overload.get .b1).filtered = true) ∧
      (let s := bay1 (fun p => { p with inService := false }) (pump .unavailable granted)
       s.cleared s.answerNow ∧ (s.pump .b1).selector = .auto ∧ (s.pump .b1).inService = false ∧
        (s.pump .b1).state = .unavailable ∧ (s.contacts.overload.get .b1).filtered = false) := by decide +kernel

theorem witness_ReadsReturnTheLongestRun :
    State.reset.ready ∧ (0 < 1 ∧ 25 ≤ 25 ∧ 24 < 25) ∧
      2 + ((List.range' 13 (min 12 (25 - 13))).map (conditionChars State.reset.heard)).flatten.length ≤ 200 ∧
      200 < 2 + ((List.range' 0 (min 25 (25 - 0))).map (conditionChars State.reset.heard)).flatten.length ∧
      (7 = 7 ∨ 8 < 7) ∧ (9 = 7 ∨ 8 < 9) := by decide +kernel

theorem witness_ChangeoverExpiryMakesThePumpDue :
    let s := { pump .running (busy true State.reset) with
      duty := { (busy true State.reset).duty with
        order := [.b1], changeoverTimer := State.reset.duty.changeoverTimer.put .b1 (some 0) } }
    s.live ∧ (s.duty.changeoverTimer.get .b1).isSome = true ∧ (s.pump .b1).state = .running := by decide +kernel

theorem witness_StageFollowsTheWetWell :
    (let r : ChannelReport := ⟨true, some 2250, true⟩
     r.level = some 2250 ∧ r.usable = true ∧ r.accepted = true) ∧
    (let r : ChannelReport := ⟨false, none, false⟩
     r.accepted = false ∨ r.usable = false) ∧
    (let start : Nat → Int := fun k => 1000 + 100 * k
     (0 < 4 ∧ start (0 + 1) ≤ 1100) ∧ ¬ (4 < 4 ∧ start (4 + 1) ≤ 9000) ∧ (4 ≤ 4 ∧ 0 ≤ 4)) := by decide +kernel

theorem witness_StageFollowsTheWetWell_notices :
    (∀ v : Bool, ∀ n ∈ [Notice.hf v, .lf v, .allOut v], n ≠ .queueTest ∧ ∀ r, n ≠ .wwReport r) ∧
    (let s := { pump .starting (busy false State.reset) with
        arbiter := { State.reset.arbiter with
          state := .ramping, held := some .b1, rampTimer := some 0, runOutput := true } }
     (s.pump .b1).state = .starting ∧ s.arbiter.state = .ramping ∧ s.arbiter.held = some .b1) := by
  refine ⟨fun v n h => ?_, by decide +kernel⟩
  simp only [List.mem_cons, List.not_mem_nil, or_false] at h
  obtain rfl | rfl | rfl := h <;> exact ⟨nofun, nofun⟩

theorem test_lf_moves_the_cutoff :
    let t := deliver (.lf false) (pump .running (busy true State.reset))
    t.duty.cutoff = true ∧ t.duty.stage = 0 ∧ (t.pump .b1).state = .resting ∧
      (deliver (.lf true) t).duty.cutoff = false := by decide +kernel

theorem witness_WantedSetStaysWithinTheAllowance :
    State.reset.duty.cutoff = true ∧ (busy true State.reset).duty.cutoff = false ∧ ¬ PassesButWindow State.reset .b1 ∧
      ∀ window ∈ [[], List.replicate 6 (⟨0, 0⟩ : StartEntry)],
        let s := bay1 (fun p => { p with window := window }) (pump .idle (busy false State.reset))
        let s := { s with
          duty := { s.duty with counted := [.b1] }, supply := { s.supply with limit := 1 }
          roster := { s.roster with restartHold := none } }
        PassesButWindow s .b1 ∧ (s.itemNat 3 3 ≤ (s.pump .b1).window.length ↔ window ≠ []) := by
  unfold PassesButWindow; decide +kernel

theorem waiting_outputs (c : Instr) : (waiting c).OutputsFollow := by
  refine ⟨fun b => ?_, fun x => ?_, rfl, fun l h => nomatch h⟩
  · cases b <;> exact ⟨rfl, rfl⟩
  · cases x <;> exact ⟨rfl, rfl⟩

theorem witness_OutputLawIsKept :
    ∃ t, (waiting .rosterSecondTimerExpiry).OutputsFollow ∧ step (waiting .rosterSecondTimerExpiry) = .next t :=
  ⟨_, waiting_outputs _, rfl⟩

theorem waiting_cutoff (c : Instr) : (waiting c).CutoffKeepsDry := ⟨rfl, fun _ b => by cases b <;> rfl⟩

theorem witness_CutoffLawIsKept :
    ∃ t, (waiting .restartHoldExpiry).duty.cutoff = true ∧ (waiting .restartHoldExpiry).CutoffKeepsDry ∧
      step (waiting .restartHoldExpiry) = .next t := ⟨_, rfl, waiting_cutoff _, rfl⟩

theorem witness_RampExpirySettlesTheStart :
    ∀ fb : Bool, let s := { pump .starting (busy fb State.reset) with
        arbiter := { State.reset.arbiter with
          state := .ramping, held := some .b1, rampTimer := some 0, runOutput := true } }
      s.power = .on ∧ s.arbiter.rampTimer.isSome = true ∧ s.arbiter.held = some .b1 ∧ (s.pump .b1).state = .starting ∧
        (s.contacts.runFeedback.get .b1).filtered = fb := by
  intro fb; cases fb <;> decide +kernel

theorem witness_GapExpiryGrantsTheHead :
    (let s := { State.reset with arbiter := { State.reset.arbiter with state := .gap, gapTimer := some 0 } }
     s.live ∧ s.arbiter.state = .gap ∧ s.arbiter.gapTimer.isSome = true ∧ s.arbiter.queue = [] ∧
      s.arbiter.gateSupply = .none) ∧
    (let s := { pump .queued (busy false State.reset) with
        arbiter := { State.reset.arbiter with
          state := .gap, gapTimer := some 0, queue := [.b1], gateSupply := .mains, holdExpired := true } }
     s.live ∧ s.arbiter.state = .gap ∧ s.arbiter.gapTimer.isSome = true ∧ s.arbiter.queue = .b1 :: [] ∧
      (s.pump .b1).state = .queued ∧ s.arbiter.gateSupply ≠ .none ∧ s.arbiter.gateRestore = false ∧
      s.arbiter.holdExpired = true ∧ (s.pump .b1).window.length < s.itemNat 3 3) := by decide +kernel

/-- The starter free, bays 1 and 2 QUEUED in that order, bay 1 with its start window full and bay 2 with room or not. -/
def twoQueued (st : StarterState) (room : Bool) : State :=
  let full : List StartEntry := List.replicate 6 ⟨0, 0⟩
  let s := bay1 (fun p => { p with window := full }) (pump .queued (busy false State.reset))
  { s.modPump .b2 (fun p => { p with state := .queued, selector := .auto, window := if room then [] else full }) with
    arbiter := { s.arbiter with
      state := st, gapTimer := some 0, queue := [.b1, .b2], gateSupply := .mains, holdExpired := true } }

theorem witness_GapExpiryGrantsTheHead_declined :
    (∀ st ∈ [StarterState.gap, .idle], ∀ room : Bool,
      let s := twoQueued st room
      s.live ∧ s.arbiter.state = st ∧ s.arbiter.gapTimer.isSome = true ∧ GateOpen s ∧
        s.arbiter.queue = (if room then [.b1] else [.b1, .b2]) ++ (if room then [.b2] else []) ∧
        (∀ b ∈ (if room then [Bay.b1] else [.b1, .b2]),
          (s.pump b).state = .queued ∧ s.itemNat 3 3 ≤ (s.pump b).window.length) ∧
        (room = true → (s.pump .b2).state = .queued ∧ (s.pump .b2).window.length < s.itemNat 3 3)) ∧
    ¬ GateOpen State.reset ∧ (twoQueued .ramping true).arbiter.state ≠ .idle := by
  unfold GateOpen; decide +kernel

/-- A head with a full window is declined and the next head is tried at once (R51). -/
theorem test_declined_grant :
    let t := grantTest (twoQueued .idle true)
    (t.pump .b1).state = .idle ∧ (t.pump .b1).startLimited = true ∧ (t.pump .b2).state = .starting ∧
      t.arbiter.held = some .b2 ∧ t.arbiter.queue = [] := by decide +kernel

theorem witness_SupplyFollowsItsInputs :
    (let s := wired fun k => { k with mainsPresent := ⟨true, false, some true, some 0⟩ }
     s.power = .on ∧ (s.contacts.get .mainsPresent).timer.isSome = true ∧
      (s.contacts.get .mainsPresent).pendingState = some true) ∧
    (let s := wired fun k => { k with generatorRunning := ⟨true, false, some true, some 0⟩ }
     s.power = .on ∧ (s.contacts.get .generatorRunning).timer.isSome = true ∧
      (s.contacts.get .generatorRunning).pendingState = some true) := by decide +kernel

/-- The part on a supply with bay 1 ramping, a change of the mains input to `v` waiting. -/
def switching (now : SupplyState) (generator fault v : Bool) : State :=
  { bay1 (fun p => { p with starterSelect := true }) (pump .starting (busy false State.reset)) with
    contacts := { State.reset.contacts with
      mainsPresent := ⟨v, !v, some v, some 0⟩, starterFault := ⟨fault, fault, none, none⟩ }
    supply := { State.reset.supply with state := now, limit := 2, mains := !v, generator := generator }
    arbiter := { State.reset.arbiter with state := .ramping, held := some .b1, rampTimer := some 9, runOutput := true }
    screens := { State.reset.screens with ramping := true, supply := now } }

/-- The supply state that a change of the mains input to `v` decides. -/
def decided (v generator : Bool) : SupplyState := if v then .mains else if generator then .generator else .none

theorem witness_SupplyFollowsItsInputs_clauses :
    (∀ v generator fault : Bool,
      let s := switching (decided (!v) generator) generator fault v
      s.power = .on ∧ (s.contacts.get .mainsPresent).timer.isSome = true ∧
        (s.contacts.get .mainsPresent).pendingState = some v ∧ s.inbox = [] ∧ s.supply.state ≠ decided v generator ∧
        s.OutputsFollow ∧ s.arbiter.state = .ramping ∧
        s.contacts.starterFault.filtered = fault ∧ s.screens.ramping = true) ∧
    decided false false = .none ∧ decided true false ≠ .none ∧ decided false true ≠ .none ∧
    (switching .none false false false).supply.state = decided false false := by
  refine ⟨fun v generator fault => ?_, by decide, by decide, by decide, by decide⟩
  cases v <;> cases generator <;> cases fault <;>
    exact ⟨rfl, rfl, rfl, rfl, by decide,
      ⟨fun b => by cases b <;> exact ⟨rfl, rfl⟩, fun x => by cases x <;> exact ⟨rfl, rfl⟩, rfl, nofun⟩, rfl, rfl, rfl⟩

/-- A fall of the limit sheds the pump on the ramp, and the starter goes into its gap (R93, R101); a rise sheds none. -/
theorem test_ramp_shed :
    let s := switching .none false false false
    let s := { s with duty := { s.duty with order := [.b1] } }
    let t := recomputeLimit s
    let u := recomputeLimit { s with supply := { s.supply with state := .mains, limit := 1 } }
    RampShed s t ∧ t.arbiter.state = .gap ∧ (t.pump .b1).state = .resting ∧ (u.pump .b1).state = .starting ∧
      u.arbiter = s.arbiter ∧ u.inbox = [.queueTest] :=
  ⟨⟨rfl, .b1, by decide +kernel, by decide +kernel, by decide +kernel⟩, by decide +kernel⟩

/-- At the loss of all supply the ramping pump goes to RESTING, the Arbiter to IDLE and SUPPLY_NONE rises (R102, R104). -/
theorem test_loss_of_supply :
    let t := after (exec (.filterTimerExpiry (.switch .mainsPresent)) (switching .mains false false false))
    t.supply.state = .none ∧ (t.pump .b1).state = .resting ∧ t.arbiter.state = .idle ∧ t.arbiter.runOutput = false ∧
      (t.cond .supplyNone).active = true ∧ (t.cond .mainsFail).active = true := by decide +kernel

theorem witness_RakeTimersMoveTheRake :
    (let s := rake .idle (powerful State.reset)
     s.live ∧ (s.screen .a).interval.elapsed.isSome = true ∧ (s.screen .a).inUse = true ∧ (s.screen .a).state = .idle ∧
      FreeToRake s) ∧
    (let s := rake .idle State.reset
     s.live ∧ (s.screen .a).interval.elapsed.isSome = true ∧ (s.screen .a).inUse = true ∧ ¬ FreeToRake s) ∧
    (∀ st ∈ [ScreenState.rising, .lowering, .homing],
      let s := screenA (fun r => { r with strokeTimer := some 0 }) (rake st State.reset)
      s.live ∧ (s.screen .a).strokeTimer.isSome = true ∧ (s.screen .a).state = st) ∧
    (∀ top : Bool, let p := powerful State.reset
      let s := screenA (fun r => { r with clearTimer := some 0 }) (rake .clearing
        { p with contacts := { p.contacts with topLimit := ⟨.settled top, .settled false⟩ } })
      s.live ∧ (s.screen .a).clearTimer.isSome = true ∧ (s.screen .a).state = .clearing ∧
        (s.contacts.rakeOverload.get .a).filtered = true ∧ (s.contacts.topLimit.get .a).filtered = top) ∧
    (let s := screenA (fun r => { r with clearTimer := some 0, overloadSeen := true }) (rake .clearing State.reset)
     s.live ∧ (s.screen .a).clearTimer.isSome = true ∧ (s.screen .a).state = .clearing ∧
      (s.contacts.rakeOverload.get .a).filtered = false ∧ (s.screen .a).overloadSeen = true) := by
  simp only [FreeToRake]; decide +kernel

theorem witness_ScreenInhibitRestsTheScreen :
    granted.cleared granted.answerNow ∧ 1 < 2 ∧ (1 ≤ 1 ∧ 1 < 2) ∧
      (let s := screenA (fun r => { r with inUse := false }) granted
       s.cleared s.answerNow ∧ Screen.index .a = 0 ∧ (s.screen .a).inUse = false) ∧
      (Screen.index .b = 1 ∧ (granted.screen .b).inUse = true ∧ (granted.screen .b).selectorAuto = false) ∧
      (let s := rake .idle granted
       s.cleared s.answerNow ∧ (s.screen .a).inUse = true ∧ (s.screen .a).selectorAuto = true ∧
        (s.screen .a).state ≠ .inhibited) ∧
      (let s := screenA (fun r => { r with inhibit := true }) (rake .inhibited granted)
       s.cleared s.answerNow ∧ (s.screen .a).inUse = true ∧ (s.screen .a).selectorAuto = true ∧
        (s.screen .a).state = .inhibited ∧ (s.screen .a).pending = false) ∧
      (let s := screenA (fun r => { r with inhibit := true, pending := true }) (rake .inhibited granted)
       s.cleared s.answerNow ∧ (s.screen .a).inUse = true ∧ (s.screen .a).selectorAuto = true ∧
        (s.screen .a).state = .inhibited ∧ (s.screen .a).pending = true) := by decide +kernel

theorem witness_ScreenRakeTriggersACycle :
    State.reset.ready ∧ 1 < 2 ∧
      (let s := screenA (fun r => { r with inUse := false }) State.reset
       s.ready ∧ Screen.index .a = 0 ∧ (s.screen .a).inUse = false) ∧
      (Screen.index .b = 1 ∧ (State.reset.screen .b).inUse = true ∧ (State.reset.screen .b).selectorAuto = false) ∧
      (let s := rake .idle State.reset
       s.ready ∧ (s.screen .a).inUse = true ∧ (s.screen .a).selectorAuto = true ∧ ¬ FreeToRake s) ∧
      (let s := rake .idle (powerful State.reset)
       s.ready ∧ (s.screen .a).inUse = true ∧ (s.screen .a).selectorAuto = true ∧ (s.screen .a).state = .idle ∧
        FreeToRake s) := by
  simp only [FreeToRake]; decide +kernel

theorem witness_ScreenResetClearsAJam :
    granted.cleared granted.answerNow ∧ 1 < 2 ∧
      (let s := screenA (fun r => { r with inUse := false }) granted
       s.cleared s.answerNow ∧ Screen.index .a = 0 ∧ (s.screen .a).inUse = false) ∧
      (Screen.index .b = 1 ∧ (granted.screen .b).inUse = true ∧ (granted.screen .b).selectorAuto = false) ∧
      (let s := rake .idle granted
       s.cleared s.answerNow ∧ (s.screen .a).inUse = true ∧ (s.screen .a).selectorAuto = true ∧
        (s.screen .a).state ≠ .jammed) ∧
      (let s := rake .jammed granted
       s.cleared s.answerNow ∧ (s.screen .a).inUse = true ∧ (s.screen .a).selectorAuto = true ∧
        (s.screen .a).state = .jammed ∧ (s.contacts.rakeOverload.get .a).filtered = false) ∧
      (let s := rake .jammed (powerful granted)
       s.cleared s.answerNow ∧ (s.screen .a).inUse = true ∧ (s.screen .a).selectorAuto = true ∧
        (s.screen .a).state = .jammed ∧ (s.contacts.rakeOverload.get .a).filtered = true ∧
        (s.contacts.homeLimit.get .a).filtered = false) ∧
      (let p := powerful granted
       let s := rake .jammed { p with contacts := { p.contacts with homeLimit := ⟨.settled true, .settled true⟩ } }
       s.cleared s.answerNow ∧ (s.screen .a).inUse = true ∧ (s.screen .a).selectorAuto = true ∧
        (s.screen .a).state = .jammed ∧ (s.contacts.rakeOverload.get .a).filtered = true ∧
        (s.contacts.homeLimit.get .a).filtered = true ∧ s.screens.supply ≠ .none) := by decide +kernel

theorem witness_ScreenResetClearsAJam_noSupply :
    let p := powerful granted
    let s := rake .jammed { p with
      contacts := { p.contacts with homeLimit := ⟨.settled true, .settled true⟩ }
      screens := { p.screens with supply := .none } }
    s.cleared s.answerNow ∧ (s.screen .a).inUse = true ∧ (s.screen .a).selectorAuto = true ∧
      (s.screen .a).state = .jammed ∧ (s.contacts.rakeOverload.get .a).filtered = true ∧
      (s.contacts.homeLimit.get .a).filtered = true ∧ s.screens.supply = .none := by decide +kernel

theorem witness_IntegrationJudgesTheSpill :
    (State.reset.power = .on ∧ State.reset.spill.integrationTimer.isSome = true ∧
      State.reset.spill.report.usable = false) ∧
    (let s := { State.reset with spill := { State.reset.spill with report := ⟨true, some 2086, true⟩ } }
     s.power = .on ∧ s.spill.integrationTimer.isSome = true ∧ s.spill.report.usable = true ∧
      s.spill.report.level = some 2086) := by decide

theorem witness_RatedFlowIsInterpolated :
    let m := State.reset.spill.rating
    (m.points.map Prod.fst).IsChain (· < ·) ∧ (m.points.map Prod.snd).IsChain (· ≤ ·) ∧
      (m.points = (0, 0) :: [(50, 120), (100, 340), (200, 960), (400, 2900)] ∧ (0 : Int) ≤ 0) ∧
      (m.points = [(0, 0), (50, 120), (100, 340), (200, 960)] ++ [(400, 2900)] ∧ (400 : Int) ≤ 400) ∧
      (m.points = [(0, 0), (50, 120)] ++ (100, 340) :: (200, 960) :: [(400, 2900)] ∧ (100 : Int) ≤ 100 ∧
        (100 : Int) < 200) := by
  refine ⟨by simp [State.reset], by simp [State.reset], by decide, by decide, by decide⟩

theorem witness_VolumeIsCarriedExactly :
    (let t := { Tally.begin 0 with rem := 9, litres := 4294967294 }
     t.rem < 10 ∧ t.flags.volumeSaturated = false ∧ t.litres + (t.rem + 1) / 10 ≤ 4294967295 ∧
      4294967295 < t.litres + (t.rem + 11) / 10) ∧
    (let t := { Tally.begin 0 with flags := { RecordFlags.empty with volumeSaturated := true } }
     t.rem < 10 ∧ t.flags.volumeSaturated = true) := by decide

theorem witness_SpillSecondMovesTheEpisode :
    (let r : SpillSecond := ⟨false, true, 563, some 136, .empty⟩
     r.before = false ∧ r.now = true ∧ State.reset.episodes.qualifying = false ∧
      State.reset.episodes.inProgress = .none) ∧
    (let r : SpillSecond := ⟨true, false, 0, none, .empty⟩
     let s := { State.reset with episodes := { State.reset.episodes with qualifying := true } }
     r.before = true ∧ r.now = false ∧ s.episodes.qualifying = true ∧ r.marks.settingsChanged = false) ∧
    (let r : SpillSecond := ⟨false, true, 563, some 136, .empty⟩
     let e := { closedEpisode 1 with state := .closing }
     let s := slotted (sixSlots.set 0 (some e))
       { State.reset with episodes := { State.reset.episodes with inProgress := .slot 0 } }
     r.before = false ∧ r.now = true ∧ s.episodes.qualifying = false ∧ s.episodes.inProgress = .slot 0 ∧
      s.episodes.slots.get 0 = some e ∧ e.state = .closing) := by decide +kernel

theorem witness_SpillSecondMovesTheEpisode_slot :
    ∀ st ∈ [EpisodeState.opened, .closing], ∀ gap ∈ [(0 : Int), 7200], ∀ before now changed : Bool,
      let r : SpillSecond := ⟨before, now, 563, some 136, { RecordFlags.empty with settingsChanged := changed }⟩
      let e := { closedEpisode 1 with state := st }
      let s := slotted (sixSlots.set 0 (some e)) { State.reset with
        episodes := { State.reset.episodes with inProgress := .slot 0 }
        store := { State.reset.store with working := Settings.defaults.set 6 37 gap } }
      r.before = before ∧ r.now = now ∧ r.marks.settingsChanged = changed ∧ s.episodes.qualifying = false ∧
        s.episodes.inProgress = .slot 0 ∧ s.episodes.slots.get 0 = some e ∧ e.state = st ∧ s.itemNat 6 37 = gap.toNat := by
  decide +kernel

theorem witness_SpillSecondMovesTheEpisode_accumulator :
    ∀ closing : Bool, ∀ gap ∈ [(0 : Int), 7200],
      let p : AccProgress := ⟨closing, 5, if closing then some 9 else none⟩
      let s := { State.reset with
        episodes := { State.reset.episodes with
          inProgress := .accumulator, acc := { Accumulator.empty with current := some p } }
        store := { State.reset.store with working := Settings.defaults.set 6 37 gap } }
      s.episodes.qualifying = false ∧ s.episodes.inProgress = .accumulator ∧ s.episodes.acc.current = some p ∧
        p.closing = closing ∧ s.itemNat 6 37 = gap.toNat := by decide +kernel

theorem witness_SpillSecondMovesTheEpisode_qualifying :
    let a : Accumulation := ⟨40001, Tally.begin 40001⟩
    let s := { State.reset with
      spill := { State.reset.spill with accumulation := some a }
      episodes := { State.reset.episodes with qualifying := true } }
    s.episodes.qualifying = true ∧ s.spill.accumulation = some a := by decide +kernel

theorem witness_QualifyExpiryOpensTheEpisode :
    let p : Accumulation := ⟨40001, Tally.begin 40001⟩
    let s := { State.reset with
      spill := { State.reset.spill with accumulation := some p }
      episodes := { State.reset.episodes with qualifying := true, qualifyTimer := some 0 } }
    (s.power = .on ∧ s.episodes.qualifyTimer.isSome = true ∧ s.spill.accumulation = some p ∧
      s.episodes.slots.get 0 = none ∧ ∀ j : Fin 16, j < 0 → (s.episodes.slots.get j).isSome = true) ∧
    ((slotted sixSlots s).episodes.slots.get 6 = none ∧
      ∀ j : Fin 16, j < 6 → ((slotted sixSlots s).episodes.slots.get j).isSome = true) ∧
    (let u := slotted (sixSlots.map fun e => some (e.getD (closedEpisode 9))) s
     u.power = .on ∧ u.episodes.qualifyTimer.isSome = true ∧ u.spill.accumulation = some p ∧
      (∀ j : Fin 16, (u.episodes.slots.get j).isSome = true) ∧ u.episodes.acc.count = 0) := by decide +kernel

theorem waiting_serials (c : Instr) : (waiting c).SerialsLawful := by
  have empty : ∀ i, State.reset.episodes.slots.get i = none := by decide +kernel
  change State.reset.SerialsLawful
  refine ⟨by decide, fun i e h => ?_, fun i j e f h => ?_⟩ <;> (rw [empty] at h; cases h)

theorem witness_SerialLawIsKept :
    ∃ t, (waiting .qualifyTimerExpiry).SerialsLawful ∧ step (waiting .qualifyTimerExpiry) = .next t :=
  ⟨_, waiting_serials _, rfl⟩

theorem witness_MergeExpirySettlesTheEpisode :
    (let e := { closedEpisode 1 with state := .closing }
     let s := slotted (sixSlots.set 0 (some e))
       { State.reset with episodes := { State.reset.episodes with inProgress := .slot 0, mergeTimer := some 0 } }
     s.power = .on ∧ s.episodes.mergeTimer.isSome = true ∧ s.episodes.inProgress = .slot 0 ∧
      s.episodes.slots.get 0 = some e) ∧
    (let s := { State.reset with episodes := { State.reset.episodes with
        inProgress := .accumulator, mergeTimer := some 0, acc := { Accumulator.empty with current := some ⟨true, 5, some 9⟩ } } }
     s.power = .on ∧ s.episodes.mergeTimer.isSome = true ∧ s.episodes.inProgress = .accumulator ∧
      s.episodes.acc.current = some ⟨true, 5, some 9⟩) := by decide +kernel

/-- The storm ends with the episode where the hold is satisfied (R36), and not before. -/
theorem test_storm_ends_with_the_episode :
    let ends (quiet : Nat) : State := after (exec .mergeTimerExpiry { State.reset with
      rain := { State.reset.rain with storm := .storm, quiet := quiet, episodeFlag := true, dryTimer := some 9 }
      episodes := { State.reset.episodes with
        inProgress := .accumulator, mergeTimer := some 0
        acc := { Accumulator.empty with current := some ⟨true, 5, some 9⟩ } } })
    (ends 255).rain.storm = .wet ∧ (ends 0).rain.storm = .storm ∧ (ends 255).duty.storm = .wet := by decide +kernel

theorem witness_RetirementFreesTheRecord :
    State.reset.ready ∧ 15 < 16 ∧ State.reset.episodes.slots.get 15 = none ∧
      (let s := slotted sixSlots State.reset
       s.ready ∧ s.episodes.slots.get 5 = some (closedEpisode 6) ∧ 5 ≠ (closedEpisode 6).serial ∧
        6 = (closedEpisode 6).serial ∧ (closedEpisode 6).state = .closed) ∧
      (let e := { closedEpisode 6 with state := .opened }
       let s := slotted (sixSlots.set 5 (some e)) State.reset
       s.ready ∧ s.episodes.slots.get 5 = some e ∧ 6 = e.serial ∧ e.state ≠ .closed) ∧
      1 ≠ State.reset.episodes.acc.count ∧ State.reset.episodes.acc.current = none ∧
      (let s := { State.reset with episodes := { State.reset.episodes with
          acc := { Accumulator.empty with current := some ⟨true, 5, some 9⟩ } } }
       s.ready ∧ s.episodes.acc.current.isSome = true) := by decide +kernel

theorem witness_AcknowledgementSettlesTheRecord :
    State.reset.ready ∧ 24 < 25 ∧ 1 ≠ (State.reset.heard.cond .wwHigh).change ∧
      0 ≠ (State.reset.heard.cond .settingsDefaulted).change := by decide +kernel

theorem witness_ShelvingTakesTheRecordOut :
    (shelved.power = .on ∧ (shelved.cond .mainsFail).shelf.isSome = true) ∧ granted.cleared granted.answerNow ∧
      ((0 < 1 ∨ 1440 < 0) ∧ (1441 < 1 ∨ 1440 < 1441)) ∧ (1 ≤ 1 ∧ 1 ≤ 1440 ∧ 24 < 25) ∧ (1 ≤ 1440 ∧ 1440 ≤ 1440) ∧
      Source.restart ∈ [Source.wwFloatHigh, .supplyNone, .overflowActive, .restart, .settingsDefaulted] ∧
      Source.mainsFail ∉ [Source.wwFloatHigh, .supplyNone, .overflowActive, .restart, .settingsDefaulted] := by
  decide +kernel

theorem waiting_attention (c : Instr) : (waiting c).AttentionLawful := by
  change State.reset.AttentionLawful
  unfold State.AttentionLawful; decide +kernel

theorem witness_AttentionLawIsKept :
    ∃ t, (waiting .linkTimerExpiry).AttentionLawful ∧ step (waiting .linkTimerExpiry) = .next t :=
  ⟨_, waiting_attention _, rfl⟩

theorem witness_ReceiverHearsAndAbandons :
    (∀ r : Receiver, (receiver r State.reset).power = .on ∧ (receiver r State.reset).line.receiver = r) ∧
      (∀ d ∈ [1#8, 0#8, 7#8], ∀ mark : Bool, Good (Character.make d mark) ∧ (Character.make d mark).mark = mark) ∧
      (∀ pending : Bool, let s := { State.reset with
          line := { State.reset.line with receiver := .turnaround, restartPending := pending } }
        s.power = .on ∧ s.line.receiver = .turnaround ∧ s.line.restartPending = pending) ∧
      (¬ Good ⟨1#8, true, true, true⟩ ∧ ¬ Good { Character.make 1#8 true with stop := false }) ∧
      ({ State.reset with line := { State.reset.line with gapTimer := some 0 } } : State).line.gapTimer.isSome = true := by
  refine ⟨fun r => ?_, by decide +kernel, by decide, by decide +kernel, rfl⟩
  cases r <;> decide

theorem witness_ReceiverHearsAndAbandons_frame :
    (∀ d ∈ [0#8, 65#8], [] ++ [d] = d :: ([] : List Byte) ∧ (d.toNat = 0 ∨ 64 < d.toNat)) ∧
    (∀ d ∈ [1#8, 64#8], 1 ≤ d.toNat ∧ d.toNat ≤ 64 ∧ ([] : List Byte).length ≠ d.toNat + 2) ∧
    (∀ body ∈ [[0x19#8, 0#8, 0#8, 0#8, 1#8], [0x01#8]], let len : Byte := byte body.length
      let check := checkChars (len :: body)
      (len :: body ++ check.dropLast) ++ [check.getLast!] = len :: (body ++ check) ∧
        (body ++ check).length = len.toNat + 2 ∧ (body ++ check).take len.toNat = body ∧
        (body ++ check).drop len.toNat = check ∧ (body ++ check.map (~~~ ·)).drop len.toNat ≠ check) ∧
    (∀ broadcast : Bool, let f : Frame := ⟨broadcast, []⟩
      let s := { receiver .receiving State.reset with
        line := { State.reset.line with receiver := .receiving, frame := some f } }
      s.power = .on ∧ s.line.receiver = .receiving ∧ s.line.frame = some f ∧ f.broadcast = broadcast) := by
  decide +kernel

theorem witness_RequestIsItsFrame :
    ∀ a ∈ [1, 255], let s := { State.reset with line := { State.reset.line with address := a } }
      (Instr.shelve 65535 24 1440).WellFormed ∧
        (Instr.shelve 65535 24 1440).request = some (0x06, word 65535 ++ byte 24 :: word 1440) ∧
        s.power = .on ∧ 1 ≤ s.line.address ∧ s.line.address ≤ 255 := by
  intro a h; simp only [List.mem_cons, List.not_mem_nil, or_false] at h
  rcases h with rfl | rfl <;> simp [Instr.WellFormed, Instr.request, State.reset]

theorem witness_RequestIsItsFrame_address : ∀ time, Instr.shelve 65535 24 1440 ≠ .setClock true time := by simp

theorem witness_RequestTableIsExact :
    ((Instr.writeSetting 65535 255 255 (-32768)).WellFormed ∧
      (Instr.writeSetting 65535 255 255 (-32768)).request =
        some (0x17, word 65535 ++ [byte 255, byte 255] ++ signed (-32768))) ∧
    (0x00 < 0x01 ∧ 0x1E < 0x1F) ∧ ((0x01 ∈ [0x01, 0x05, 0x12, 0x14, 0x15, 0x1A, 0x1C]) ∧ [1#8].length ≠ 0) ∧
    (0x17 ∈ [0x17] ∧ [1#8, 1#8, 1#8, 1#8, 1#8].length ≠ 6) := by
  refine ⟨⟨by simp [Instr.WellFormed, fitsItem], rfl⟩, by decide, by decide, by decide⟩

theorem witness_SingleRecordsAreAnswered : State.reset.ready := by decide

theorem witness_ReplyAndLinkTimersExpire :
    (let s := { State.reset with line := { State.reset.line with turnaroundTimer := some 0 } }
     s.power = .on ∧ s.line.turnaroundTimer.isSome = true) ∧
    ((receiver .sending State.reset).power = .on ∧ (receiver .sending State.reset).line.receiver = .sending ∧
      (receiver .sending State.reset).line.restartPending = false) ∧
    (State.reset.power = .on ∧ State.reset.line.linkTimer.isSome = true) := by decide

theorem witness_AuthorityRequestsAreJudged :
    (∀ st : AuthState, (station12 8565 st).ready ∧ (station12 8565 st).authority.permit = true ∧
      (station12 8565 st).authority.state = st ∧ 2997 = (station12 8565 st).answerNow ∧
      0 ≠ (station12 8565 st).answerNow) ∧
    State.reset.ready ∧ State.reset.authority.permit = false := by
  refine ⟨fun st => ?_, by decide, rfl⟩
  cases st <;> decide +kernel

theorem witness_AuthorityTimersFail :
    (let s := { State.reset with authority := { State.reset.authority with
        state := .challenged, answerTimer := some 0, failures := 2 } }
     s.power = .on ∧ s.authority.answerTimer.isSome = true) ∧
    (let s := { State.reset with authority := { State.reset.authority with
        state := .granted, supervisionTimer := some 0 } }
     s.power = .on ∧ s.authority.supervisionTimer.isSome = true) ∧
    (let s := { wired fun k => { k with remotePermit := ⟨true, false, some true, some 0⟩ } with
        authority := { State.reset.authority with state := .barred, failures := 3 } }
     s.power = .on ∧ s.inbox = [] ∧ s.authority.state = .barred ∧ s.contacts.remotePermit.timer.isSome = true ∧
      s.contacts.remotePermit.pendingState = some true) := by decide +kernel

theorem witness_PrivilegedRequestNeedsAuthority :
    privilegedAnswer (.pumpReset 0 1) = some 0 ∧
      (Instr.pumpReset 0 1).request = some (0x0B, word 0 ++ [byte 1]) ∧
      ∀ st : AuthState, (station12 8565 st).ready ∧ (station12 8565 st).authority.state = st ∧
        0 ≠ (station12 8565 st).answerNow := by
  refine ⟨rfl, rfl, fun st => ?_⟩
  cases st <;> decide +kernel

theorem waiting_authority (c : Instr) : (waiting c).AuthorityLawful := by
  change State.reset.AuthorityLawful
  refine ⟨fun _ => ⟨fun b => ?_, fun x => ?_, fun i => ?_⟩, fun h => ?_, fun h => ?_, by decide, by decide⟩
  · cases b <;> rfl
  · cases x <;> rfl
  · cases i <;> decide +kernel
  · exact absurd h (by decide)
  · exact absurd h (by decide)

theorem witness_AuthorityLawIsKept :
    ∃ t, (waiting .openAuthority).AuthorityLawful ∧ step (waiting .openAuthority) = .next t :=
  ⟨_, waiting_authority _, rfl⟩

theorem witness_RestartComesWhenTheReplyEnds :
    (granted.cleared granted.answerNow ∧ granted.store.commit = none) ∧
    (let s := { granted with store := { granted.store with commit := some 2000 } }
     s.cleared s.answerNow ∧ s.store.commit.isSome = true) ∧
    (let s := { State.reset with line := { State.reset.line with receiver := .sending, restartPending := true } }
     s.power = .on ∧ s.line.receiver = .sending ∧ s.line.restartPending = true) := by decide

theorem witness_WriteSettingTakesTheValue :
    granted.cleared granted.answerNow ∧ (∀ table ∈ [7, 9], table = 7 ∨ 8 < table) ∧
      (∀ table ∈ [0, 1, 2, 3, 4, 5, 6, 8], ∃ size ∈ [7, 31, 16, 12, 16, 9, 39, 50],
        (ranges granted.store.working table).length = size ∧ size - 1 < size ∧ size ≤ size) ∧
      (let s := { granted with store := { granted.store with commit := some 2000 } }
       s.cleared s.answerNow ∧ 15 < (ranges s.store.working 2).length ∧ s.store.commit.isSome = true) ∧
      (granted.store.commit = none ∧ 0 < (ranges granted.store.working 4).length ∧ ¬ Fits granted.store.working 4 0 0) ∧
      (2 < (ranges granted.store.working 2).length ∧ Fits granted.store.working 2 2 150) ∧
      (∀ item ∈ [1, 17, 18, 33], item < (ranges granted.store.working 6).length) ∧ Fits granted.store.working 6 1 16 ∧
      (49 < (ranges granted.store.working 8).length ∧ Fits granted.store.working 8 49 0) ∧
      (∀ item ∈ [10, 11], item < (ranges granted.store.working 3).length ∧ Fits granted.store.working 3 item 1) := by
  refine ⟨by decide +kernel, by decide, by decide +kernel, by decide +kernel, ?_, ?_, by decide +kernel,
    ⟨fun _ => .inr (by decide +kernel), fun h => absurd h (by decide), fun h => absurd h (by decide)⟩, ?_, ?_⟩ <;>
    simp only [Fits] <;> decide +kernel

theorem witness_WriteSettingTakesTheValue_outputs : granted.OutputsFollow := waiting_outputs .binClose

theorem witness_CommitStoresTheWorkingCopy :
    (granted.cleared granted.answerNow ∧ granted.store.commit = none) ∧
    (let s := { granted with store := { granted.store with commit := some 2000 } }
     s.cleared s.answerNow ∧ s.power = .on ∧ s.store.commit.isSome = true) := by decide

theorem witness_ClockCountsAndIsSet :
    4294967295 < 4294967296 ∧ State.reset.power = .on ∧ State.reset.clock.secondTimer.isSome = true ∧
      State.reset.ready ∧ State.reset.line.address ≠ 0 := by decide

theorem witness_SupplyLossHaltsThePart :
    ({ State.reset with power := .halted } : State).power = .halted ∧
    (State.reset.power = .on ∧ State.reset.store.commit = none) ∧
    (let s := { State.reset with store := { State.reset.store with commit := some 2000 } }
     s.power = .on ∧ s.store.commit.isSome = true) ∧
    (Instr.tipArrival ≠ .coldStart ∧ Instr.tipArrival ≠ .warmSupplyRestart) := by decide

theorem witness_RestartGivesTheRestartValues_table :
    (∀ st ∈ [EpisodeState.opened, .closing], ∀ gap ∈ [(0 : Int), 7200],
      let e := { closedEpisode 1 with state := st }
      let s := slotted (sixSlots.set 0 (some e)) { State.reset with
        episodes := { State.reset.episodes with inProgress := .slot 0 }
        store := ⟨Settings.defaults, Settings.defaults.set 6 37 gap, true, none⟩ }
      s.episodes.inProgress = .slot 0 ∧ s.episodes.slots.get 0 = some e ∧ e.state = st ∧
        (restart .warmSupply s).itemNat 6 37 = gap.toNat) ∧
    (∀ closing : Bool,
      let p : AccProgress := ⟨closing, 5, if closing then some 9 else none⟩
      let s := { State.reset with episodes := { State.reset.episodes with
        inProgress := .accumulator, acc := { Accumulator.empty with current := some p } } }
      s.episodes.inProgress = .accumulator ∧ s.episodes.acc.current = some p ∧ p.closing = closing ∧
        (closing = true → p.finish = some 9)) ∧
    State.reset.episodes.inProgress = .none := by decide +kernel

theorem witness_RestartGivesTheRestartValues :
    RestartCause.warmSupply ≠ .cold ∧
    ({ State.reset with power := .halted } : State).power = .halted ∧
    (State.reset.power = .on ∧ State.reset.store.commit = none) := by decide

end Sys2Proof.Tests
end

section
/-! PROOFS. Laws that every step keeps: what a command's way over the line needs of a law, proved once for every law. -/

namespace Sys2Proof.Machine

/-! ## Laws kept over the line -/

/-- A law that the moves of the line, of the clock and of the notices keep, whatever a request then does at its owner. -/
structure KeptOnLine (P : State → Prop) : Prop where
  line : ∀ s l, P s → P (s.setLine l)
  linkLost : ∀ s a, P s → P (s.report .linkLost a)
  clock : ∀ s n, P s → P (setClock n s)
  settle : ∀ s, P s → P (settle s)
  restart : ∀ s, P s → P (restart .warmRequest s)
  owner : ∀ i s, P s → P (ownerAnswer i s).state

/-- A command's guard keeps what its effect keeps (R199). -/
theorem powered_keeps {P : State → Prop} {f : State → State} {s t : State} (hf : P s → P (f s)) (hs : P s)
    (h : powered f s = .next t) : P t := by
  obtain rfl : (if s.power = .on then f s else s) = t := by simpa [powered] using h
  split
  · exact hf hs
  · exact hs

namespace KeptOnLine

variable {P : State → Prop} (k : KeptOnLine P) {s : State}

include k

theorem abandonFrame (hs : P s) : P (abandonFrame s) := k.line _ _ hs

theorem hearAddress (a : Nat) (hs : P s) : P (hearAddress a s) := by
  unfold Machine.hearAddress beginFrame
  split
  · exact k.line _ _ hs
  · split <;> exact k.line _ _ hs

theorem addressCharacter (a : Nat) (hs : P s) : P (addressCharacter a s) := by
  unfold Machine.addressCharacter discardReply
  split
  · exact k.hearAddress a hs
  · exact k.hearAddress a (k.abandonFrame hs)
  · split
    · exact k.restart _ hs
    · exact k.hearAddress a (k.line _ _ hs)
  · exact hs

theorem answerFrame (code : Nat) {act : State → Answer} (hact : ∀ s, P s → P (act s).state) (hs : P s) :
    P (answerFrame code act s) :=
  k.line _ _ (k.settle _ (hact _ (k.linkLost _ _ (k.line _ _ hs))))

/-- A request command keeps the law that its owner's answer keeps. -/
theorem addressed {t : State} (code : Nat) {act : State → Answer} (hact : ∀ s, P s → P (act s).state) (hs : P s)
    (h : addressed code act s = .next t) : P t := by
  refine powered_keeps (fun hs => ?_) hs h
  dsimp only
  split
  · exact k.answerFrame code hact (k.addressCharacter _ hs)
  · exact k.addressCharacter _ hs

theorem answerRequest (code : Nat) (p : List Byte) (hs : P s) : P (answerRequest code p s).state := by
  unfold Machine.answerRequest
  split
  · exact k.owner _ _ hs
  · exact hs

theorem completeFrame (broadcast : Bool) (chars : List Byte) (hs : P s) : P (completeFrame broadcast chars s) := by
  unfold Machine.completeFrame takeBroadcast
  split
  · split
    · split
      · split
        · exact k.line _ _ (k.clock _ _ hs)
        · exact k.line _ _ hs
      · exact k.answerFrame _ (fun _ h => k.answerRequest _ _ h) hs
    · exact k.abandonFrame hs
  · exact k.abandonFrame hs

theorem takeCharacter (f : Frame) (d : Byte) (hs : P s) : P (takeCharacter f d s) := by
  unfold Machine.takeCharacter
  dsimp only
  split
  · exact k.abandonFrame hs
  · split
    · exact k.completeFrame _ _ hs
    · exact k.line _ _ hs

theorem dataCharacter (d : Byte) (hs : P s) : P (dataCharacter d s) := by
  unfold Machine.dataCharacter
  split
  · exact k.takeCharacter _ d hs
  all_goals exact hs

theorem lineError (hs : P s) : P (lineError s) := by
  unfold Machine.lineError
  split
  · exact k.abandonFrame hs
  all_goals exact hs

/-- A received character keeps the law. -/
theorem receive (c : Character) (hs : P s) : P (receive c s) := by
  unfold Machine.receive
  split
  · split
    · exact k.addressCharacter _ hs
    · exact k.dataCharacter _ hs
  · exact k.lineError hs

theorem broadcastClock (n : Nat) (hs : P s) : P (broadcastClock n s) := by
  unfold Machine.broadcastClock
  dsimp only
  split
  · exact k.line _ _ (k.clock _ _ (k.addressCharacter 0 hs))
  · exact k.addressCharacter 0 hs

theorem replyEnds (hs : P s) : P (replyEnds s) := by
  unfold Machine.replyEnds
  split
  · exact k.restart _ hs
  · exact k.line _ _ hs

end KeptOnLine

end Sys2Proof.Machine
end

section
namespace Sys2Proof.Machine

/-- A request command is its owner's answer over the line (log 6), but for a broadcast SET_CLOCK. -/
theorem exec_request {i : Instr} {code : Nat} {p : List Byte} (s : State) (h : i.request = some (code, p))
    (hb : ∀ n, i ≠ .setClock true n) : exec i s = addressed code (ownerAnswer i) s := by
  cases i with
  | setClock b n => cases b with
    | true => exact absurd rfl (hb n)
    | false => obtain ⟨rfl, -⟩ : 0x19 = code ∧ _ := by simpa [Instr.request] using h
               rfl
  | _ =>
    simp only [Instr.request, Option.some.injEq, Prod.mk.injEq, reduceCtorEq] at h
    try (obtain ⟨rfl, -⟩ := h; rfl)

/-- A law kept on the line and by every command that is no request is kept by every command. -/
theorem KeptOnLine.exec {P : State → Prop} (k : KeptOnLine P) {c : Instr} {s t : State}
    (hevent : c.request = none → exec c s = .next t → P t) (hs : P s) (h : exec c s = .next t) : P t := by
  match hr : c.request with
  | none => exact hevent hr h
  | some (code, p) =>
    by_cases hb : ∃ n, c = .setClock true n
    · obtain ⟨n, rfl⟩ := hb
      exact powered_keeps (k.broadcastClock n) hs h
    · rw [exec_request s hr fun n e => hb ⟨n, e⟩] at h
      exact k.addressed code (k.owner c) hs h

end Sys2Proof.Machine
end

section
namespace Sys2Proof.Machine

/-! ## What the law of the level channels reads (R11, R21) -/

/-- What the law of the level channels reads of a state: the channel records, and the two copies of the settings with the
marker. -/
def Plant.levels (p : Plant) : PerChannel ChannelRec × Settings × Settings × Bool :=
  (p.channels.recs, p.store.working, p.store.stored, p.store.marker)

/-- The law of the level channels is a law of what it reads. -/
theorem State.ChannelsLawful.of_levels {s t : State} (hs : s.ChannelsLawful) (h : t.plant.levels = s.plant.levels) :
    t.ChannelsLawful := by
  obtain ⟨hr, hw, hk, hm⟩ : t.channels.recs = s.channels.recs ∧ t.store.working = s.store.working ∧
      t.store.stored = s.store.stored ∧ t.store.marker = s.store.marker := by simpa [Plant.levels, State.plant] using h
  simpa only [State.ChannelsLawful, State.channel, hr, hw, hk, hm] using hs

section
variable (s : State)

/-! ### The blocks' own operations leave it alone -/

@[simp] theorem withContacts_levels (x : Contacts) : ({ s with contacts := x } : State).plant.levels = s.plant.levels := rfl
@[simp] theorem withRain_levels (x : Rain) : ({ s with rain := x } : State).plant.levels = s.plant.levels := rfl
@[simp] theorem withSupply_levels (x : Supply) : ({ s with supply := x } : State).plant.levels = s.plant.levels := rfl
@[simp] theorem withSpill_levels (x : Spill) : ({ s with spill := x } : State).plant.levels = s.plant.levels := rfl
@[simp] theorem withEpisodes_levels (x : EpisodeTable) :
    ({ s with episodes := x } : State).plant.levels = s.plant.levels := rfl
@[simp] theorem withConditions_levels (x : Conditions) :
    ({ s with conditions := x } : State).plant.levels = s.plant.levels := rfl
@[simp] theorem setEpisodes_levels (t : EpisodeTable) : (s.setEpisodes t).plant.levels = s.plant.levels := rfl
@[simp] theorem modPending_levels (f : Tally → Tally) : (s.modPending f).plant.levels = s.plant.levels := rfl
@[simp] theorem modProgress_levels (f : Tally → Tally) : (s.modProgress f).plant.levels = s.plant.levels := rfl
@[simp] theorem setLine_levels (l : Line) : (s.setLine l).plant.levels = s.plant.levels := rfl
@[simp] theorem setAuthority_levels (a : Authority) : (s.setAuthority a).plant.levels = s.plant.levels := rfl
@[simp] theorem setClock_levels (n : Nat) : (setClock n s).plant.levels = s.plant.levels := rfl
@[simp] theorem acknowledgeAll_levels : (acknowledgeAll s).plant.levels = s.plant.levels := rfl
@[simp] theorem modCond_levels (i : Source) (f : CondRec → CondRec) : (s.modCond i f).plant.levels = s.plant.levels := rfl
@[simp] theorem withPending_levels (l : List Instr) : ({ s with pending := l } : State).plant.levels = s.plant.levels := rfl

/-! Storm state and rain -/

@[simp] theorem setStorm_levels (st : StormState) : (setStorm st s).plant.levels = s.plant.levels := by
  unfold setStorm; split <;> simp
@[simp] theorem enterStorm_levels : (enterStorm s).plant.levels = s.plant.levels := by simp [enterStorm]
@[simp] theorem stormExit_levels : (stormExit s).plant.levels = s.plant.levels := by unfold stormExit; split <;> simp
@[simp] theorem episodeOpened_levels : (episodeOpened s).plant.levels = s.plant.levels := by
  unfold episodeOpened; dsimp only; split <;> simp
@[simp] theorem episodeEnded_levels : (episodeEnded s).plant.levels = s.plant.levels := by simp [episodeEnded]
@[simp] theorem judgeStorm_levels : (judgeStorm s).plant.levels = s.plant.levels := by
  unfold judgeStorm; split <;> [rfl; (split <;> simp); simp]
@[simp] theorem closeBin_levels : (closeBin s).plant.levels = s.plant.levels := by simp [closeBin]
@[simp] theorem episodeTip_levels : (episodeTip s).plant.levels = s.plant.levels := by unfold episodeTip; split <;> rfl
@[simp] theorem countTip_levels : (countTip s).plant.levels = s.plant.levels := by
  unfold countTip; dsimp only; split <;> simp
@[simp] theorem dryOut_levels : (dryOut s).plant.levels = s.plant.levels := by unfold dryOut; dsimp only; split <;> simp
@[simp] theorem lateExpiry_levels : (lateExpiry s).plant.levels = s.plant.levels := rfl

/-! Episodes and spills -/

@[simp] theorem reportOverflow_plant : (reportOverflow s).plant = s.plant := by unfold reportOverflow; split <;> rfl
@[simp] theorem reportFull_plant : (reportFull s).plant = s.plant := rfl
@[simp] theorem settleEpisode_levels : (settleEpisode s).plant.levels = s.plant.levels := by simp [settleEpisode]
@[simp] theorem openEpisode_levels : (openEpisode s).plant.levels = s.plant.levels := by
  unfold openEpisode; split
  · rfl
  · dsimp only; split <;> simp <;> rfl
@[simp] theorem beginQualification_levels : (beginQualification s).plant.levels = s.plant.levels := rfl
@[simp] theorem discardQualification_levels : (discardQualification s).plant.levels = s.plant.levels := rfl
@[simp] theorem closeEpisode_levels : (closeEpisode s).plant.levels = s.plant.levels := by
  unfold closeEpisode; dsimp only; split <;> simp
@[simp] theorem resumeEpisode_levels : (resumeEpisode s).plant.levels = s.plant.levels := by simp [resumeEpisode]
@[simp] theorem takeSpill_levels : (takeSpill s).1.plant.levels = s.plant.levels := by
  unfold takeSpill; split
  · rfl
  · split <;> simp
@[simp] theorem takeEnded_levels : (takeEnded s).plant.levels = s.plant.levels := by
  unfold takeEnded; repeat' split
  all_goals simp
@[simp] theorem takeSecond_levels (r : SpillSecond) : (takeSecond r s).plant.levels = s.plant.levels := by
  have hspill := takeSpill_levels s
  unfold takeSecond; dsimp only
  split
  · split <;> simp_all
  · split <;> split <;> simp
@[simp] theorem integrate_levels : (integrate s).plant.levels = s.plant.levels := by
  unfold integrate; dsimp only; split <;> simp

/-! The Pump Roster's and the Arbiter's timers -/

@[simp] theorem bayExpires_plant (b : Bay) : (bayExpires b s).plant = s.plant := by unfold bayExpires; split <;> simp
@[simp] theorem rosterSecond_plant : (rosterSecond s).plant = s.plant := by
  unfold rosterSecond; rw [forBays_view _ State.plant _ fun b t => bayExpires_plant t b]; rfl
@[simp] theorem minRunServed_plant (b : Bay) : (minRunServed b s).plant = s.plant := by
  unfold minRunServed; dsimp only; split <;> simp
@[simp] theorem minRestServed_plant (b : Bay) : (minRestServed b s).plant = s.plant := by
  unfold minRestServed; dsimp only; split <;> simp
@[simp] theorem holdEnds_plant : (holdEnds s).plant = s.plant := by
  rw [holdEnds, grantTest_plant, post_plant]; rfl
@[simp] theorem goRunning_plant (b : Bay) : (goRunning b s).plant = s.plant := by simp [goRunning]
@[simp] theorem settleStart_plant (b : Bay) : (settleStart b s).plant = s.plant := by
  unfold settleStart; split <;> [(split <;> simp); rfl]
@[simp] theorem rampExpires_plant : (rampExpires s).plant = s.plant := by
  unfold rampExpires; dsimp only; split <;> simp
@[simp] theorem gapExpires_plant : (gapExpires s).plant = s.plant := by unfold gapExpires; split <;> simp
@[simp] theorem intoService_plant (b : Bay) : (intoService b s).plant = s.plant := by
  unfold intoService; dsimp only; split <;> simp
@[simp] theorem outOfService_plant (b : Bay) : (outOfService b s).plant = s.plant := by
  unfold outOfService; dsimp only; split <;> simp

/-! The Supply Monitor -/

@[simp] theorem recomputeLimit_levels : (recomputeLimit s).plant.levels = s.plant.levels := by
  unfold recomputeLimit; dsimp only; split <;> [simp; (split <;> simp)]
@[simp] theorem limitWritten_levels : (limitWritten s).plant.levels = s.plant.levels := by
  unfold limitWritten; dsimp only; split <;> simp
@[simp] theorem forBays_losePump_plant : (forBays losePump s).plant = s.plant :=
  forBays_view s State.plant _ fun b t => losePump_plant t b
@[simp] theorem enterNone_levels : (enterNone s).plant.levels = s.plant.levels := by simp [enterNone]
@[simp] theorem changeSupply_levels (n : SupplyState) : (changeSupply n s).plant.levels = s.plant.levels := by
  unfold changeSupply; dsimp only; split <;> simp
@[simp] theorem decideSupply_levels : (decideSupply s).plant.levels = s.plant.levels := by
  unfold decideSupply; dsimp only; split <;> simp
@[simp] theorem mainsChange_levels (on : Bool) : (mainsChange on s).plant.levels = s.plant.levels := by simp [mainsChange]
@[simp] theorem generatorChange_levels (on : Bool) : (generatorChange on s).plant.levels = s.plant.levels := by
  simp [generatorChange]
@[simp] theorem restoreExpired_levels : (restoreExpired s).plant.levels = s.plant.levels := by simp [restoreExpired]

/-! The Authority Monitor -/

@[simp] theorem challenge_levels : (challenge s).plant.levels = s.plant.levels := rfl
@[simp] theorem grantAuthority_levels : (grantAuthority s).plant.levels = s.plant.levels := rfl
@[simp] theorem grantAnew_levels : (grantAnew s).plant.levels = s.plant.levels := rfl
@[simp] theorem dropAuthority_levels : (dropAuthority s).plant.levels = s.plant.levels := rfl
@[simp] theorem countFailure_levels : (countFailure s).plant.levels = s.plant.levels := rfl
@[simp] theorem cancelForced_plant : (cancelForced s).plant = s.plant := by unfold cancelForced; dsimp only; split <;> rfl
@[simp] theorem lapse_levels : (lapse s).plant.levels = s.plant.levels := by
  unfold lapse; dsimp only
  rw [withConditions_levels, forScreens_view _ State.plant _ fun x t => inhibitOff_plant t x, cancelForced_plant]
@[simp] theorem permitChange_levels (on : Bool) : (permitChange on s).plant.levels = s.plant.levels := by
  unfold permitChange; dsimp only; split <;> split <;> simp

/-! Contacts -/

@[simp] theorem handSwitch_levels (w : Switch) (v : Bool) : (handSwitch w v s).plant.levels = s.plant.levels := by
  cases w <;> simp only [handSwitch] <;> (try split) <;> simp
@[simp] theorem filterExpires_levels (i : Input) : (filterExpires i s).plant.levels = s.plant.levels := by
  unfold filterExpires
  split <;> split <;> simp

end

end Sys2Proof.Machine
end

section
namespace Sys2Proof.Machine

/-! ## One channel's law (R5, R10 to R12) -/

namespace ChannelRec

/-- Reconciled with a limit and a hold that T1 allows, a lawful record is lawful (R12). -/
theorem Lawful.reconcile {r : ChannelRec} {limit hold : Nat} (hr : r.Lawful) (hl : 1 ≤ limit) :
    (r.reconcile limit hold).Lawful := by
  obtain ⟨-, hvalid, hmost, hpin⟩ := hr
  unfold ChannelRec.Lawful ChannelRec.reconcile
  cases hp : r.pinned <;> cases hv : r.valid <;> simp_all
  omega

/-- A faulted sample keeps the law (R10). -/
theorem Lawful.countFault {r : ChannelRec} (hr : r.Lawful) (k : FaultKind) : (r.countFault k).Lawful := by
  obtain ⟨hl, hvalid, hmost, hpin⟩ := hr
  unfold ChannelRec.countFault
  split
  · exact ⟨hl, by simp, Nat.le_refl _, fun _ => rfl⟩
  · rename_i hlow
    refine ⟨hl, ?_, ?_, fun hp => ?_⟩ <;> dsimp only at *
    · constructor
      · intro hv; have := hvalid.1 hv; omega
      · intro h; omega
    · omega
    · have := hpin hp; omega

/-- An open loop keeps the law (R5). -/
theorem Lawful.openLoop {r : ChannelRec} (hr : r.Lawful) : r.openLoop.Lawful :=
  ⟨hr.1, by simp [ChannelRec.openLoop], Nat.le_refl _, fun _ => rfl⟩

/-- A clean sample keeps the law (R11). -/
theorem Lawful.countClean {r : ChannelRec} (hr : r.Lawful) : r.countClean.Lawful := by
  obtain ⟨hl, hvalid, hmost, hpin⟩ := hr
  unfold ChannelRec.Lawful ChannelRec.countClean
  cases hp : r.pinned <;> cases hv : r.valid <;> simp_all <;> omega

/-- The law says nothing of what a sample writes beside the counter. -/
theorem Lawful.congr {r q : ChannelRec} (hr : r.Lawful) (hl : q.limit = r.limit) (hh : q.hold = r.hold)
    (hc : q.counter = r.counter) (hv : q.valid = r.valid) (hp : q.pinned = r.pinned) : q.Lawful := by
  simpa only [Lawful, hl, hh, hc, hv, hp] using hr

end ChannelRec

/-- The alarm status is no part of the law. -/
theorem State.alarmed_lawful (s : State) (c : Channel) (level : Int) {r : ChannelRec} (hr : r.Lawful) :
    (s.alarmed c level r).Lawful := by
  unfold State.alarmed
  split
  · cases c <;> exact hr.congr rfl rfl rfl rfl rfl
  · exact hr

/-- A sample keeps the law of its channel. -/
theorem State.sampled_lawful (s : State) (c : Channel) (current : Nat) (hr : (s.channel c).Lawful)
    (hl : 1 ≤ s.itemNat 1 (c.base + 3)) : (s.sampled c current).1.Lawful := by
  have hrec := hr.reconcile (hold := s.itemNat 1 (c.base + 4)) hl
  unfold State.sampled
  dsimp only
  split
  · split
    · apply ChannelRec.Lawful.openLoop; exact hrec.congr rfl rfl rfl rfl rfl
    · apply ChannelRec.Lawful.countFault; exact hrec.congr rfl rfl rfl rfl rfl
  · split
    · apply ChannelRec.Lawful.countFault; exact hrec.congr rfl rfl rfl rfl rfl
    · refine s.alarmed_lawful c _ ?_
      split
      · apply ChannelRec.Lawful.countFault; exact hrec.congr rfl rfl rfl rfl rfl
      · apply ChannelRec.Lawful.countClean; exact hrec.congr rfl rfl rfl rfl rfl

/-! ## The law of the part -/

theorem Settings.LimitsLawful.limit_pos {s : State} (h : s.store.working.LimitsLawful) (c : Channel) :
    1 ≤ s.itemNat 1 (c.base + 3) := by
  have := (h c).1
  unfold State.itemNat State.item
  omega

/-- One channel's record replaced by a lawful one. -/
theorem State.ChannelsLawful.setChannel {s : State} (hs : s.ChannelsLawful) (c : Channel) {r : ChannelRec}
    (hr : r.Lawful) : (s.setChannel c r).ChannelsLawful := by
  obtain ⟨hchan, hstore⟩ := hs
  refine ⟨fun d => ?_, hstore⟩
  by_cases h : d = c
  · subst h; simpa using hr
  · rw [channel_setChannel_ne s r h]; exact hchan d

@[simp] theorem reportChannel_plant (c : Channel) (s : State) : (reportChannel c s).plant = s.plant := by
  cases c <;> rfl

@[simp] theorem handReport_levels (c : Channel) (r : ChannelReport) (s : State) :
    (handReport c r s).plant.levels = s.plant.levels := by
  cases c <;> simp [handReport]

@[simp] theorem restartSample_levels (c : Channel) (s : State) : (s.restartSample c).plant.levels = s.plant.levels := rfl

/-- A sample arrival keeps the law (R2 to R12). -/
theorem sampleArrives_lawful (c : Channel) (current : Nat) {s : State} (hs : s.ChannelsLawful) :
    (sampleArrives c current s).ChannelsLawful := by
  have hrec := s.sampled_lawful c current (hs.1 c) (hs.2.1.limit_pos c)
  refine ((hs.of_levels (t := s.restartSample c) rfl).setChannel c hrec).of_levels ?_
  simp [sampleArrives]

/-- CLEAR_CHANNEL keeps the law (R19). -/
theorem clearChannel_lawful (index : Nat) {s : State} (hs : s.ChannelsLawful) :
    (clearChannel index s).state.ChannelsLawful := by
  unfold clearChannel
  split
  · exact hs
  · rename_i c _
    split
    · obtain ⟨hl, hvalid, hmost, -⟩ := hs.1 c
      exact hs.setChannel c ⟨hl, hvalid, hmost, fun h => by cases h⟩
    · exact hs

/-! ## The settings (R21, R197 to R200) -/

theorem Settings.defaults_limitsLawful : Settings.defaults.LimitsLawful := by
  intro c; cases c <;> decide

/-- Which copies of the settings the law asks to be as T1 allows. -/
theorem State.ChannelsLawful.withStore {s : State} (hs : s.ChannelsLawful) (x : Store) (hw : x.working.LimitsLawful)
    (hm : x.marker = true → x.stored.LimitsLawful) : ({ s with store := x } : State).ChannelsLawful :=
  ⟨hs.1, hw, hm⟩

/-- A write of an item of another table leaves T1 as it is. -/
theorem Settings.get_one_set_ne {σ : Settings} {table item : Nat} (v : Int) (h : table ≠ 1) (k : Nat) :
    (σ.set table item v).get 1 k = σ.get 1 k := by
  unfold Settings.set
  split
  case h_2 => exact absurd rfl h
  all_goals rfl

/-- A write of an item of T1. -/
theorem Settings.get_one_set {σ : Settings} {item : Nat} (v : Int) (hi : item < 31) (k : Nat) :
    (σ.set 1 item v).get 1 k = if k = item then v else σ.get 1 k := by
  simp only [Settings.set, Settings.get, Vector.getElem?_setIfInBounds]
  by_cases h : item = k
  · subst h; simp [hi]
  · simp [h, Ne.symm h]

/-- A write of the point count leaves T1 as it is. -/
theorem Settings.get_one_writeCount (σ : Settings) (n k : Nat) : (σ.writeCount n).get 1 k = σ.get 1 k := by
  unfold Settings.writeCount
  have step : ∀ (l : List Nat) (τ : Settings) (f : Settings → Nat → Settings), (∀ τ j, (f τ j).get 1 k = τ.get 1 k) →
      (l.foldl f τ).get 1 k = τ.get 1 k := by
    intro l; induction l with
    | nil => intro τ f _; rfl
    | cons j l ih => intro τ f hf; rw [List.foldl_cons, ih _ _ hf, hf]
  rw [step]
  · exact Settings.get_one_set_ne _ (by decide) k
  · intro τ j; split
    · rw [Settings.get_one_set_ne _ (by decide), Settings.get_one_set_ne _ (by decide)]
    · split
      · rw [Settings.get_one_set_ne _ (by decide), Settings.get_one_set_ne _ (by decide)]
      · rfl

/-- A limit is taken from 1 to what its hold leaves of 255 (R21). -/
theorem Settings.taken_limit (σ : Settings) {item : Nat} (v : Int) (hi : item < 20) (h3 : item % 5 = 3)
    (hh : σ.get 1 (item + 1) ≤ 254) :
    1 ≤ σ.taken 1 item v ∧ σ.taken 1 item v ≤ 255 - σ.get 1 (item + 1) := by
  simp only [Settings.taken, Settings.range, hi, h3, if_true, show ¬((1 : Nat) = 3) by decide, false_and, if_false]
  split
  · omega
  · split <;> omega

/-- A hold is taken from 0 to what its limit leaves of 255 (R21). -/
theorem Settings.taken_hold (σ : Settings) {item : Nat} (v : Int) (hi : item < 20) (h4 : item % 5 = 4)
    (hl : σ.get 1 (item - 1) ≤ 255) :
    0 ≤ σ.taken 1 item v ∧ σ.taken 1 item v ≤ 255 - σ.get 1 (item - 1) := by
  simp only [Settings.taken, Settings.range, hi, h4, if_true, show ¬((1 : Nat) = 3) by decide, false_and, if_false]
  split
  · omega
  · split <;> omega

/-- A write of an item that exists, with the value taken, keeps the limits and holds as T1 allows (R21, R197). -/
theorem Settings.LimitsLawful.write {σ : Settings} (h : σ.LimitsLawful) {table item size : Nat}
    (ht : tableSize table = some size) (hi : item < size) (v : Int) :
    (σ.write table item (σ.taken table item v)).LimitsLawful := by
  by_cases h1 : table = 1
  · subst h1
    obtain rfl : 31 = size := by simpa [tableSize] using ht
    intro c
    obtain ⟨hpos, hhold, hsum⟩ := h c
    have hbase : c.base % 5 = 0 ∧ c.base + 4 < 20 := by cases c <;> decide
    simp only [Settings.write, show ¬((1 : Nat) = 6) by decide, false_and, if_false, Settings.get_one_set _ hi]
    by_cases hl : c.base + 3 = item
    · have := σ.taken_limit v (item := item) (by omega) (by omega) (by rw [show item + 1 = c.base + 4 by omega]; omega)
      rw [if_pos hl, if_neg (by omega)]
      rw [show item + 1 = c.base + 4 by omega] at this
      omega
    · by_cases hh : c.base + 4 = item
      · have := σ.taken_hold v (item := item) (by omega) (by omega) (by rw [show item - 1 = c.base + 3 by omega]; omega)
        rw [if_neg hl, if_pos hh]
        rw [show item - 1 = c.base + 3 by omega] at this
        omega
      · rw [if_neg hl, if_neg hh]; exact ⟨hpos, hhold, hsum⟩
  · have hget : ∀ k, (σ.write table item (σ.taken table item v)).get 1 k = σ.get 1 k := by
      intro k
      unfold Settings.write
      split
      · split
        · rfl
        · exact Settings.get_one_writeCount _ _ _
      · exact Settings.get_one_set_ne _ h1 k
    intro c
    simpa only [hget] using h c

@[simp] theorem writeEffects_levels (table item : Nat) (s : State) :
    (writeEffects table item s).plant.levels = s.plant.levels := by
  unfold writeEffects
  split
  · split <;> rfl
  · split
    · exact limitWritten_levels s
    · rfl

/-- WRITE_SETTING keeps the law (R21, R197). -/
theorem writeSetting_lawful (table item : Nat) (value : Int) {s : State} (hs : s.ChannelsLawful) :
    (writeSetting table item value s).state.ChannelsLawful := by
  unfold writeSetting
  split
  · exact hs
  · rename_i size hsize
    split
    · exact hs
    · rename_i hitem
      split
      · exact hs
      · unfold writeItem
        dsimp only
        split
        · have hset : (s.setItem table item (s.store.working.taken table item value)).ChannelsLawful :=
            hs.withStore _ (hs.2.1.write hsize (not_le.1 hitem) value) hs.2.2
          exact hset.of_levels (writeEffects_levels _ _ _)
        · exact hs

/-! ## Restarts and loss of supply (R22, R199, R200) -/

/-- A loss of supply keeps the law: a commit cut short leaves no marked copy (R199). -/
theorem loseSupply_lawful {s : State} (hs : s.ChannelsLawful) : (loseSupply s).ChannelsLawful := by
  unfold loseSupply cutCommit
  split
  · exact hs
  · split
    · exact hs
    · exact ⟨hs.1, hs.2.1, fun h => by cases h⟩

@[simp] theorem restartHoming_plant (x : Screen) (s : State) : (restartHoming x s).plant = s.plant := by
  unfold restartHoming; split <;> simp
@[simp] theorem restartScreens_plant (cold : Bool) (s : State) : (restartScreens cold s).plant = s.plant := by
  unfold restartScreens; rw [forScreens_view _ State.plant _ fun x t => restartHoming_plant x t]; rfl
@[simp] theorem restartArbiter_plant (s : State) : (restartArbiter s).plant = s.plant := by
  unfold restartArbiter; rw [judgeStarter_plant]; rfl
@[simp] theorem reportLockout_plant (b : Bay) (s : State) : (reportLockout b s).plant = s.plant := by
  unfold reportLockout; split <;> rfl
@[simp] theorem reportJam_plant (x : Screen) (s : State) : (reportJam x s).plant = s.plant := by
  unfold reportJam; split <;> rfl
@[simp] theorem forBays_reportLockout_plant (s : State) : (forBays reportLockout s).plant = s.plant :=
  forBays_view s State.plant _ reportLockout_plant
@[simp] theorem forScreens_reportJam_plant (s : State) : (forScreens reportJam s).plant = s.plant :=
  forScreens_view s State.plant _ reportJam_plant
/-- The owners' reports at a restart move the Condition Table alone. -/
@[simp] theorem restartReports_plant (s : State) : (restartReports s).plant = s.plant := by
  have hfold : ∀ (l : List Source) (t : State), (l.foldl (fun t src => t.report src false) t).plant = t.plant :=
    fun l t => foldl_view State.plant _ (fun t src => report_plant t src false none) l t
  simp only [restartReports, report_plant, reportFull_plant, reportOverflow_plant, reportStarter_plant,
    forScreens_reportJam_plant, forBays_reportLockout_plant, hfold]

section
variable (cold : Bool) (s : State)
@[simp] theorem restartConditions_levels : (restartConditions cold s).plant.levels = s.plant.levels :=
  withConditions_levels s _
@[simp] theorem restartContacts_levels : (restartContacts s).plant.levels = s.plant.levels := rfl
@[simp] theorem restartClock_levels : (restartClock cold s).plant.levels = s.plant.levels := rfl
@[simp] theorem restartEpisodes_levels : (restartEpisodes cold s).plant.levels = s.plant.levels := rfl
@[simp] theorem restartRain_levels : (restartRain cold s).plant.levels = s.plant.levels := rfl
@[simp] theorem restartSupply_levels : (restartSupply s).plant.levels = s.plant.levels := rfl
@[simp] theorem restartRoster_plant : (restartRoster cold s).plant = s.plant := rfl
@[simp] theorem restartDuty_plant : (restartDuty cold s).plant = s.plant := rfl
@[simp] theorem restartSpill_levels : (restartSpill s).plant.levels = s.plant.levels := rfl
@[simp] theorem restartLine_levels : (restartLine s).plant.levels = s.plant.levels := rfl
@[simp] theorem restartAuthority_levels : (restartAuthority cold s).plant.levels = s.plant.levels := rfl
end

/-- The channels' restart values are read from the working copy alone (R22). -/
theorem restartChannels_levels {s t : State} (h : s.store.working = t.store.working) (h' : s.store.stored = t.store.stored)
    (hm : s.store.marker = t.store.marker) : (restartChannels s).plant.levels = (restartChannels t).plant.levels := by
  simp only [restartChannels, State.plant, Plant.levels, State.itemNat, State.item, h, h', hm]

/-- What the law reads after a restart: fresh channels over the settings loaded (R22, R200). -/
theorem restart_levels (cause : RestartCause) (s : State) :
    (restart cause s).plant.levels = (restartChannels (loadSettings s)).plant.levels := by
  unfold restart
  dsimp only
  split <;> simp only [pulse_plant, settle_plant, post_plant, restartReports_plant, restartAuthority_levels,
    restartLine_levels, restartSpill_levels, restartDuty_plant, restartScreens_plant, restartArbiter_plant,
    restartRoster_plant, restartSupply_levels, restartRain_levels, restartEpisodes_levels] <;>
    exact restartChannels_levels rfl rfl rfl

/-- A channel record after a restart is lawful (R22). -/
theorem ChannelRec.restarted_lawful {limit : Nat} (hold : Nat) (hl : 1 ≤ limit) : (restarted limit hold).Lawful :=
  ⟨hl, by simp [restarted]; omega, by simp [restarted], fun h => by cases h⟩

/-- A restart brings the law back whatever the channels held, from a marked copy that T1 allows (R22, R200). -/
theorem restart_lawful (cause : RestartCause) {s : State} (hs : s.ChannelsLawful) : (restart cause s).ChannelsLawful := by
  refine State.ChannelsLawful.of_levels (s := restartChannels (loadSettings s)) ?_ (restart_levels cause s)
  have hload : (loadSettings s).store.working.LimitsLawful := by
    unfold loadSettings
    dsimp only
    split
    · exact hs.2.2 ‹_›
    · exact Settings.defaults_limitsLawful
  refine ⟨fun c => ?_, hload, hs.2.2⟩
  have hpos := hload.limit_pos c
  cases c <;> exact ChannelRec.restarted_lawful _ hpos

end Sys2Proof.Machine
end

section
namespace Sys2Proof.Machine

/-! ## The owners' answers -/

/-- The Authority Monitor's judgement keeps a law that its own moves and the owner keep (R190). -/
theorem privileged_lawful (ans : Nat) {act : State → Answer} {s : State}
    (hact : ∀ s, s.ChannelsLawful → (act s).state.ChannelsLawful) (hs : s.ChannelsLawful) :
    (privileged ans act s).state.ChannelsLawful := by
  unfold privileged
  split
  · exact hs
  · exact hs
  · split
    · exact hact _ (hs.of_levels rfl)
    · exact hs.of_levels (by simp [Answer.refuse])
  · exact hs

/-- An owner that moves no channel and no setting. -/
def LeavesLevels (act : State → Answer) : Prop := ∀ s, (act s).state.plant.levels = s.plant.levels

theorem LeavesLevels.lawful {act : State → Answer} (h : LeavesLevels act) (s : State) (hs : s.ChannelsLawful) :
    (act s).state.ChannelsLawful := hs.of_levels (h s)

theorem readRecords_leavesLevels (size : Nat) (record : State → Nat → List Byte) (start count : Nat) :
    LeavesLevels fun s => readRecords size (record s) start count s := by
  intro s; unfold readRecords; dsimp only; repeat' split
  all_goals rfl

theorem readSettings_leavesLevels (table start count : Nat) : LeavesLevels (readSettings table start count) := by
  intro s; unfold readSettings; split
  · rfl
  · exact readRecords_leavesLevels _ (fun s i => signed (s.item table i)) start count s

theorem ackCondition_leavesLevels (i n : Nat) : LeavesLevels (ackCondition i n) := by
  intro s; unfold ackCondition; split <;> [rfl; (split <;> rfl)]

theorem shelve_leavesLevels (i m : Nat) : LeavesLevels (shelve i m) := by
  intro s; unfold shelve; repeat' split
  all_goals rfl

theorem unshelve_leavesLevels (i : Nat) : LeavesLevels (unshelve i) := by
  intro s; unfold unshelve; split <;> rfl

theorem pumpService_leavesLevels (b v : Nat) : LeavesLevels (pumpService b v) := by
  intro s; unfold pumpService; repeat' split
  all_goals simp [Answer.refuse, Answer.done]

theorem pumpForce_leavesLevels (b m : Nat) : LeavesLevels (pumpForce b m) := by
  intro s; unfold pumpForce; repeat' split
  all_goals simp [Answer.refuse, Answer.done]

theorem pumpReset_leavesLevels (b : Nat) : LeavesLevels (pumpReset b) := by
  intro s; unfold pumpReset; repeat' split
  all_goals simp [Answer.refuse, Answer.done]

theorem screenRake_leavesLevels (x : Nat) : LeavesLevels (screenRake x) := by
  intro s; unfold screenRake; repeat' split
  all_goals simp [Answer.refuse]

theorem screenInhibit_leavesLevels (x v : Nat) : LeavesLevels (screenInhibit x v) := by
  intro s; unfold screenInhibit; repeat' split
  all_goals simp [Answer.refuse, Answer.done]

theorem screenReset_leavesLevels (x : Nat) : LeavesLevels (screenReset x) := by
  intro s; unfold screenReset; repeat' split
  all_goals simp [Answer.refuse, Answer.done]

theorem retireEpisode_leavesLevels (i n : Nat) : LeavesLevels (retireEpisode i n) := by
  intro s; unfold retireEpisode; repeat' split
  all_goals simp [Answer.refuse, Answer.done]

theorem retireAccumulator_leavesLevels (n : Nat) : LeavesLevels (retireAccumulator n) := by
  intro s; unfold retireAccumulator; repeat' split
  all_goals simp [Answer.refuse, Answer.done]

theorem openAuthority_leavesLevels : LeavesLevels openAuthority := by
  intro s; unfold openAuthority; repeat' split
  all_goals simp [Answer.refuse, Answer.done]

theorem answerChallenge_leavesLevels (v : Nat) : LeavesLevels (answerChallenge v) := by
  intro s; unfold answerChallenge; repeat' split
  all_goals simp [Answer.refuse, Answer.done]

theorem releaseAuthority_leavesLevels : LeavesLevels releaseAuthority := by
  intro s; unfold releaseAuthority; repeat' split
  all_goals simp [Answer.refuse, Answer.done]

theorem restartRequest_leavesLevels : LeavesLevels restartRequest := by
  intro s; unfold restartRequest; split <;> rfl

/-- COMMIT_SETTINGS clears the marker, and with it what the law asks of the stored copy (R198). -/
theorem commitSettings_lawful {s : State} (hs : s.ChannelsLawful) : (commitSettings s).state.ChannelsLawful := by
  unfold commitSettings
  split
  · exact hs
  · exact hs.withStore _ hs.2.1 fun h => by cases h

/-- Every owner's answer keeps the law. -/
theorem ownerAnswer_lawful (i : Instr) (s : State) (hs : s.ChannelsLawful) : (ownerAnswer i s).state.ChannelsLawful := by
  cases i with
  | readChannels st c => exact (readRecords_leavesLevels 4 channelChars st c).lawful s hs
  | readConditions st c => exact (readRecords_leavesLevels 25 conditionChars st c).lawful s hs
  | readPumps st c => exact (readRecords_leavesLevels 4 pumpChars st c).lawful s hs
  | readScreens st c => exact (readRecords_leavesLevels 2 screenChars st c).lawful s hs
  | readEpisodes st c => exact (readRecords_leavesLevels 16 episodeChars st c).lawful s hs
  | readSettings t st c => exact (readSettings_leavesLevels t st c).lawful s hs
  | ackCondition i n => exact (ackCondition_leavesLevels i n).lawful s hs
  | screenRake x => exact (screenRake_leavesLevels x).lawful s hs
  | retireEpisode i n => exact (retireEpisode_leavesLevels i n).lawful s hs
  | retireAccumulator n => exact (retireAccumulator_leavesLevels n).lawful s hs
  | openAuthority => exact openAuthority_leavesLevels.lawful s hs
  | answer v => exact (answerChallenge_leavesLevels v).lawful s hs
  | releaseAuthority => exact releaseAuthority_leavesLevels.lawful s hs
  | shelve a i m => exact privileged_lawful a (shelve_leavesLevels i m).lawful hs
  | unshelve a i => exact privileged_lawful a (unshelve_leavesLevels i).lawful hs
  | pumpService a b v => exact privileged_lawful a (pumpService_leavesLevels b v).lawful hs
  | pumpForce a b m => exact privileged_lawful a (pumpForce_leavesLevels b m).lawful hs
  | pumpReset a b => exact privileged_lawful a (pumpReset_leavesLevels b).lawful hs
  | screenInhibit a x v => exact privileged_lawful a (screenInhibit_leavesLevels x v).lawful hs
  | screenReset a x => exact privileged_lawful a (screenReset_leavesLevels x).lawful hs
  | restart a => exact privileged_lawful a restartRequest_leavesLevels.lawful hs
  | writeSetting a t i v => exact privileged_lawful a (fun _ => writeSetting_lawful t i v) hs
  | commitSettings a => exact privileged_lawful a (fun _ => commitSettings_lawful) hs
  | clearChannel a i => exact privileged_lawful a (fun _ => clearChannel_lawful i) hs
  | _ => exact hs.of_levels rfl

/-! ## The step -/

theorem channelsLawful_keptOnLine : KeptOnLine State.ChannelsLawful where
  line _ _ hs := hs.of_levels rfl
  linkLost _ _ hs := hs.of_levels rfl
  clock _ _ hs := hs.of_levels rfl
  settle s hs := hs.of_levels (by rw [settle_plant])
  restart _ hs := restart_lawful _ hs
  owner := ownerAnswer_lawful

/-- A command that is no request keeps the law. -/
theorem event_channelsLawful {c : Instr} (hc : c.request = none) {s t : State} (hs : s.ChannelsLawful)
    (h : exec c s = .next t) : t.ChannelsLawful := by
  have guarded {f : State → State} (h : powered f s = .next t) (hf : (f s).plant.levels = s.plant.levels) :
      t.ChannelsLawful := powered_keeps (fun hs => hs.of_levels hf) hs h
  cases c with
  | coldStart => cases h; exact restart_lawful _ (loseSupply_lawful hs)
  | warmSupplyRestart => cases h; exact restart_lawful _ (loseSupply_lawful hs)
  | supplyLoss => cases h; exact loseSupply_lawful hs
  | sampleArrival c i =>
    refine powered_keeps (fun hs => ?_) hs h
    split
    · exact sampleArrives_lawful c i hs
    · exact hs
  | commitCompletion =>
    refine powered_keeps (fun hs => ?_) hs h
    split
    · exact hs.withStore _ hs.2.1 fun _ => hs.2.1
    · exact hs
  | replySent =>
    refine powered_keeps (fun hs => ?_) hs h
    split
    · exact channelsLawful_keptOnLine.replyEnds hs
    · exact hs
  | receiveCharacter c => exact powered_keeps (channelsLawful_keptOnLine.receive c) hs h
  | lineBreak => exact powered_keeps channelsLawful_keptOnLine.lineError hs h
  | rawContactChange c v => cases c <;> (cases h; exact hs.of_levels rfl)
  | filterTimerExpiry i => exact guarded h (filterExpires_levels s i)
  | bounceTimerExpiry => unfold exec execBounceTimerExpiry at h; exact guarded h rfl
  | clockSecondExpiry | turnaroundTimerExpiry | gapLimitExpiry => exact guarded h (by split <;> rfl)
  | tipArrival => unfold exec execTipArrival at h; exact guarded h (by split <;> simp)
  | dryTimerExpiry => unfold exec execDryTimerExpiry at h; exact guarded h (by split <;> [rfl; (split <;> simp)])
  | stopConfirmTimerExpiry _ => exact guarded h (by split <;> [(split <;> simp); rfl])
  | binClose | rosterSecondTimerExpiry | rampTimerExpiry | gapTimerExpiry | feedbackLossTimerExpiry _
  | minRunTimerExpiry _ | minRestTimerExpiry _ | restartHoldExpiry | changeoverTimerExpiry _ | restoreTimerExpiry
  | intervalTimerExpiry _ | strokeTimerExpiry _ | clearTimerExpiry _ | integrationTimerExpiry | qualifyTimerExpiry
  | mergeTimerExpiry | shelveTimerExpiry _ | linkTimerExpiry | answerWindowExpiry | supervisionTimerExpiry =>
    exact guarded h (by split <;> simp)
  | _ => simp [Instr.request] at hc

/-- The passing of a millisecond keeps the law. -/
theorem passMillisecond_levels (s : State) : (passMillisecond s).plant.levels = s.plant.levels := rfl

end Sys2Proof.Machine

open Sys2Proof.Machine

/-- Settles O7, by the law of what each command leaves of the channels and of the settings: a sample moves its own channel by
R10 to R12, a write takes a limit and a hold that T1 allows, and a restart brings fresh channels. -/
theorem channelLawIsKept : Obligations.ChannelLawIsKept := by
  intro s t hs h
  unfold step at h
  split at h
  · exact powered_keeps (fun hs => hs.of_levels (passMillisecond_levels _)) hs h
  · rename_i rest _
    have hs' : ({ s with pending := rest } : State).ChannelsLawful := hs.of_levels (withPending_levels s rest)
    exact channelsLawful_keptOnLine.exec (fun hc => event_channelsLawful hc hs') hs' h
end

section
/-! PROOFS. CLEAR_CHANNEL, the state right after reset, and where the words of WRITE_SETTING part from the model. -/

namespace Sys2Proof.Machine

/-- CLEAR_CHANNEL at the Level Channel Unit for a channel that is there (R19). -/
theorem clearChannel_index (c : Channel) (s : State) :
    clearChannel c.index s = if (s.channel c).band = .normal then .done (s.setChannel c { s.channel c with pinned := false })
      else .refuse s .stillFaulted := by
  cases c <;> rfl

/-- CLEAR_CHANNEL for an index past the last channel (R19). -/
theorem clearChannel_past {index : Nat} (h : 3 < index) (s : State) : clearChannel index s = .refuse s .badIndex := by
  match index, h with
  | n + 4, _ => rfl

/-- A privileged request whose owner leaves no notice is replied to from the state the owner leaves. -/
theorem addressed_cleared_quiet {s : State} {ans : Nat} (h : s.cleared ans) (code : Nat) (act : State → Answer)
    (hq : (act s.heard.spent).state.inbox = []) :
    addressed code (privileged ans act) s =
      .next ((act s.heard.spent).state.replying code (act s.heard.spent).status (act s.heard.spent).payload) := by
  rw [addressed_cleared _ _ _ _ h, enterTurnaround_quiet _ _ hq]

theorem cleared_inbox {s : State} {ans : Nat} (h : s.cleared ans) : s.heard.spent.inbox = [] := h.1.1.2

end Sys2Proof.Machine

open Sys2Proof Sys2Proof.Machine

/-- Settles O8, by the two judgements of CLEAR_CHANNEL: its index and the channel's band. -/
theorem clearChannelUnpins : Obligations.ClearChannelUnpins := by
  intro ans index s h
  have answered (a : Answer) (ha : clearChannel index s.heard.spent = a) (hq : a.state.inbox = []) :
      exec (.clearChannel ans index) s = .next (a.state.replying 0x1E a.status a.payload) := by
    subst ha; exact addressed_cleared_quiet h _ _ hq
  refine ⟨fun hi => ?_, fun c hc hb => ?_, fun c hc hb => ?_⟩
  · exact answered _ (clearChannel_past hi _) (cleared_inbox h)
  · subst hc
    exact answered (.refuse s.heard.spent .stillFaulted) (by rw [clearChannel_index, if_neg (by simpa using hb)]) (cleared_inbox h)
  · subst hc
    exact answered (.done (s.heard.spent.setChannel c { s.channel c with pinned := false })) (by rw [clearChannel_index, if_pos (by simpa using hb)]; rfl)
      (show s.heard.spent.inbox = [] from cleared_inbox h)

namespace Sys2Proof.Machine

/-! ## The state right after reset -/

theorem reset_channelsLawful : State.reset.ChannelsLawful := by
  refine ⟨fun c => ?_, Settings.defaults_limitsLawful, fun h => by cases h⟩
  cases c <;> exact ChannelRec.restarted_lawful 30 (by decide)

theorem reset_outputsFollow : State.reset.OutputsFollow :=
  ⟨fun b => (by cases b <;> exact ⟨rfl, rfl⟩), fun x => (by cases x <;> exact ⟨rfl, rfl⟩), rfl, fun _ h => (by cases h)⟩

theorem reset_cutoffKeepsDry : State.reset.CutoffKeepsDry := ⟨rfl, fun _ b => by cases b <;> rfl⟩

theorem reset_stormLawful : State.reset.StormLawful := ⟨rfl, fun h => (by cases h), rfl⟩

theorem reset_attentionLawful : State.reset.AttentionLawful := by
  unfold State.AttentionLawful; decide +kernel

theorem reset_authorityLawful : State.reset.AuthorityLawful := by
  refine ⟨fun _ => ⟨fun b => (by cases b <;> rfl), fun x => (by cases x <;> rfl), fun i => ?_⟩, fun h => (by cases h),
    fun h => (by cases h), by decide, by decide⟩
  cases i <;> decide

theorem reset_serialsLawful : State.reset.SerialsLawful := by
  have hfree : ∀ i, State.reset.episodes.slots.get i = none := by decide
  refine ⟨by decide, fun i e h => ?_, fun i j e f h => ?_⟩ <;> rw [hfree] at h <;> cases h

end Sys2Proof.Machine

/-- Settles O4, law by law, and by running the cold start. -/
theorem resetIsSafeAndAColdStart : Obligations.ResetIsSafeAndAColdStart := by
  refine ⟨⟨reset_channelsLawful, reset_outputsFollow, reset_cutoffKeepsDry, reset_stormLawful, reset_attentionLawful,
    reset_authorityLawful, reset_serialsLawful⟩, ?_⟩
  have hrestart : restart .cold (loseSupply State.reset) = State.reset := by decide +kernel
  unfold exec execColdStart
  rw [hrestart]

/-- Refutes O56: its last clause asks it of every integer. For -70000 the model holds the flow 0, which fits between the
neighbours 0 and 340 of rating point 1, and the statement the flow -4464, which does not. No request carries such a value,
and none is taken into the working copy. -/
theorem not_writeSettingTakesTheValue : ¬ Obligations.WriteSettingTakesTheValue := by
  intro h
  have hsound : Settings.defaults.sound 6 19 (-70000) = true := by decide
  obtain ⟨-, -, hfits, -⟩ := h.2 Settings.defaults 6 19 (-70000) (by decide)
  obtain ⟨-, -, hflow⟩ := hfits.1 hsound
  obtain ⟨-, hlow, -⟩ := hflow (by decide) (by decide)
  exact absurd (hlow (by decide)) (by decide)
end

section
/-! PROOFS. The reads of several records: the longest run that fits (R183), and each record character for character as R186
lays it out. -/

namespace Sys2Proof.Machine

/-! ## The longest run (R183) -/

/-- The longest run is a cut of the records that fits, and one record more does not fit. -/
theorem longestRun_eq_take (records : List (List Byte)) : ∀ room, ∃ k, k ≤ records.length ∧
    longestRun room records = records.take k ∧ (records.take k).flatten.length ≤ room ∧
    (k < records.length → room < (records.take (k + 1)).flatten.length) := by
  induction records with
  | nil => intro room; exact ⟨0, by simp [longestRun]⟩
  | cons r rest ih =>
    intro room
    unfold longestRun
    split
    · obtain ⟨k, hk, hrun, hfits, hnext⟩ := ih (room - r.length)
      refine ⟨k + 1, by simpa using hk, by simp [hrun], ?_, fun h => ?_⟩
      · simp only [List.take_succ_cons, List.flatten_cons, List.length_append]
        omega
      · have := hnext (by simpa using h)
        rw [List.take_succ_cons, List.flatten_cons, List.length_append]
        omega
    · exact ⟨0, by simp, by simp, by simp, fun _ => by simp; omega⟩

/-- The payload of a read whose records fit. -/
theorem packRecords_fits {start : Nat} {records : List (List Byte)} (h : 2 + records.flatten.length ≤ 200) :
    packRecords start records = (.ok, byte start :: byte records.length :: records.flatten) := by
  rw [packRecords, if_pos (show _ ≤ payloadLimit from h)]

/-- The payload of a read whose records do not fit. -/
theorem packRecords_more {start : Nat} {records : List (List Byte)} (h : 200 < 2 + records.flatten.length) :
    ∃ k, k < records.length ∧ 3 + (records.take k).flatten.length ≤ 200 ∧ 200 < 3 + (records.take (k + 1)).flatten.length ∧
      packRecords start records = (.more, byte start :: byte k :: byte (start + k) :: (records.take k).flatten) := by
  obtain ⟨k, hk, hrun, hfits, hnext⟩ := longestRun_eq_take records (payloadLimit - 3)
  have hlt : k < records.length := by
    refine lt_of_le_of_ne hk fun e => ?_
    rw [e, List.take_length] at hfits
    simp only [payloadLimit] at hfits
    omega
  refine ⟨k, hlt, ?_, ?_, ?_⟩
  · simp only [payloadLimit] at hfits; omega
  · have := hnext hlt; simp only [payloadLimit] at this; omega
  · rw [packRecords, if_neg (by simp only [payloadLimit]; omega)]
    simp only [hrun, List.length_take, Nat.min_eq_left hk]

open Sys2Proof.Spec in
/-- A request whose owner reads records reads the longest run of them (R183). -/
theorem readsRecords {request : Nat → Nat → Instr} {code size : Nat} {record : State → Nat → List Byte}
    (h : ∀ start count s, exec (request start count) s =
      addressed code (fun s => readRecords size (record s) start count s) s) :
    ReadsRecords request code size record := by
  intro start count s hs
  have answered (a : Answer) (ha : readRecords size (record s.heard) start count s.heard = a) (hq : a.state.inbox = []) :
      exec (request start count) s = .next (a.state.replying code a.status a.payload) := by
    rw [h, addressed_ready _ _ _ hs, ha, enterTurnaround_quiet _ _ hq]
  have hq : s.heard.inbox = [] := hs.1.2
  refine ⟨fun h0 => ?_, fun h0 hpast => ?_, fun h0 hin => ⟨fun hfit => ?_, fun hlong => ?_⟩⟩
  · exact answered (.refuse s.heard .badRequest) (by rw [readRecords, if_pos h0]) hq
  · exact answered (.refuse s.heard .badIndex) (by rw [readRecords, if_neg (by omega), if_pos hpast]) hq
  · refine answered ⟨s.heard, .ok, _⟩ ?_ hq
    rw [readRecords, if_neg (by omega), if_neg (by omega), packRecords_fits hfit]
  · obtain ⟨k, hk, hfits, hnext, hpack⟩ := packRecords_more (start := start) hlong
    refine ⟨k, hk, hfits, hnext, answered ⟨s.heard, .more, _⟩ ?_ hq⟩
    rw [readRecords, if_neg (by omega), if_neg (by omega), hpack]

/-! ## The numbers and codes of the wire (R186) -/

section
open Sys2Proof.Spec

theorem number_one (n : Nat) : number 1 n = [byte n] := by simp [number, byte]
theorem number_two (n : Nat) : number 2 n = word n := by simp [number, word, byte]
theorem number_four (n : Nat) : number 4 n = long n := by simp [number, long, byte]

theorem signedNumber_eq (v : Option Int) : signedNumber v = signedOr v := by
  cases v <;> simp only [signedNumber, signedOr, number_two, signed, signedNat]
  rfl

theorem flags_eq (bits : List Bool) : flags bits = bitsToNat bits := by
  induction bits with
  | nil => rfl
  | cons b bits ih => simp only [flags, List.foldr_cons, bitsToNat] at *; rw [ih]

theorem number_flags (bits : List Bool) : number 1 (flags bits) = [flagByte bits] := by
  rw [number_one, flags_eq, flagByte]

theorem pumpCode (st : PumpState) : codeIn pumpCodes st = st.code := by cases st <;> rfl
theorem screenCode (st : ScreenState) : codeIn screenCodes st = st.code := by cases st <;> rfl
theorem faultCode (k : FaultKind) : codeIn faultCodes k = k.code := by cases k <;> rfl
theorem bandCode (b : Band) : codeIn bandCodes b = b.code := by cases b <;> rfl
theorem lockoutCode (r : Option LockoutReason) : codeIn lockoutCodes r = LockoutReason.code r := by
  rcases r with - | r <;> [rfl; (cases r <;> rfl)]
theorem jamCode (r : Option JamReason) : codeIn jamCodes r = JamReason.code r := by
  rcases r with - | r <;> [rfl; (cases r <;> rfl)]
theorem condCode (st : CondState) : codeIn condCodes st = st.code := by cases st <;> rfl
theorem stormCode (st : StormState) : codeIn stormCodes st = st.code := by cases st <;> rfl
theorem healthCode (h : StarterHealth) : codeIn healthCodes h = h.code := by cases h <;> rfl
theorem selectorCode (p : Selector) : codeIn [.off, .hand, .auto] p = p.code := by cases p <;> rfl
theorem forcedCode (f : Forced) : codeIn [.none, .run, .stop] f = f.code := by cases f <;> rfl
theorem slotCode (st : EpisodeState) : 1 + codeIn [.opened, .closing, .closed] st = st.code := by cases st <;> rfl

theorem detailCode_eq (d : Option Detail) : detailCode d = Detail.code d := by
  match d with
  | none => rfl
  | some (.fault k) => exact faultCode k
  | some (.lockout r) => exact lockoutCode (some r)
  | some (.jam r) => exact jamCode (some r)
  | some (.health h) => exact healthCode h
  | some (.serial n) => rfl
  | some (.cause c) => cases c <;> rfl

/-! ## The records (R20, R66, R122, R156, R170, R186) -/

theorem channelChars_eq (s : State) (c : Channel) : channelChars s c.index = channelRecord s c := by
  have hflag : (c == .ww || decide (c = .inlet)) = c.keepsAlarms := by cases c <;> rfl
  have hww : decide (c = .ww) = (c == .ww) := rfl
  rw [channelChars, show Channel.ofIndex c.index = some c by cases c <;> rfl]
  simp only [channelRecord, number_flags, hflag, hww, signedNumber_eq, faultCode, bandCode]
  simp only [number_one, number_two, ChannelRec.usable, List.append_assoc, List.cons_append, List.nil_append]

theorem conditionChars_eq (s : State) (i : Source) : conditionChars s i.index = conditionRecord s i := by
  rw [conditionChars, show Source.ofIndex i.index = some i by cases i <;> rfl]
  simp only [conditionRecord, number_flags, condCode, detailCode_eq]
  simp only [number_one, number_two, number_four, List.append_assoc, List.cons_append, List.nil_append]
  rfl

theorem pumpChars_eq (s : State) (b : Bay) : pumpChars s (b.number - 1) = pumpRecord s b := by
  rw [pumpChars, show Bay.ofIndex (b.number - 1) = some b by cases b <;> rfl]
  simp only [pumpRecord, number_flags, pumpCode, selectorCode, forcedCode, lockoutCode]
  simp only [number_one, number_two, number_four, List.append_assoc, List.cons_append, List.nil_append]
  cases hw : (s.pump b).window <;> rfl

theorem screenChars_eq (s : State) (x : Screen) : screenChars s x.index = screenRecord s x := by
  rw [screenChars, show Screen.ofIndex x.index = some x by cases x <;> rfl]
  simp only [screenRecord, number_flags, signedNumber_eq, screenCode, jamCode]
  simp only [number_one, number_two, number_four, List.append_assoc, List.cons_append, List.nil_append]
  cases he : (s.screen x).interval.elapsed <;> simp only [IntervalTimer.left, he] <;> rfl

theorem episodeChars_free {s : State} {i : Fin 16} (h : s.episodes.slots.get i = none) :
    episodeChars s i = number 1 i ++ number 1 0 := by
  simp [episodeChars, EpisodeTable.named, slotOf, h, number_one]

theorem episodeChars_occupied {s : State} {i : Fin 16} {e : Episode} (h : s.episodes.slots.get i = some e) :
    episodeChars s i = episodeRecord i e := by
  have hnamed : s.episodes.named i = some (i, e) := by simp [EpisodeTable.named, slotOf, h]
  rw [episodeChars, hnamed]
  simp only [episodeRecord, causeFlags, recordFlags, number_flags, slotCode, stormCode, signedNumber_eq]
  simp only [number_one, number_two, number_four, List.append_assoc, List.cons_append, List.nil_append]
  rfl

/-! ## How long a record is (R186) -/

theorem number_length (k n : Nat) : (number k n).length = k := by
  induction k with
  | zero => rfl
  | succ k ih => simp [number, ih]

theorem signedNumber_length (v : Option Int) : (signedNumber v).length = 2 := by cases v <;> exact number_length 2 _

theorem channelRecord_length (s : State) (c : Channel) : (channelRecord s c).length = 11 := by
  simp only [channelRecord, List.length_append, number_length, signedNumber_length]

theorem conditionRecord_length (s : State) (i : Source) : (conditionRecord s i).length = 15 := by
  simp only [conditionRecord, List.length_append, number_length]

theorem pumpRecord_length (s : State) (b : Bay) : (pumpRecord s b).length = 21 := by
  simp only [pumpRecord, List.length_append, number_length]

theorem screenRecord_length (s : State) (x : Screen) : (screenRecord s x).length = 19 := by
  simp only [screenRecord, List.length_append, number_length, signedNumber_length]

theorem episodeRecord_length (i : Fin 16) (e : Episode) : (episodeRecord i e).length = 34 := by
  simp only [episodeRecord, List.length_append, number_length, signedNumber_length]

/-! ## READ_SETTINGS (R183, R196) -/

theorem readSettings_table {table size : Nat} (h : tableSize table = some size) :
    ReadsRecords (.readSettings table) 0x16 size fun s i => signed (s.item table i) := by
  refine readsRecords fun start count s => ?_
  have howner : readSettings table start count = fun s => readRecords size (fun i => signed (s.item table i)) start count s := by
    funext s; rw [readSettings, h]
  rw [← howner]
  rfl

theorem readSettings_noTable {table start count : Nat} {s : State} (hs : s.ready) (h : tableSize table = none) :
    exec (.readSettings table start count) s = .next (s.heard.replying 0x16 .badIndex []) := by
  rw [show exec (.readSettings table start count) s = addressed 0x16 (readSettings table start count) s from rfl,
    addressed_ready _ _ _ hs, show readSettings table start count s.heard = .refuse s.heard .badIndex by
    rw [readSettings, h], enterTurnaround_quiet _ _ (show s.heard.inbox = [] from hs.1.2)]
  rfl

end

end Sys2Proof.Machine

open Sys2Proof Sys2Proof.Machine

/-- Settles O21: the reads by the longest run, the records by their layouts. -/
theorem readsReturnTheLongestRun : Obligations.ReadsReturnTheLongestRun := by
  refine ⟨⟨readsRecords fun _ _ _ => rfl, readsRecords fun _ _ _ => rfl, readsRecords fun _ _ _ => rfl,
    readsRecords fun _ _ _ => rfl, readsRecords fun _ _ _ => rfl, fun table size h => readSettings_table ?_,
    fun table start count s hs h => readSettings_noTable hs ?_⟩, fun s => ⟨?_, ?_, ?_, ?_, ?_, ?_⟩⟩
  · simp only [List.mem_cons, List.not_mem_nil, or_false, Prod.mk.injEq] at h
    rcases h with ⟨rfl, rfl⟩ | ⟨rfl, rfl⟩ | ⟨rfl, rfl⟩ | ⟨rfl, rfl⟩ | ⟨rfl, rfl⟩ | ⟨rfl, rfl⟩ | ⟨rfl, rfl⟩ | ⟨rfl, rfl⟩ <;> rfl
  · rcases h with rfl | h
    · rfl
    · match table, h with
      | n + 9, _ => rfl
  · exact fun c => ⟨channelChars_eq s c, channelRecord_length s c⟩
  · exact fun i => ⟨conditionChars_eq s i, conditionRecord_length s i⟩
  · exact fun b => ⟨pumpChars_eq s b, pumpRecord_length s b⟩
  · exact fun x => ⟨screenChars_eq s x, screenRecord_length s x⟩
  · exact fun table i => ⟨(signedNumber_eq (some (s.item table i))).symm, signedNumber_length _⟩
  · exact fun i e => ⟨episodeChars_free, fun h => ⟨episodeChars_occupied h, episodeRecord_length i e⟩⟩
end

section
/-! PROOFS. A sample arrival (chapter 1): the record it leaves, and the frame of everything else. -/

namespace Sys2Proof.Machine

open Sys2Proof.Spec

/-! ## What each step of a sample writes (R4 to R16) -/

namespace ChannelRec

variable (k : FaultKind) (r : ChannelRec)

/-- A faulted sample's step, as R10 gives the counter and the validity. -/
theorem countFault_eq :
    r.countFault k = { r with lastFault := k, counter := faultCounter r, valid := faultValid r } := by
  unfold countFault faultCounter faultValid; split <;> rfl

end ChannelRec

/-- The record reconciled with the working copy (R12). -/
theorem reconcile_eq (s : State) (c : Channel) :
    (s.channel c).reconcile (s.itemNat 1 (c.base + 3)) (s.itemNat 1 (c.base + 4)) = reconciled s c := by
  have hinvalid (n limit hold : Nat) : min (max n limit) (limit + hold) =
      if n < limit then min limit (limit + hold) else min n (limit + hold) := by split <;> omega
  unfold ChannelRec.reconcile reconciled
  rw [hinvalid]

theorem candidate_eq (s : State) (c : Channel) (ic : Nat) : s.candidate c ic = candidate s c ic := rfl

theorem failsStep_iff (s : State) (c : Channel) (level : Int) :
    s.failsStep c level (s.channel c).stepRef = true ↔ StepFails s c level := by
  unfold State.failsStep StepFails
  match (s.channel c).stepRef with
  | none => simp
  | some ref =>
    refine Iff.trans decide_eq_true_iff ⟨fun h => ⟨ref, rfl, h⟩, fun ⟨_, hr, h⟩ => ?_⟩
    cases hr; exact h

theorem failsCross_iff (s : State) (c : Channel) (level : Int) : s.failsCross c level = true ↔ CrossFails s c level := by
  cases c <;> simp [State.failsCross, CrossFails, State.closed, Contacts.get]

/-- The alarm status is all that is brought up to date (R14 to R16). -/
theorem alarmed_eq (s : State) (c : Channel) (level : Int) (r : ChannelRec) :
    s.alarmed c level r = { r with high := (s.alarmed c level r).high, low := (s.alarmed c level r).low } := by
  unfold State.alarmed
  split
  · cases c <;> rfl
  · rfl

/-! ## Bands (R3) -/

theorem bandOf_outOfBand {i : Nat} (h : i < 3600 ∨ 20800 < i) :
    bandOf (min i 24000) = if i < 1000 then .loopOpen else if i < 3600 then .under else .over := by
  unfold bandOf
  by_cases h1 : i < 1000
  · rw [if_pos (by omega), if_pos h1]
  rw [if_neg (by omega), if_neg h1]
  by_cases h2 : i < 3600
  · rw [if_pos (by omega), if_pos h2]
  · rw [if_neg (by omega), if_neg h2, if_neg (by omega), if_neg (by omega), if_neg (by omega)]

theorem bandOf_inBand {i : Nat} (hl : 3600 ≤ i) (hh : i ≤ 20800) :
    bandOf i = if i < 4000 then .lowClamp else if i ≤ 20000 then .normal else .highClamp := by
  unfold bandOf
  rw [if_neg (by omega), if_neg (by omega)]
  simp only [hh, if_true]

theorem clampedCurrent_outOfBand {i : Nat} (h : i < 3600 ∨ 20800 < i) : clampedCurrent (min i 24000) = none := by
  unfold clampedCurrent
  rw [bandOf_outOfBand h]
  by_cases h1 : i < 1000
  · simp only [h1, if_true]
  · by_cases h2 : i < 3600 <;> simp only [h1, h2, if_true, if_false]

theorem clampedCurrent_inBand {i : Nat} (hl : 3600 ≤ i) (hh : i ≤ 20800) : clampedCurrent i = some (clamped i) := by
  unfold clampedCurrent clamped
  rw [bandOf_inBand hl hh]
  by_cases h1 : i < 4000
  · simp only [h1, if_true]
  · by_cases h2 : i ≤ 20000
    · simp only [h1, h2, if_true, if_false, not_lt.2 h2]
    · simp only [h1, h2, if_true, if_false, not_le.1 h2]

/-! ## The record after a sample -/

/-- A sample out of band (R5, R9, R10). -/
theorem sampled_outOfBand (s : State) (c : Channel) {i : Nat} (h : i < 3600 ∨ 20800 < i) :
    s.sampled c i = ({ reconciled s c with
      band := if i < 1000 then .loopOpen else if i < 3600 then .under else .over
      current := min i 24000
      lastFault := if i < 1000 then .loopOpen else if i < 3600 then .under else .over
      pinned := (s.channel c).pinned || decide (i < 1000)
      counter := if i < 1000 then (reconciled s c).limit + (reconciled s c).hold else faultCounter (reconciled s c)
      valid := if i < 1000 then false else faultValid (reconciled s c) }, false) := by
  unfold State.sampled
  simp only [clampedCurrent_outOfBand h, bandOf_outOfBand h, reconcile_eq, ChannelRec.countFault_eq]
  by_cases h1 : i < 1000
  · simp [h1, ChannelRec.openLoop]
  · by_cases h2 : i < 3600 <;> simp [h1, h2, Band.faultKind] <;> exact ⟨rfl, rfl, rfl⟩

/-- The record that STEP and CROSS judge: a sample in band written (R3, R6). -/
def taken (s : State) (c : Channel) (i : Nat) : ChannelRec :=
  { reconciled s c with band := bandOf i, current := i, stepRef := some (clamped i) }

/-- A sample in band that fails STEP (R6, R10). -/
theorem sampled_stepFails (s : State) (c : Channel) {i : Nat} (hl : 3600 ≤ i) (hh : i ≤ 20800)
    (hf : StepFails s c (candidate s c (clamped i))) : s.sampled c i = ((taken s c i).countFault .step, false) := by
  have hstep := (failsStep_iff s c _).2 hf
  unfold State.sampled
  simp only [Nat.min_eq_left (show i ≤ 24000 by omega), clampedCurrent_inBand hl hh, reconcile_eq, candidate_eq]
  rw [if_pos (by exact hstep)]
  rfl

/-- The record that the accepted sample leaves before its alarms are judged (R7, R8, R10, R11). -/
def judged (s : State) (c : Channel) (i : Nat) : ChannelRec :=
  let level := candidate s c (clamped i)
  let r := { taken s c i with level := some level }
  if s.failsCross c level then r.countFault .cross else r.countClean

/-- A sample in band that passes STEP is accepted (R7, R8, R10, R11, R14 to R16). -/
theorem sampled_stepPasses (s : State) (c : Channel) {i : Nat} (hl : 3600 ≤ i) (hh : i ≤ 20800)
    (hf : ¬ StepFails s c (candidate s c (clamped i))) :
    s.sampled c i = (s.alarmed c (candidate s c (clamped i)) (judged s c i), true) := by
  have hstep := (failsStep_iff s c _).not.2 hf
  unfold State.sampled
  simp only [Nat.min_eq_left (show i ≤ 24000 by omega), clampedCurrent_inBand hl hh, reconcile_eq, candidate_eq]
  rw [if_neg (by exact hstep)]
  rfl

/-! ## The arrival and its frame (R2, R13) -/

/-- What no notice reaches, after a sample: the channel, its timer, and the Spill Meter's report of IN. -/
theorem sampleArrives_plant (s : State) (c : Channel) (i : Nat) :
    (sampleArrives c i s).plant = { s.plant with
      channels := ⟨s.channels.recs.put c (s.sampled c i).1, s.channels.sampleTimers.put c (some 200)⟩
      spill := { s.spill with
        report := if c = .inlet then (s.sampled c i).1.report (s.sampled c i).2 else s.spill.report } } := by
  unfold sampleArrives
  dsimp only
  rw [settle_plant]
  cases c
  case inlet => rw [handReport, screensReport_plant]; rfl
  case ww => rfl
  all_goals rw [handReport, screensReport_plant]; rfl

theorem sampleArrives_channel (s : State) (c : Channel) (i : Nat) :
    (sampleArrives c i s).channel c = (s.sampled c i).1 := by
  have h : (sampleArrives c i s).channels = _ := congrArg Plant.channels (sampleArrives_plant s c i)
  rw [State.channel, h]
  exact PerChannel.get_put_self _ _ _

/-- A sample leaves everything but its channel, its timer and the reports as they are (R2, R13). -/
theorem sampleArrives_frame (s : State) (c : Channel) (i : Nat) :
    SampleFrame s (sampleArrives c i s) c (s.sampled c i).2 := by
  have h : (sampleArrives c i s).channels = _ := congrArg Plant.channels (sampleArrives_plant s c i)
  refine ⟨fun d hd => ?_, by rw [h], ?_⟩
  · rw [State.channel, h]
    exact PerChannel.get_put_ne _ _ hd
  · rw [sampleArrives_plant, sampleArrives_channel, h]
    rfl

/-- An arrival comes when the channel's sample timer runs (R2). -/
theorem exec_sampleArrival {s : State} {c : Channel} (i : Nat) (hp : s.power = .on)
    (ht : (s.channels.sampleTimers.get c).isSome = true) :
    exec (.sampleArrival c i) s = .next (sampleArrives c i s) := by
  show powered _ s = _
  rw [powered_on _ _ hp, if_pos ht]

end Sys2Proof.Machine

open Sys2Proof Sys2Proof.Machine

/-- Settles O5, by the record that a sample out of band leaves and the frame of every arrival. -/
theorem outOfBandSampleIsFaulted : Obligations.OutOfBandSampleIsFaulted := by
  intro c i s hp ht hi
  have hframe := sampleArrives_frame s c i
  have hchan := sampleArrives_channel s c i
  rw [sampled_outOfBand s c hi] at hframe hchan
  exact ⟨_, exec_sampleArrival i hp ht, hframe, hchan⟩
end

section
/-! PROOFS. The screens in the terms of chapter 6: each move of a rake is a screen record replaced; and the reports that the
Condition Table takes. -/

namespace Sys2Proof.Machine

open Sys2Proof.Spec

variable (s : State)

/-! ## Condition records read back (R161 to R163) -/

theorem Source.index_injective : Function.Injective Source.index := by
  intro i j h
  revert h
  cases i <;> cases j <;> decide

theorem Conditions.get_modify_self (t : Conditions) (i : Source) (f : CondRec → CondRec) :
    (t.modify i f).recs.get i.index = f (t.recs.get i.index) :=
  Vector.getElem_set_self (xs := t.recs) i.index.isLt

theorem Conditions.get_modify_ne (t : Conditions) {i j : Source} (f : CondRec → CondRec) (h : j ≠ i) :
    (t.modify i f).recs.get j.index = t.recs.get j.index :=
  Vector.getElem_set_ne (xs := t.recs) i.index.isLt j.index.isLt
    fun e => h (Source.index_injective (Fin.ext e).symm)

/-- A report is taken at its source's record. -/
@[simp] theorem cond_report_self (i : Source) (a : Bool) (d : Option Detail) : (s.report i a d).cond i = told s i a d :=
  Conditions.get_modify_self _ _ _

/-- A report leaves every other record as it was. -/
theorem cond_report_ne {i j : Source} (a : Bool) (d : Option Detail) (h : j ≠ i) : (s.report i a d).cond j = s.cond j :=
  Conditions.get_modify_ne _ _ h

@[simp] theorem cond_setScreen (x : Screen) (r : ScreenRec) (i : Source) : (s.setScreen x r).cond i = s.cond i := rfl

theorem CondRec.moveTo_active (now : Nat) (st : CondState) (r : CondRec) : (r.moveTo now st).active = r.active := by
  unfold CondRec.moveTo; split <;> rfl

/-- A record's activity is the one last reported (R162). -/
theorem CondRec.takeReport_active (now : Nat) (a : Bool) (d : Option Detail) (r : CondRec) :
    (r.takeReport now a d).active = a := by
  have hact : (r.takeActivity now a).active = a := by
    unfold CondRec.takeActivity
    split
    · rename_i h; exact h.symm
    · split
      · rename_i h; rw [CondRec.moveTo_active]; exact h.symm
      · rename_i h; rw [CondRec.moveTo_active]; simpa using h
  unfold CondRec.takeReport
  dsimp only
  split <;> exact hact

/-! ## A rake's moves (R109 to R117) -/

@[simp] theorem setScreen_setScreen (x : Screen) (r q : ScreenRec) : (s.setScreen x r).setScreen x q = s.setScreen x q := by
  cases x <;> rfl

@[simp] theorem setScreen_self (x : Screen) : s.setScreen x (s.screen x) = s := by
  cases x <;> rfl

theorem modScreen_eq (x : Screen) (f : ScreenRec → ScreenRec) : s.modScreen x f = s.setScreen x (f (s.screen x)) := rfl

theorem rakeHeld_iff : s.rakeHeld = false ↔ FreeToRake s := by
  unfold State.rakeHeld FreeToRake
  cases s.screens.supply <;> cases s.screens.ramping <;> simp

theorem rakeInterval_eq (st : StormState) : s.rakeInterval st = if st = .storm then s.itemNat 5 6 else s.itemNat 5 5 := by
  cases st <;> rfl

/-- A cycle starts (R113, R114, R115). -/
theorem startCycle_eq (x : Screen) : startCycle x s = s.setScreen x (begun s x (s.screen x)) := by
  have htrip (t : State) : t.rakeTripped x = !(t.contacts.rakeOverload.get x).filtered := rfl
  have htop (t : State) : t.closed (.topLimit x) = (t.contacts.topLimit.get x).filtered := rfl
  unfold startCycle judgeRise begun
  simp only [htrip, htop, modScreen_contacts]
  cases (s.contacts.rakeOverload.get x).filtered
  · simp only [Bool.not_false, if_true, overloadInRising, screen_modScreen_self]
    rw [if_neg (by simp [ScreenRec.enter])]
    simp only [modScreen_eq, screen_setScreen_self, setScreen_setScreen]
    simp [cycling, ScreenRec.enter, rakeInterval_eq, seconds, State.itemNat, State.item]
    rfl
  · simp only [Bool.not_true, Bool.false_eq_true, if_false]
    cases (s.contacts.topLimit.get x).filtered
    · simp [cycling, ScreenRec.enter, rakeInterval_eq, seconds, State.strokeStart, modScreen_eq]
      rfl
    · simp [topReached, modScreen_eq, cycling, ScreenRec.enter, rakeInterval_eq, seconds, State.strokeStart, State.itemNat,
        State.item]
      rfl

/-- The start test (R111). -/
theorem startTest_eq (x : Screen) : startTest x s =
    s.setScreen x (if FreeToRake s then begun s x (s.screen x) else { s.screen x with pending := true }) := by
  unfold startTest
  by_cases h : FreeToRake s
  · rw [if_pos h, if_neg (by simp [(rakeHeld_iff s).2 h]), startCycle_eq]
  · rw [if_neg h, if_pos (by simpa using (rakeHeld_iff s).not.2 h)]
    rfl

/-- R111: a screen record that a trigger has reached: a cycle from IDLE if the screen is free to rake, pending otherwise. -/
def triggered (x : Screen) (r : ScreenRec) : ScreenRec :=
  if r.state = .idle ∧ FreeToRake s then begun s x r else { r with pending := true }

/-- A trigger for a screen in use (R111). -/
theorem trigger_eq (x : Screen) (h : (s.screen x).inUse = true) :
    trigger x s = s.setScreen x (triggered s x (s.screen x)) := by
  unfold trigger triggered
  rw [if_pos h]
  by_cases hi : (s.screen x).state = .idle
  · rw [if_pos hi, startTest_eq]; simp only [hi, true_and]
  · rw [if_neg hi]; simp only [hi, false_and, if_false]; rfl

/-- The return to rest (R115). -/
theorem returnToRest_eq (x : Screen) : returnToRest x s = s.setScreen x (atRest s x (s.screen x)) := by
  unfold returnToRest atRest
  by_cases hi : (s.screen x).inhibit = true
  · simp [hi, modScreen_eq, ScreenRec.stopMotion, ScreenRec.enter]
    rfl
  · have hi' : (s.screen x).inhibit = false := by simpa using hi
    by_cases hp : (s.screen x).pending = true
    · simp only [hi', hp, Bool.false_eq_true, if_false, startTest_eq, modScreen_eq, screen_setScreen_self,
        setScreen_setScreen, ScreenRec.stopMotion, ScreenRec.enter, if_true, true_and]
      by_cases hf : FreeToRake s
      · rw [if_pos hf, if_pos (show FreeToRake (s.setScreen x _) from hf)]; rfl
      · rw [if_neg hf, if_neg (show ¬ FreeToRake (s.setScreen x _) from hf)]; rfl
    · simp [hi', hp, modScreen_eq, ScreenRec.stopMotion, ScreenRec.enter]
      rfl

/-- Entry to HOMING (R117). -/
theorem enterHoming_eq (x : Screen) : enterHoming x s = s.setScreen x (homed s x (s.screen x)) := by
  unfold enterHoming homed
  split
  · rfl
  · have hhome : s.closed (.homeLimit x) = (s.contacts.homeLimit.get x).filtered := rfl
    rw [hhome]
    split
    · exact returnToRest_eq s x
    · rfl

/-- A screen IDLE with pending set makes the start test again (R111). -/
theorem retest_eq (x : Screen) : retest x s = s.setScreen x (retried s x (s.screen x)) := by
  unfold retest retried
  by_cases h : (s.screen x).inUse = true ∧ (s.screen x).state = .idle ∧ (s.screen x).pending = true
  · rw [if_pos h, startTest_eq]
    by_cases hf : FreeToRake s
    · rw [if_pos hf, if_pos ⟨h.1, h.2.1, h.2.2, hf⟩]
    · rw [if_neg hf, if_neg fun k => hf k.2.2.2]
      obtain ⟨-, -, hp⟩ := h
      rw [show ({ s.screen x with pending := true } : ScreenRec) = s.screen x by rw [← hp]]
  · rw [if_neg h, if_neg fun k => h ⟨k.1, k.2.1, k.2.2.1⟩, setScreen_self]

end Sys2Proof.Machine
end

section
/-! PROOFS. A channel report at the Screen Controller (R110, R111), and the sources of a channel (R17, R18). -/

namespace Sys2Proof.Machine

open Sys2Proof.Spec

/-! ## The differential of one screen -/

/-- A cycle start leaves the use and the blinding of its screen. -/
theorem begun_flags (s : State) (x : Screen) (r : ScreenRec) :
    (begun s x r).inUse = r.inUse ∧ (begun s x r).blinded = r.blinded := by
  unfold begun
  repeat' split
  all_goals exact ⟨rfl, rfl⟩

/-- What the rules of R113 to R115 read of a state for a screen. -/
structure SameRake (s t : State) : Prop where
  contacts : t.contacts = s.contacts
  store : t.store = s.store
  storm : t.screens.storm = s.screens.storm
  supply : t.screens.supply = s.screens.supply
  ramping : t.screens.ramping = s.screens.ramping

theorem SameRake.begun {s t : State} (h : SameRake s t) (x : Screen) (r : ScreenRec) : begun t x r = begun s x r := by
  simp only [Spec.begun, cycling, State.itemNat, State.item, h.contacts, h.store, h.storm]

theorem SameRake.free {s t : State} (h : SameRake s t) : FreeToRake t ↔ FreeToRake s := by
  unfold FreeToRake; rw [h.supply, h.ramping]

theorem SameRake.item {s t : State} (h : SameRake s t) (table i : Nat) : t.item table i = s.item table i := by
  unfold State.item; rw [h.store]

/-- The differential of R110 from the two reports held. -/
theorem difference_eq (k : Screens) (x : Screen) : k.difference x = lossOfHead k.inReport (k.downstream x) := by
  have hknown (r : ChannelReport) : r.known = if r.usable = true then r.level else none := rfl
  unfold Screens.difference lossOfHead
  simp only [hknown]
  rcases k.inReport with ⟨-, l, u⟩
  rcases k.downstream x with ⟨-, m, w⟩
  cases u <;> cases w <;> cases l <;> cases m <;> rfl

/-- Whether a screen is BLINDED depends on the flags alone. -/
theorem someBlinded_congr {s t : State} (h : ∀ x, (t.screen x).inUse = (s.screen x).inUse ∧
    (t.screen x).blinded = (s.screen x).blinded) : someBlinded t = someBlinded s := by
  simp only [someBlinded, Screen.all, List.any_cons, List.any_nil, (h .a).1, (h .a).2, (h .b).1, (h .b).2]

/-- A screen with its differential and BLINDED written, before its trigger (R110). -/
def sighted (s : State) (x : Screen) (d : Option Int) : ScreenRec :=
  { s.screen x with
    differential := d
    blinded := match d with
      | none => (s.screen x).blinded
      | some v => s.blindedAt v (s.screen x).blinded }

theorem measured_none (s : State) (x : Screen) (accepted : Bool) : measured s x accepted none = sighted s x none := rfl

theorem measured_some (s : State) (x : Screen) (accepted : Bool) (v : Int) : measured s x accepted (some v) =
    if accepted = true ∧ s.item 5 0 ≤ v then triggered s x (sighted s x (some v)) else sighted s x (some v) := rfl

theorem triggered_flags (s : State) (x : Screen) (r : ScreenRec) :
    (triggered s x r).inUse = r.inUse ∧ (triggered s x r).blinded = r.blinded := by
  unfold triggered
  split
  · exact begun_flags s x r
  · exact ⟨rfl, rfl⟩

theorem SameRake.triggered {s t : State} (h : SameRake s t) (x : Screen) (r : ScreenRec) :
    triggered t x r = triggered s x r := by
  unfold Machine.triggered
  simp only [h.free, h.begun]

theorem SameRake.sighted {s t : State} (h : SameRake s t) {x : Screen} (hx : t.screen x = s.screen x) (d : Option Int) :
    sighted t x d = sighted s x d := by
  unfold Machine.sighted State.blindedAt
  rw [hx]
  cases d <;> simp only [h.item]

/-- A measurement reads of a state what a rake's rules read, and the screen's own record. -/
theorem SameRake.measured {s t : State} (h : SameRake s t) {x : Screen} (hx : t.screen x = s.screen x) (accepted : Bool)
    (d : Option Int) : measured t x accepted d = measured s x accepted d := by
  cases d with
  | none => rw [measured_none, measured_none, h.sighted hx]
  | some v => simp only [measured_some, h.sighted hx, h.item, h.triggered]

theorem measured_blinded (s : State) (x : Screen) (accepted : Bool) (d : Option Int) :
    (measured s x accepted d).blinded = (sighted s x d).blinded := by
  cases d with
  | none => rfl
  | some v => rw [measured_some]; split <;> [exact (triggered_flags s x _).2; rfl]

/-- A measurement leaves the use of its screen. -/
theorem measured_inUse (s : State) (x : Screen) (accepted : Bool) (d : Option Int) :
    (measured s x accepted d).inUse = (s.screen x).inUse := by
  cases d with
  | none => rfl
  | some v => rw [measured_some]; split <;> [exact (triggered_flags s x _).1; rfl]

/-- The differential and BLINDED written at a screen, and SCREEN_BLINDED reported at a change of BLINDED (R110). -/
def sight (x : Screen) (d : Option Int) (s : State) : State :=
  let v := s.setScreen x (sighted s x d)
  if (sighted s x d).blinded = (s.screen x).blinded then v else v.report .screenBlinded (someBlinded v)

/-- The differential of a screen in use: written and reported, and then the trigger of R111. -/
theorem updateDifferential_sight (accepted : Bool) {x : Screen} {s : State} (hu : (s.screen x).inUse = true) :
    updateDifferential accepted x s =
      match s.screens.difference x with
      | none => sight x none s
      | some v => if accepted = true ∧ (sight x (some v) s).item 5 0 ≤ v then trigger x (sight x (some v) s)
        else sight x (some v) s := by
  unfold updateDifferential
  rw [if_pos hu]
  cases s.screens.difference x <;> rfl

theorem sight_sameRake (x : Screen) (d : Option Int) (s : State) : SameRake s (sight x d s) := by
  unfold sight; dsimp only; split <;> exact ⟨rfl, rfl, rfl, rfl, rfl⟩

@[simp] theorem sight_screen (x : Screen) (d : Option Int) (s : State) : (sight x d s).screen x = sighted s x d := by
  unfold sight; dsimp only; split <;> simp

/-- The differential of a screen in use worked out: its record measured, and SCREEN_BLINDED reported at a change. -/
theorem updateDifferential_eq (accepted : Bool) {x : Screen} {s : State} (hu : (s.screen x).inUse = true) :
    updateDifferential accepted x s =
      (sight x (s.screens.difference x) s).setScreen x (measured s x accepted (s.screens.difference x)) := by
  rw [updateDifferential_sight accepted hu]
  cases s.screens.difference x with
  | none => rw [measured_none, ← sight_screen x none s, setScreen_self]
  | some v =>
    have hrake := sight_sameRake x (some v) s
    dsimp only
    rw [measured_some, hrake.item]
    split
    · rw [trigger_eq _ _ (by rw [sight_screen]; exact hu), sight_screen, hrake.triggered]
    · rw [← sight_screen x (some v) s, setScreen_self]

/-- What a differential worked out at one screen leaves (R110, R111). -/
structure Differs (accepted : Bool) (x : Screen) (s v : State) : Prop where
  screen : v.screen x = if (s.screen x).inUse = true then measured s x accepted (s.screens.difference x) else s.screen x
  other : ∀ z, z ≠ x → v.screen z = s.screen z
  frame : v = { s with screens := { s.screens with recs := v.screens.recs }, conditions := v.conditions }
  source : ∀ i, i ≠ .screenBlinded → v.cond i = s.cond i
  quiet : (v.screen x).blinded = (s.screen x).blinded → v.cond .screenBlinded = s.cond .screenBlinded
  follows : (s.cond .screenBlinded).active = someBlinded s → (v.cond .screenBlinded).active = someBlinded v

theorem updateDifferential_differs (accepted : Bool) (x : Screen) (s : State) :
    Differs accepted x s (updateDifferential accepted x s) := by
  by_cases hu : (s.screen x).inUse = true
  · have hmeas := measured_blinded s x accepted (s.screens.difference x)
    have huse := measured_inUse s x accepted (s.screens.difference x)
    rw [updateDifferential_eq accepted hu]
    generalize hd : s.screens.difference x = d at hmeas huse
    have hsight : (sight x d s).screen x = sighted s x d := sight_screen x d s
    have hother (z : Screen) (hz : z ≠ x) : (sight x d s).screen z = s.screen z := by
      unfold sight; dsimp only; split <;> simp [screen_setScreen_ne _ _ hz]
    have hflags : someBlinded ((sight x d s).setScreen x (measured s x accepted d)) =
        someBlinded (s.setScreen x (sighted s x d)) := someBlinded_congr fun z => by
      by_cases hz : z = x
      · subst hz; simp only [screen_setScreen_self, hmeas, huse]; exact ⟨rfl, trivial⟩
      · simp only [screen_setScreen_ne _ _ hz, hother z hz, and_self]
    refine ⟨by rw [if_pos hu, screen_setScreen_self, hd], fun z hz => by rw [screen_setScreen_ne _ _ hz, hother z hz], ?_,
      fun i hi => ?_, fun h => ?_, fun h => ?_⟩
    · unfold sight; dsimp only; split <;> cases x <;> rfl
    · rw [cond_setScreen]
      unfold sight; dsimp only; split
      · rfl
      · rw [cond_report_ne _ _ _ hi]; rfl
    · rw [screen_setScreen_self, hmeas] at h
      rw [cond_setScreen, sight, if_pos h]
      rfl
    · rw [hflags, cond_setScreen]
      unfold sight
      dsimp only
      split
      · rename_i hb
        rw [cond_setScreen, h]
        refine someBlinded_congr fun z => ?_
        by_cases hz : z = x
        · subst hz; rw [screen_setScreen_self, hb]; exact ⟨rfl, rfl⟩
        · rw [screen_setScreen_ne _ _ hz]; exact ⟨rfl, rfl⟩
      · rw [cond_report_self, told, CondRec.takeReport_active]
  · rw [updateDifferential, if_neg hu]
    exact ⟨by rw [if_neg hu], fun _ _ => rfl, rfl, fun _ _ => rfl, fun _ => rfl, id⟩

/-! ## A channel report at the Screen Controller -/

/-- A screen measured from the reports a state holds, the other reports of an earlier state aside. -/
theorem Differs.measured {accepted : Bool} {x : Screen} {s t v : State} (h : Differs accepted x t v) (hrake : SameRake s t)
    (hx : t.screen x = s.screen x) : v.screen x = if (s.screen x).inUse = true then
      measured s x accepted (lossOfHead t.screens.inReport (t.screens.downstream x)) else s.screen x := by
  rw [h.screen, hx, hrake.measured hx, difference_eq]

/-- A report heard by the Screen Controller; nothing else moves but the sources, and of these SCREEN_BLINDED alone. -/
theorem screensReport_hears (c : Channel) (rep : ChannelReport) (s : State) :
    ScreensHear c rep s (screensReport c rep s) ∧
      (∀ i, i ≠ .screenBlinded → (screensReport c rep s).cond i = s.cond i) ∧
      screensReport c rep s = { s with
        screens := (screensReport c rep s).screens, conditions := (screensReport c rep s).conditions } := by
  cases c with
  | ww => exact ⟨⟨rfl, rfl, rfl, fun _ _ => rfl, id⟩, fun _ _ => rfl, rfl⟩
  | sa =>
    let t : State := { s with screens := { s.screens with saReport := rep } }
    have hd : Differs rep.accepted .a t (screensReport .sa rep s) := updateDifferential_differs _ _ _
    have ha : _ = if (s.screen .a).inUse = true then measured s .a rep.accepted (lossOfHead s.screens.inReport rep)
      else s.screen .a := hd.measured ⟨rfl, rfl, rfl, rfl, rfl⟩ rfl
    have hb : _ = s.screen .b := hd.other .b (by decide)
    have hscreens := congrArg State.screens hd.frame
    refine ⟨⟨by simpa using ha, by simpa using hb, by simpa using hscreens, fun h _ => hd.quiet h, hd.follows⟩, hd.source, ?_⟩
    rw [hd.frame]
  | sb =>
    let t : State := { s with screens := { s.screens with sbReport := rep } }
    have hd : Differs rep.accepted .b t (screensReport .sb rep s) := updateDifferential_differs _ _ _
    have hb : _ = if (s.screen .b).inUse = true then measured s .b rep.accepted (lossOfHead s.screens.inReport rep)
      else s.screen .b := hd.measured ⟨rfl, rfl, rfl, rfl, rfl⟩ rfl
    have ha : _ = s.screen .a := hd.other .a (by decide)
    have hscreens := congrArg State.screens hd.frame
    refine ⟨⟨by simpa using ha, by simpa using hb, by simpa using hscreens, fun _ h => hd.quiet h, hd.follows⟩, hd.source, ?_⟩
    rw [hd.frame]
  | inlet =>
    let t : State := { s with screens := { s.screens with inReport := rep } }
    let m : State := updateDifferential rep.accepted .a t
    have hda : Differs rep.accepted .a t m := updateDifferential_differs _ _ _
    have hdb : Differs rep.accepted .b m (screensReport .inlet rep s) := updateDifferential_differs _ _ _
    have hm : m = { t with screens := { t.screens with recs := m.screens.recs }, conditions := m.conditions } := hda.frame
    have hrake : SameRake s m := by rw [hm]; exact ⟨rfl, rfl, rfl, rfl, rfl⟩
    have hbrec : m.screen .b = s.screen .b := hda.other .b (by decide)
    have harec : (screensReport .inlet rep s).screen .a = m.screen .a := hdb.other .a (by decide)
    have hrep : m.screens.inReport = rep ∧ m.screens.downstream .b = s.screens.sbReport := by rw [hm]; exact ⟨rfl, rfl⟩
    have ha : _ = if (s.screen .a).inUse = true then measured s .a rep.accepted (lossOfHead rep s.screens.saReport)
      else s.screen .a := hda.measured ⟨rfl, rfl, rfl, rfl, rfl⟩ rfl
    have hb := hdb.measured hrake hbrec
    rw [← harec] at ha
    rw [hrep.1, hrep.2] at hb
    have hframe := hdb.frame
    rw [hm] at hframe
    have hscreens := congrArg State.screens hframe
    refine ⟨⟨by simpa using ha, by simpa using hb, by simpa using hscreens, fun h h' => ?_, fun h => hdb.follows (hda.follows h)⟩,
      fun i hi => (hdb.source i hi).trans (hda.source i hi), ?_⟩
    · rw [hdb.quiet (by rw [h', hbrec]), hda.quiet (by rw [← harec]; exact h)]
      rfl
    · rw [hframe]

end Sys2Proof.Machine
end

section
/-! PROOFS. A sample in band (R3 to R18): the record judged, its alarms, its sources and its report at the screens. -/

namespace Sys2Proof.Machine

open Sys2Proof.Spec

/-! ## The record of an accepted sample -/

theorem judged_of_crossFails {s : State} {c : Channel} {i : Nat} (h : CrossFails s c (candidate s c (clamped i))) :
    judged s c i = ({ taken s c i with level := some (candidate s c (clamped i)) } : ChannelRec).countFault .cross := by
  rw [judged, if_pos ((failsCross_iff s c _).2 h)]

theorem judged_of_crossPasses {s : State} {c : Channel} {i : Nat} (h : ¬ CrossFails s c (candidate s c (clamped i))) :
    judged s c i = ({ taken s c i with level := some (candidate s c (clamped i)) } : ChannelRec).countClean := by
  rw [judged, if_neg ((failsCross_iff s c _).not.2 h)]

/-- What an accepted sample writes whatever CROSS says of it. -/
theorem judged_fields (s : State) (c : Channel) (i : Nat) :
    (judged s c i).band = bandOf i ∧ (judged s c i).current = i ∧ (judged s c i).stepRef = some (clamped i) ∧
    (judged s c i).limit = (reconciled s c).limit ∧ (judged s c i).hold = (reconciled s c).hold ∧
    (judged s c i).pinned = (reconciled s c).pinned ∧ (judged s c i).level = some (candidate s c (clamped i)) ∧
    (judged s c i).high = (s.channel c).high ∧ (judged s c i).low = (s.channel c).low := by
  by_cases h : CrossFails s c (candidate s c (clamped i))
  · rw [judged_of_crossFails h]
    rw [ChannelRec.countFault_eq]
    exact ⟨rfl, rfl, rfl, rfl, rfl, rfl, rfl, rfl, rfl⟩
  · rw [judged_of_crossPasses h]
    exact ⟨rfl, rfl, rfl, rfl, rfl, rfl, rfl, rfl, rfl⟩

/-! ## The alarm status (R14 to R16) -/

theorem alarmed_invalid {s : State} {c : Channel} {level : Int} {r : ChannelRec} (h : r.valid = false) :
    s.alarmed c level r = r := by
  unfold State.alarmed
  rw [if_neg (by simp [h])]

theorem alarmed_valid {s : State} {c : Channel} {level : Int} {r : ChannelRec} : (s.alarmed c level r).valid = r.valid := by
  rw [alarmed_eq]

/-- HIGH by the band and the thresholds (R15, R16, log 9). -/
theorem highStatus_inBand {i : Nat} (hl : 3600 ≤ i) (hh : i ≤ 20800) (level high deadband : Int) (was : Bool) :
    highStatus (bandOf i) level high deadband was =
      if i < 4000 then false else if 20000 < i then true
      else if high ≤ level then true else if level ≤ high - deadband then false else was := by
  rw [bandOf_inBand hl hh]
  by_cases h1 : i < 4000
  · simp only [h1, if_true]; rfl
  · by_cases h2 : i ≤ 20000
    · simp [h1, h2, not_lt.2 h2, highStatus, latch]
    · simp only [h1, h2, not_le.1 h2, if_true, if_false]; rfl

/-- LOW by the band and the thresholds (R15, log 9). -/
theorem lowStatus_inBand {i : Nat} (hl : 3600 ≤ i) (hh : i ≤ 20800) (level low deadband : Int) (was : Bool) :
    lowStatus (bandOf i) level low deadband was =
      if i < 4000 then true else if 20000 < i then false
      else if level ≤ low then true else if low + deadband ≤ level then false else was := by
  rw [bandOf_inBand hl hh]
  by_cases h1 : i < 4000
  · simp only [h1, if_true]; rfl
  · by_cases h2 : i ≤ 20000
    · simp [h1, h2, not_lt.2 h2, lowStatus, latch]
    · simp only [h1, h2, not_le.1 h2, if_true, if_false]; rfl

/-! ## The arrival before its notices are taken -/

/-- The state that an arrival leaves to its notices (R2, R13, R17, R18). -/
def arrived (s : State) (c : Channel) (i : Nat) : State :=
  handReport c ((s.sampled c i).1.report (s.sampled c i).2)
    (reportChannel c ((s.restartSample c).setChannel c (s.sampled c i).1))

theorem told_congr {s t : State} {i : Source} (h : t.cond i = s.cond i) (hc : t.clock = s.clock) (a : Bool)
    (d : Option Detail) : told t i a d = told s i a d := by
  unfold told; rw [h, hc]

/-- What a source is told does not depend on another source's report. -/
theorem told_report_ne {i j : Source} (s : State) (b : Bool) (e : Option Detail) (a : Bool) (d : Option Detail)
    (h : i ≠ j) : told (s.report j b e) i a d = told s i a d :=
  told_congr (cond_report_ne _ _ _ h) rfl a d

/-- CH_x_INVALID reported from a channel's record (R18). -/
def invalidReported (c : Channel) (r : ChannelRec) (s : State) : State :=
  s.report (invalidOf c) (!r.valid) (if r.valid then none else some (.fault r.lastFault))

theorem reportChannel_ww (s : State) : reportChannel .ww s = invalidReported .ww (s.channel .ww)
    ((s.report .wwHigh ((s.channel .ww).high && decide (s.item 1 24 = 1))).report .wwLow
      ((s.channel .ww).low && decide (s.item 1 25 = 1))) := rfl

theorem reportChannel_inlet (s : State) : reportChannel .inlet s = invalidReported .inlet (s.channel .inlet)
    (s.report .inHigh ((s.channel .inlet).high && decide (s.item 1 26 = 1))) := rfl

theorem reportChannel_screen {c : Channel} (s : State) (h : c = .sa ∨ c = .sb) :
    reportChannel c s = invalidReported c (s.channel c) s := by
  rcases h with rfl | rfl <;> rfl

theorem cond_invalidReported_self (c : Channel) (r : ChannelRec) (s : State) : (invalidReported c r s).cond (invalidOf c) =
    told s (invalidOf c) (!r.valid) (if r.valid then none else some (.fault r.lastFault)) := cond_report_self _ _ _ _

theorem cond_invalidReported_ne {c : Channel} (r : ChannelRec) (s : State) {i : Source} (h : i ≠ invalidOf c) :
    (invalidReported c r s).cond i = s.cond i := cond_report_ne _ _ _ h

/-- The sources of a channel reported from its record (R17, R18). -/
theorem reportChannel_sources (c : Channel) (s : State) : SourcesFollow c s (reportChannel c s) := by
  have hchan : (reportChannel c s).channel c = s.channel c := by cases c <;> rfl
  unfold SourcesFollow
  dsimp only
  rw [hchan]
  cases c with
  | ww =>
    rw [reportChannel_ww]
    refine ⟨?_, fun _ => ⟨?_, ?_⟩, (nomatch ·), fun i hinv _ hww _ => ?_⟩
    · rw [cond_invalidReported_self, told_report_ne _ _ _ _ _ (by decide), told_report_ne _ _ _ _ _ (by decide)]
    · rw [cond_invalidReported_ne _ _ (by decide), cond_report_ne _ _ _ (by decide), cond_report_self]
    · rw [cond_invalidReported_ne _ _ (by decide), cond_report_self, told_report_ne _ _ _ _ _ (by decide)]
    · have hhigh : i ≠ .wwHigh := fun h => hww ⟨rfl, .inl h⟩
      have hlow : i ≠ .wwLow := fun h => hww ⟨rfl, .inr h⟩
      rw [cond_invalidReported_ne _ _ hinv, cond_report_ne _ _ _ hlow, cond_report_ne _ _ _ hhigh]
  | inlet =>
    rw [reportChannel_inlet]
    refine ⟨?_, (nomatch ·), fun _ => ?_, fun i hinv _ _ hin => ?_⟩
    · rw [cond_invalidReported_self, told_report_ne _ _ _ _ _ (by decide)]
    · rw [cond_invalidReported_ne _ _ (by decide), cond_report_self]
    · rw [cond_invalidReported_ne _ _ hinv, cond_report_ne _ _ _ fun h => hin ⟨rfl, h⟩]
  | sa =>
    rw [reportChannel_screen s (.inl rfl)]
    exact ⟨cond_invalidReported_self _ _ _, (nomatch ·), (nomatch ·),
      fun i hinv _ _ _ => cond_invalidReported_ne _ _ hinv⟩
  | sb =>
    rw [reportChannel_screen s (.inr rfl)]
    exact ⟨cond_invalidReported_self _ _ _, (nomatch ·), (nomatch ·),
      fun i hinv _ _ _ => cond_invalidReported_ne _ _ hinv⟩

/-- The sources of a channel are not SCREEN_BLINDED. -/
theorem reportChannel_blinded (c : Channel) (s : State) :
    (reportChannel c s).cond .screenBlinded = s.cond .screenBlinded := by
  cases c with
  | ww => rw [reportChannel_ww, cond_invalidReported_ne _ _ (by decide), cond_report_ne _ _ _ (by decide),
      cond_report_ne _ _ _ (by decide)]
  | inlet => rw [reportChannel_inlet, cond_invalidReported_ne _ _ (by decide), cond_report_ne _ _ _ (by decide)]
  | sa => rw [reportChannel_screen s (.inl rfl), cond_invalidReported_ne _ _ (by decide)]
  | sb => rw [reportChannel_screen s (.inr rfl), cond_invalidReported_ne _ _ (by decide)]

/-- The report handed on moves of the sources SCREEN_BLINDED alone, and no channel. -/
theorem handReport_sources (c : Channel) (r : ChannelReport) (s : State) :
    (handReport c r s).channels = s.channels ∧ ∀ i, i ≠ .screenBlinded → (handReport c r s).cond i = s.cond i := by
  have hscreens (t : State) : (screensReport c r t).channels = t.channels ∧
      ∀ i, i ≠ .screenBlinded → (screensReport c r t).cond i = t.cond i := by
    obtain ⟨-, hsource, hframe⟩ := screensReport_hears c r t
    exact ⟨by rw [hframe], hsource⟩
  cases c with
  | ww => exact ⟨rfl, fun _ _ => rfl⟩
  | inlet => exact hscreens { s with spill := { s.spill with report := r } }
  | sa => exact hscreens s
  | sb => exact hscreens s

/-- What the sources follow is the records, the station time and the store of the state before, and the channel's record and
the records after. -/
theorem SourcesFollow.congr {c : Channel} {s t u v : State} (h : SourcesFollow c t u)
    (hcond : ∀ i, t.cond i = s.cond i) (hclock : t.clock = s.clock) (hstore : t.store = s.store)
    (hchan : v.channel c = u.channel c) (hv : ∀ i, i ≠ .screenBlinded → v.cond i = u.cond i) : SourcesFollow c s v := by
  have hitem (a b : Nat) : t.item a b = s.item a b := by rw [State.item, State.item, hstore]
  obtain ⟨hinv, hww, hin, hother⟩ := h
  simp only [hitem, fun i a d => told_congr (hcond i) hclock a d] at hinv hww hin
  unfold SourcesFollow
  dsimp only
  rw [hchan]
  refine ⟨?_, fun h => ⟨?_, ?_⟩, fun h => ?_, fun i h1 h2 h3 h4 => ?_⟩
  · rw [hv _ (by cases c <;> decide)]; exact hinv
  · rw [hv _ (by decide)]; exact (hww h).1
  · rw [hv _ (by decide)]; exact (hww h).2
  · rw [hv _ (by decide)]; exact hin h
  · rw [hv _ h2, hother i h1 h2 h3 h4, hcond]

theorem ScreensHear.congr {c : Channel} {rep : ChannelReport} {s t u : State} (h : ScreensHear c rep t u)
    (hscreens : t.screens = s.screens) (hcontacts : t.contacts = s.contacts) (hstore : t.store = s.store)
    (hcond : t.cond .screenBlinded = s.cond .screenBlinded) : ScreensHear c rep s u := by
  have hrec (x : Screen) : t.screen x = s.screen x := by rw [State.screen, State.screen, hscreens]
  have hrake : SameRake s t := ⟨hcontacts, hstore, by rw [hscreens], by rw [hscreens], by rw [hscreens]⟩
  have hblind : someBlinded t = someBlinded s := someBlinded_congr fun x => by rw [hrec]; exact ⟨rfl, rfl⟩
  simpa only [ScreensHear, hrec, hrake.measured (hrec _), hscreens, hcond, hblind] using h

/-! ## The record of a sample in band, and its alarms -/

/-- The fields of the record that an accepted sample leaves, its alarms judged too. -/
theorem sampled_accepted (s : State) (c : Channel) {i : Nat} (hl : 3600 ≤ i) (hh : i ≤ 20800)
    (hf : ¬ StepFails s c (candidate s c (clamped i))) : ∃ high low,
    s.sampled c i = ({ judged s c i with high := high, low := low }, true) := by
  rw [sampled_stepPasses s c hl hh hf, alarmed_eq]
  exact ⟨_, _, rfl⟩

/-- What a sample in band writes whatever STEP and CROSS say of it (R3, R6, R12). -/
theorem sampled_inBand (s : State) (c : Channel) {i : Nat} (hl : 3600 ≤ i) (hh : i ≤ 20800) :
    let r := (s.sampled c i).1
    r.band = (if i < 4000 then .lowClamp else if i ≤ 20000 then .normal else .highClamp) ∧ r.current = i ∧
    r.stepRef = some (clamped i) ∧ r.limit = (reconciled s c).limit ∧ r.hold = (reconciled s c).hold ∧
    r.pinned = (reconciled s c).pinned := by
  rw [← bandOf_inBand hl hh]
  by_cases hf : StepFails s c (candidate s c (clamped i))
  · rw [sampled_stepFails s c hl hh hf, ChannelRec.countFault_eq]
    exact ⟨rfl, rfl, rfl, rfl, rfl, rfl⟩
  · obtain ⟨high, low, hs⟩ := sampled_accepted s c hl hh hf
    obtain ⟨hband, hcurrent, href, hlimit, hhold, hpinned, -, -, -⟩ := judged_fields s c i
    rw [hs]
    exact ⟨hband, hcurrent, href, hlimit, hhold, hpinned⟩

/-- A sample that fails STEP: a fault of kind STEP, with the level and the alarms kept (R6, R10). -/
theorem sampled_step (s : State) (c : Channel) {i : Nat} (hl : 3600 ≤ i) (hh : i ≤ 20800)
    (hf : StepFails s c (candidate s c (clamped i))) :
    let r := (s.sampled c i).1
    (s.sampled c i).2 = false ∧ r.level = (reconciled s c).level ∧ r.lastFault = .step ∧
    r.counter = faultCounter (reconciled s c) ∧ r.valid = faultValid (reconciled s c) ∧
    r.high = (reconciled s c).high ∧ r.low = (reconciled s c).low := by
  rw [sampled_stepFails s c hl hh hf, ChannelRec.countFault_eq]
  exact ⟨rfl, rfl, rfl, rfl, rfl, rfl, rfl⟩

/-- A sample that passes STEP: accepted at its level, a fault of kind CROSS or clean (R6 to R8, R10, R11). -/
theorem sampled_passed (s : State) (c : Channel) {i : Nat} (hl : 3600 ≤ i) (hh : i ≤ 20800)
    (hf : ¬ StepFails s c (candidate s c (clamped i))) :
    let r := (s.sampled c i).1
    (s.sampled c i).2 = true ∧ r.level = some (candidate s c (clamped i)) ∧
    (CrossFails s c (candidate s c (clamped i)) → r.lastFault = .cross ∧
      r.counter = faultCounter (reconciled s c) ∧ r.valid = faultValid (reconciled s c)) ∧
    (¬ CrossFails s c (candidate s c (clamped i)) → r.lastFault = (reconciled s c).lastFault ∧
      r.counter = cleanCounter (reconciled s c) ∧ r.valid = cleanValid (reconciled s c)) := by
  obtain ⟨high, low, hs⟩ := sampled_accepted s c hl hh hf
  obtain ⟨-, -, -, -, -, -, hlevel, -, -⟩ := judged_fields s c i
  rw [hs]
  refine ⟨rfl, hlevel, fun hx => ?_, fun hx => ?_⟩
  · rw [judged_of_crossFails hx, ChannelRec.countFault_eq]
    exact ⟨rfl, rfl, rfl⟩
  · rw [judged_of_crossPasses hx]
    exact ⟨rfl, rfl, rfl⟩

/-- The alarm status follows an accepted sample while the channel is VALID, and is kept while it is INVALID (R14 to R16). -/
theorem sampled_alarms (s : State) (c : Channel) {i : Nat} (hl : 3600 ≤ i) (hh : i ≤ 20800)
    (hf : ¬ StepFails s c (candidate s c (clamped i))) :
    let level := candidate s c (clamped i)
    let r := (s.sampled c i).1
    (r.valid = false → r.high = (s.channel c).high ∧ r.low = (s.channel c).low) ∧
    (r.valid = true →
      (c = .ww → r.high = highStatus (bandOf i) level (s.item 1 20) (s.item 1 23) (s.channel c).high) ∧
      (c = .ww → r.low = lowStatus (bandOf i) level (s.item 1 21) (s.item 1 23) (s.channel c).low) ∧
      (c = .inlet → r.high = highStatus (bandOf i) level (s.item 1 22) (s.item 1 23) (s.channel c).high)) := by
  obtain ⟨hband, -, -, -, -, -, -, hhigh, hlow⟩ := judged_fields s c i
  rw [sampled_stepPasses s c hl hh hf]
  dsimp only
  rw [alarmed_valid, ← hhigh, ← hlow, ← hband]
  refine ⟨fun hv => by rw [alarmed_invalid hv]; exact ⟨rfl, rfl⟩, fun hv => ?_⟩
  unfold State.alarmed
  rw [if_pos hv]
  refine ⟨fun h => ?_, fun h => ?_, fun h => ?_⟩ <;> subst h <;> rfl

/-- A sample is accepted in band alone, when it passes STEP (R5, R6). -/
theorem sampled_accepted_iff (s : State) (c : Channel) (i : Nat) : (s.sampled c i).2 = true ↔
    3600 ≤ i ∧ i ≤ 20800 ∧ ¬ StepFails s c (candidate s c (clamped i)) := by
  by_cases hin : 3600 ≤ i ∧ i ≤ 20800
  · obtain ⟨hl, hh⟩ := hin
    by_cases hf : StepFails s c (candidate s c (clamped i))
    · simp [sampled_stepFails s c hl hh hf, hf]
    · simp [sampled_stepPasses s c hl hh hf, hf, hl, hh]
  · rw [sampled_outOfBand s c (by omega)]
    exact ⟨(nomatch ·), fun ⟨hl, hh, _⟩ => absurd ⟨hl, hh⟩ hin⟩

/-! ## What an arrival hands on (R13, R17, R18, R110, R111) -/

theorem reportChannel_frame (c : Channel) (s : State) :
    reportChannel c s = { s with conditions := (reportChannel c s).conditions } := by
  cases c <;> rfl

/-- A report handed on is heard by the Screen Controller as R110 and R111 say. -/
theorem handReport_hears (c : Channel) (r : ChannelReport) (s : State) : ScreensHear c r s (handReport c r s) := by
  cases c with
  | ww => exact ⟨rfl, rfl, rfl, fun _ _ => rfl, id⟩
  | inlet => 
    exact ScreensHear.congr (screensReport_hears .inlet r { s with spill := { s.spill with report := r } }).1 rfl rfl rfl rfl
  | sa => exact (screensReport_hears .sa r s).1
  | sb => exact (screensReport_hears .sb r s).1

/-- A report handed on reaches the Spill Meter, the Screen Controller, or the Duty Controller's notice (R13). -/
theorem handReport_frame (c : Channel) (r : ChannelReport) {s : State} (hi : s.inbox = []) :
    handReport c r s = { s with
      spill := (handReport c r s).spill, screens := (handReport c r s).screens
      conditions := (handReport c r s).conditions
      inbox := if c = .ww then [.wwReport r] else [] } := by
  cases c with
  | ww => simp [handReport, State.post, hi]
  | inlet =>
    obtain ⟨-, -, hframe⟩ := screensReport_hears .inlet r { s with spill := { s.spill with report := r } }
    simp only [handReport]
    rw [hframe, ← hi]
    rfl
  | sa =>
    obtain ⟨-, -, hframe⟩ := screensReport_hears .sa r s
    simp only [handReport]
    rw [hframe, ← hi]
    rfl
  | sb =>
    obtain ⟨-, -, hframe⟩ := screensReport_hears .sb r s
    simp only [handReport]
    rw [hframe, ← hi]
    rfl

/-- The state with the sample taken, before its reports (R2). -/
def recorded (s : State) (c : Channel) (i : Nat) : State := (s.restartSample c).setChannel c (s.sampled c i).1

theorem arrived_eq (s : State) (c : Channel) (i : Nat) : arrived s c i =
    handReport c (reported (s.sampled c i).2 (s.sampled c i).1) (reportChannel c (recorded s c i)) := rfl

theorem recorded_channel (s : State) (c : Channel) (i : Nat) : (recorded s c i).channel c = (s.sampled c i).1 :=
  PerChannel.get_put_self _ _ _

/-- The channel's record as its sample leaves it. -/
theorem arrived_channel (s : State) (c : Channel) (i : Nat) :
    (arrived s c i).channel c = (reportChannel c (recorded s c i)).channel c := by
  rw [arrived_eq, State.channel, (handReport_sources c _ _).1]
  rfl

/-- The frame of everything that the reports do not reach. -/
theorem arrived_frame (s : State) (c : Channel) (i : Nat) (hi : s.inbox = []) :
    (arrived s c i).channel c = (s.sampled c i).1 ∧
    arrived s c i = { s with
      channels := (arrived s c i).channels, spill := (arrived s c i).spill, screens := (arrived s c i).screens
      conditions := (arrived s c i).conditions
      inbox := if c = .ww then [.wwReport (reported (s.sampled c i).2 (s.sampled c i).1)] else [] } := by
  have hreport := reportChannel_frame c (recorded s c i)
  have hinbox : (reportChannel c (recorded s c i)).inbox = [] := by rw [hreport]; exact hi
  constructor
  · rw [arrived_channel, hreport]; exact recorded_channel s c i
  · rw [arrived_eq, handReport_frame c _ hinbox, hreport]
    rfl

theorem arrived_sources (s : State) (c : Channel) (i : Nat) : SourcesFollow c s (arrived s c i) :=
  SourcesFollow.congr (reportChannel_sources c (recorded s c i)) (fun _ => rfl) rfl rfl (arrived_channel s c i)
    (handReport_sources c _ _).2

theorem arrived_hears (s : State) (c : Channel) (i : Nat) :
    ScreensHear c (reported (s.sampled c i).2 (s.sampled c i).1) s (arrived s c i) := by
  have hframe := reportChannel_frame c (recorded s c i)
  rw [arrived_eq]
  exact ScreensHear.congr (handReport_hears c _ _) (by rw [hframe]; rfl) (by rw [hframe]; rfl) (by rw [hframe]; rfl)
    (reportChannel_blinded c _)

end Sys2Proof.Machine

open Sys2Proof Sys2Proof.Machine

/-- Settles O6: the record that a sample in band leaves, its alarm status, and what every sample reports and hands on. -/
theorem inBandSampleIsJudged : Obligations.InBandSampleIsJudged := by
  refine ⟨fun c i s hp ht hl hh => ?_, fun c i s hp ht hl hh hf => ?_, fun c i s hlive ht => ?_⟩
  · have hframe := sampleArrives_frame s c i
    have hchan := sampleArrives_channel s c i
    obtain ⟨hband, hcurrent, href, hlimit, hhold, hpinned⟩ := sampled_inBand s c hl hh
    refine ⟨_, exec_sampleArrival i hp ht, ?_⟩
    rw [hchan]
    refine ⟨hband, hcurrent, href, hlimit, hhold, hpinned, fun hf => ?_, fun hf => ?_⟩
    · obtain ⟨haccepted, hrecord⟩ := sampled_step s c hl hh hf
      exact ⟨haccepted ▸ hframe, hrecord⟩
    · obtain ⟨haccepted, hrecord⟩ := sampled_passed s c hl hh hf
      exact ⟨haccepted ▸ hframe, hrecord⟩
  · have halarms := sampled_alarms s c hl hh hf
    refine ⟨_, exec_sampleArrival i hp ht, ?_⟩
    rw [sampleArrives_channel]
    simpa only [highStatus_inBand hl hh, lowStatus_inBand hl hh] using halarms
  · obtain ⟨hchan, hframe⟩ := arrived_frame s c i hlive.2
    have hhears := arrived_hears s c i
    refine ⟨arrived s c i, (s.sampled c i).2, exec_sampleArrival i hlive.1 ht, sampled_accepted_iff s c i,
      arrived_sources s c i, ?_, ?_⟩
    · rw [hchan]; exact hhears
    · rw [hchan]; exact hframe
end

section
/-! PROOFS. The restart evaluation (R88): with every pump at a restart's state, the overrides act on stage 0, the wanted set is
empty, and no pump moves. -/

namespace Sys2Proof.Machine

open Sys2Proof.Spec

variable {s : State}

/-! ## Pumps at a restart's states -/

/-- A pump as a restart leaves it: at a state that nothing of an evaluation moves, in no forced mode, its changeover not due
(R68). -/
structure PumpRec.Restful (p : PumpRec) : Prop where
  state : p.state ∈ [PumpState.absent, .unavailable, .lockedOut, .stopping, .resting]
  forced : p.forced = .none
  due : p.changeoverDue = false

theorem PumpRec.Restful.cases {p : PumpRec} (h : p.Restful) : p.state = .absent ∨ p.state = .unavailable ∨
    p.state = .lockedOut ∨ p.state = .stopping ∨ p.state = .resting := by simpa using h.state

/-- Every pump as a restart leaves it. -/
def State.Restful (s : State) : Prop := ∀ b, (s.pump b).Restful

theorem cutoffPump_restful {b : Bay} (h : (s.pump b).Restful) : cutoffPump b s = s := by
  unfold cutoffPump
  rcases h.cases with h | h | h | h | h <;> rw [h]

theorem unwanted_restful {b : Bay} (h : (s.pump b).Restful) : unwanted b s = s := by
  unfold unwanted
  rcases h.cases with h | h | h | h | h <;> rw [h]

theorem not_idle_of_restful {b : Bay} (h : (s.pump b).Restful) : ((s.pump b).state == .idle) = false := by
  rcases h.cases with h | h | h | h | h <;> rw [h] <;> rfl

theorem not_committed_of_restful {b : Bay} (h : (s.pump b).Restful) : (s.pump b).state.committed = false := by
  rcases h.cases with h | h | h | h | h <;> rw [h] <;> rfl

theorem queueOne_restful {b : Bay} (h : (s.pump b).Restful) : queueOne b s = s := by
  unfold queueOne State.mayQueue
  rw [if_neg (by simp [not_idle_of_restful h])]

/-- A change for each bay that moves none of them. -/
theorem forBays_fixed {f : Bay → State → State} (h : ∀ b, f b s = s) : forBays f s = s := List.foldl_fixed' h _

theorem queueTest_restful (h : s.Restful) : queueTest s = s := List.foldl_fixed' (fun b => queueOne_restful (h b)) _

/-! ## The wanted set -/

/-- No pump joins when none passes the test. -/
theorem joinWhile_none {test : Bay → Bool} (h : ∀ b, test b = false) (bound : Nat) (order members : List Bay) :
    joinWhile bound test order members = members :=
  List.foldl_fixed' (fun b => by simp [h b]) _

/-- The wanted set of a restart is empty (R81, R88). -/
theorem wantedSet_restful (h : s.Restful) : s.wantedSet = ⟨[], [], [], []⟩ := by
  have hforced : s.forcedMembers = [] := joinWhile_none (fun b => by rw [(h b).forced]; rfl) _ _ _
  have hfirst : s.firstWalk [] = [] := joinWhile_none (fun b => by rw [not_committed_of_restful (h b)]; rfl) _ _ _
  have hsecond : s.secondWalk [] = [] := joinWhile_none (fun b => by rw [not_idle_of_restful (h b)]; rfl) _ _ _
  have hdue (b : Bay) (w : Wanted) : s.settleDue w b = w := by
    unfold State.settleDue; rw [if_neg (by simp [(h b).due])]
  unfold State.wantedSet
  split
  · rfl
  · rw [hforced, hfirst, hsecond]
    exact List.foldl_fixed' (fun b => hdue b _) _

/-- An empty wanted set taken at a restart moves no pump (R83, R88). -/
theorem takeWanted_restful (h : s.Restful) :
    takeWanted [] [] [] s = { s with duty := { s.duty with counted := [], uncounted := [] } } := by
  have hstill (d : Duty) : State.Restful { s with duty := d } := h
  unfold takeWanted
  dsimp only
  rw [forBays_fixed (f := fun b s => if List.contains [] b then changeoverStop b s else s) (fun _ => rfl), forBays_fixed fun b => ?_,
    queueTest_restful (hstill _)]
  split
  · rfl
  · exact unwanted_restful (hstill _ b)

/-! ## The restart evaluation -/

/-- The Duty Controller after the restart evaluation (R73, R79, R88). -/
def Duty.evaluated (d : Duty) : Duty :=
  { d with stage := overrideStage d, rotationPending := false, counted := [], uncounted := [] }

theorem settleStage_restart (hpending : s.duty.rotationPending = false) :
    settleStage .restart 0 s =
      { s with duty := { s.duty with stage := overrideStage s.duty, rotationPending := false } } := by
  unfold settleStage rotationDue
  simp [hpending]

theorem evaluate_restart (h : s.Restful) (hstage : s.duty.stage = 0) (hpending : s.duty.rotationPending = false) :
    evaluate .restart s = { s with duty := s.duty.evaluated } := by
  let d : Duty := { s.duty with stage := overrideStage s.duty, rotationPending := false }
  have hstill : State.Restful { s with duty := d } := h
  have hcutoff : cutoffNotice .restart { s with duty := d } = { s with duty := d } := by
    unfold cutoffNotice
    dsimp only
    split
    · exact forBays_fixed fun b => cutoffPump_restful (hstill b)
    · rfl
  have hrotate : rotate { s with duty := d } = { s with duty := d } := by
    unfold rotate
    rw [if_neg (by simp [d])]
  have howned : ownEffect .restart s = s := rfl
  unfold evaluate
  rw [howned, hstage, settleStage_restart hpending, hrotate]
  unfold handOver
  rw [wantedSet_restful hstill]
  dsimp only [List.foldl]
  rw [hcutoff, takeWanted_restful hstill]
  rfl

/-- The first notice taken, and then the rest (R83). -/
theorem settleWithin_cons {n : Notice} {rest : List Notice} (k : Nat) (h : s.inbox = n :: rest) :
    settleWithin (k + 1) s = settleWithin k (deliver n { s with inbox := rest }) := by
  rw [settleWithin, h]

theorem settleWithin_quiet (k : Nat) (h : s.inbox = []) : settleWithin k s = s := by
  cases k with
  | zero => rfl
  | succ k => rw [settleWithin, h]

/-- The end of a restart: its one notice taken (R83, R88). -/
theorem settle_restart (h : s.Restful) (hinbox : s.inbox = []) (hstage : s.duty.stage = 0)
    (hpending : s.duty.rotationPending = false) : settle (s.post .restart) = { s with duty := s.duty.evaluated } := by
  have hpost : (s.post .restart).inbox = [Notice.restart] := by rw [State.post, hinbox]; rfl
  have hstate : ({ s.post .restart with inbox := [] } : State) = s := by rw [← hinbox]; rfl
  show settleWithin (1023 + 1) _ = _
  rw [settleWithin_cons 1023 hpost, hstate, deliver, if_neg (by decide), evaluate_restart h hstage hpending]
  exact settleWithin_quiet _ hinbox

end Sys2Proof.Machine
end

section
/-! PROOFS. The restart, block by block (R22 to R200): the values that each block takes, and the state with every block at its
values. -/

namespace Sys2Proof.Machine

open Sys2Proof.Spec

/-! ## The stages of a restart -/

section
variable (cause : RestartCause) (s : State)

/-- The settings loaded, the clock and the contacts taken (R28, R200, R201). -/
def loaded : State :=
  restartContacts (restartClock (cause == .cold) (loadSettings { s with power := .on, restartCause := cause, inbox := [] }))

/-- The Condition Table before its reports, the channels and the episodes at their restart values (R22, R158, R172). -/
def recalled : State :=
  restartEpisodes (cause == .cold) (restartChannels (restartConditions (cause == .cold) (loaded cause s)))

/-- The rain and the supply too (R42, R107). -/
def supplied : State := restartSupply (restartRain (cause == .cold) (recalled cause s))

/-- The bays too (R68). -/
def installed : State := restartRoster (cause == .cold) (supplied cause s)

/-- The Arbiter and the screens too (R107, R124). -/
def screened : State := restartScreens (cause == .cold) (restartArbiter (installed cause s))

/-- Every block at its restart values, before the owners' reports. -/
def joined : State :=
  restartAuthority (cause == .cold)
    (restartLine (restartSpill (restartDuty (cause == .cold) (screened cause s))))

end

/-- A restart: every block at its values, the owners' reports, the restart evaluation, and the pulses (R88, R172). -/
theorem restart_eq (cause : RestartCause) (s : State) : restart cause s =
    (let t := (settle ((restartReports (joined cause s)).post .restart)).pulse .restart (some (.cause cause))
     if !s.store.marker then t.pulse .settingsDefaulted else t) := rfl

/-! ## The Arbiter (R107) -/

/-- The starter's health as a restart judges it (R95, R107). -/
def starterAtRestart (s : State) : StarterHealth :=
  if s.closed .starterFault then .faultInput
  else if !s.closed .starterReady && s.supply.state != .none && !s.supply.restoreTimer.isSome then .notReady
  else .healthy

/-- The Arbiter as a restart leaves it, its health judged. -/
def arbiterAtRestart (s : State) : Arbiter :=
  { state := if starterAtRestart s = .healthy then .idle else .faulted
    held := none, queue := [], rampTimer := none, gapTimer := none, runOutput := false, health := starterAtRestart s
    gateSupply := s.supply.state, gateRestore := s.supply.restoreTimer.isSome, holdExpired := s.roster.restartHold.isNone }

/-- The Arbiter's restart: STARTER_FAULT is reported only as it is entered (R95, R97). -/
theorem restartArbiter_eq (s : State) : restartArbiter s =
    (let t : State := { s with arbiter := arbiterAtRestart s }
     if starterAtRestart s = .healthy then t else t.report .starterFault true (some (.health (starterAtRestart s)))) := by
  unfold restartArbiter judgeStarter
  have hjudged (a : Arbiter) (h : a.gateSupply = s.supply.state) (h' : a.gateRestore = s.supply.restoreTimer.isSome) :
      State.judgedHealth { s with arbiter := a } = starterAtRestart s := by
    unfold State.judgedHealth starterAtRestart; rw [h, h']; rfl
  dsimp only
  rw [hjudged _ rfl rfl]
  unfold arbiterAtRestart
  by_cases h : starterAtRestart s = .healthy
  · simp only [h, if_true]
  · rw [if_neg (Ne.symm h), if_pos rfl, if_neg h]
    simp only [if_neg h]
    rfl

theorem restartArbiter_frame (s : State) : restartArbiter s =
    { s with arbiter := arbiterAtRestart s, conditions := (restartArbiter s).conditions } := by
  rw [restartArbiter_eq]
  dsimp only
  split <;> rfl

/-! ## The screens (R124) -/

/-- The Screen Controller with its records fresh, before the screens are brought home (R124). -/
def screensFresh (cold : Bool) (s : State) : Screens :=
  { recs := ⟨restartScreenRec cold s .a, restartScreenRec cold s .b⟩, inReport := .unknown, saReport := .unknown
    sbReport := .unknown, storm := s.rain.storm, supply := s.supply.state, ramping := false }

/-- A screen as a restart leaves it, brought home from OFF in AUTO (R117, R124). -/
def screenAtRestart (cold : Bool) (s : State) (x : Screen) : ScreenRec :=
  let r := restartScreenRec cold s x
  if r.inUse = true ∧ r.state = .off ∧ r.selectorAuto = true then homed { s with screens := screensFresh cold s } x r else r

theorem restartHoming_eq (x : Screen) (s : State) : restartHoming x s = s.setScreen x
    (if (s.screen x).inUse = true ∧ (s.screen x).state = .off ∧ (s.screen x).selectorAuto = true then homed s x (s.screen x)
      else s.screen x) := by
  unfold restartHoming
  split
  · exact enterHoming_eq s x
  · exact (setScreen_self s x).symm

/-- What a return to rest reads of a state beside the screen's own record. -/
theorem SameRake.homed {s t : State} (h : SameRake s t) (x : Screen) (r : ScreenRec) : homed t x r = homed s x r := by
  have hitem : t.itemNat 5 3 = s.itemNat 5 3 := by rw [State.itemNat, State.itemNat, h.item]
  unfold Spec.homed atRest
  simp only [h.supply, h.contacts, h.free, h.begun, hitem]

theorem restartScreens_eq (cold : Bool) (s : State) : restartScreens cold s =
    { s with screens := { screensFresh cold s with recs := ⟨screenAtRestart cold s .a, screenAtRestart cold s .b⟩ } } := by
  let u : State := { s with screens := screensFresh cold s }
  have hb (r : ScreenRec) : homed (u.setScreen .a r) .b (restartScreenRec cold s .b) = homed u .b (restartScreenRec cold s .b) :=
    SameRake.homed ⟨rfl, rfl, rfl, rfl, rfl⟩ _ _
  show restartHoming .b (restartHoming .a u) = _
  rw [restartHoming_eq, restartHoming_eq]
  have hbrec (r : ScreenRec) : (u.setScreen .a r).screen .b = restartScreenRec cold s .b := rfl
  rw [hbrec, hb]
  rfl

/-! ## Every block joined -/

/-- What the Arbiter's and the screens' restart leave: everything else as the bays' restart left it. -/
theorem screened_frame (cause : RestartCause) (s : State) : screened cause s =
    { installed cause s with
      arbiter := arbiterAtRestart (installed cause s)
      screens := (screened cause s).screens
      conditions := (restartArbiter (installed cause s)).conditions } := by
  unfold screened
  rw [restartScreens_eq, restartArbiter_frame]

/-- What the duty order's, the Spill Meter's, the line's and the authority's restart leave. -/
theorem restartOthers_frame (cold : Bool) (u : State) :
    let v := restartAuthority cold (restartLine (restartSpill (restartDuty cold u)))
    v = { u with duty := v.duty, spill := v.spill, line := v.line, authority := v.authority } := rfl

theorem joined_frame (cause : RestartCause) (s : State) : joined cause s =
    { installed cause s with
      arbiter := arbiterAtRestart (installed cause s)
      screens := (screened cause s).screens
      duty := (joined cause s).duty
      spill := (joined cause s).spill
      line := (joined cause s).line
      authority := (joined cause s).authority
      conditions := (restartArbiter (installed cause s)).conditions } := by
  have h : joined cause s = { screened cause s with
      duty := (joined cause s).duty, spill := (joined cause s).spill, line := (joined cause s).line
      authority := (joined cause s).authority } := restartOthers_frame (cause == .cold) (screened cause s)
  rw [screened_frame] at h
  exact h

/-! ## The owners' reports (R172) -/

/-- A source reported by its owner as it stands at a restart. -/
def ownReport (i : Source) (s : State) : State := s.report i (reportAtRestart s i).1 (reportAtRestart s i).2

/-- Every level source, in the order of a restart's reports. -/
def levelSources : List Source :=
  [.wwHigh, .wwLow, .inHigh, .chWwInvalid, .chInInvalid, .chSaInvalid, .chSbInvalid, .wwFloatHigh, .pump1Lockout,
    .pump2Lockout, .pump3Lockout, .pump4Lockout, .pumpSeal, .screenAJam, .screenBJam, .screenBlinded, .starterFault,
    .mainsFail, .supplyNone, .ratingExceeded, .overflowActive, .episodeTableFull, .linkLost]

theorem reportLockout_eq (b : Bay) (s : State) : reportLockout b s = ownReport (lockoutSource b) s := by
  have hown : ownReport (lockoutSource b) s =
      s.report (lockoutSource b) ((s.pump b).state == .lockedOut) ((s.pump b).reason.map .lockout) := by cases b <;> rfl
  rw [hown]
  unfold reportLockout
  cases (s.pump b).state
  case lockedOut => cases (s.pump b).reason <;> rfl
  all_goals rfl

theorem reportJam_eq (x : Screen) (s : State) : reportJam x s = ownReport (jamSource x) s := by
  have hown : ownReport (jamSource x) s =
      s.report (jamSource x) ((s.screen x).state == .jammed) ((s.screen x).jam.map .jam) := by cases x <;> rfl
  rw [hown]
  unfold reportJam
  cases (s.screen x).state
  case jammed => cases (s.screen x).jam <;> rfl
  all_goals rfl

theorem reportStarter_eq (s : State) : reportStarter s = ownReport .starterFault s := by
  have hown : ownReport .starterFault s =
      s.report .starterFault (s.arbiter.state == .faulted) (some (.health s.arbiter.health)) := rfl
  rw [hown]
  unfold reportStarter
  cases s.arbiter.state <;> rfl

theorem reportOverflow_eq (s : State) : reportOverflow s = ownReport .overflowActive s := by
  have hown : ownReport .overflowActive s =
      s.report .overflowActive s.episodes.isOpen (some (.serial s.episodes.progressSerial)) := rfl
  rw [hown]
  unfold reportOverflow
  cases s.episodes.isOpen <;> rfl

/-- The table is full when no slot is FREE (R155). -/
theorem full_eq (t : EpisodeTable) : t.full = decide (∀ i : Fin 16, t.slots.get i ≠ none) := by
  have hall : ∀ i : Fin 16, i ∈ slotNumbers := by decide
  unfold EpisodeTable.full EpisodeTable.lowestFree
  rw [Bool.eq_iff_iff, Option.isNone_iff_eq_none, List.find?_eq_none]
  simp [hall]

theorem reportFull_eq (s : State) : reportFull s = ownReport .episodeTableFull s := by
  rw [reportFull, full_eq]; rfl

/-- Sources reported by their owners one after another. -/
def ownReports (l : List Source) (s : State) : State := l.foldl (fun t i => ownReport i t) s

/-- Reports move the Condition Table alone. -/
theorem ownReports_frame (l : List Source) (s : State) : ownReports l s = { s with conditions := (ownReports l s).conditions } := by
  induction l generalizing s with
  | nil => rfl
  | cons i l ih => exact ih (ownReport i s)

/-- The lockouts and PUMP_SEAL reported (R68), an ABSENT bay never DEGRADED (R44). -/
theorem ownReports_bays {s : State} (hseal : ∀ b, (s.pump b).state = .absent → (s.pump b).degraded = false) :
    (forBays reportLockout s).report .pumpSeal s.anyDegraded =
      ownReports [.pump1Lockout, .pump2Lockout, .pump3Lockout, .pump4Lockout, .pumpSeal] s := by
  have hlockouts : forBays reportLockout s =
      ownReports [.pump1Lockout, .pump2Lockout, .pump3Lockout, .pump4Lockout] s := by
    simp only [forBays, Bay.all, List.foldl, reportLockout_eq]; rfl
  have hbay (b : Bay) : ((s.pump b).state != .absent && (s.pump b).degraded) = (s.pump b).degraded := by
    by_cases h : (s.pump b).state = .absent
    · rw [hseal b h, Bool.and_false]
    · simp [h]
  have hdegraded : s.anyDegraded = [Bay.b1, .b2, .b3, .b4].any fun b => (s.pump b).degraded := by
    simp only [State.anyDegraded, hbay]; rfl
  rw [hlockouts, hdegraded]
  rfl

theorem ownReports_screens (s : State) : (forScreens reportJam s).report .screenBlinded false =
    ownReports [.screenAJam, .screenBJam, .screenBlinded] s := by
  rw [forScreens, reportJam_eq, reportJam_eq]; rfl

/-- MAINS_FAIL and SUPPLY_NONE reported (R104), the Supply Monitor having the mains input as it stands. -/
theorem ownReports_supply {s : State} (hmains : s.supply.mains = s.contacts.mainsPresent.filtered) :
    (s.report .mainsFail (!s.supply.mains)).report .supplyNone (s.supply.state == .none) =
      ownReports [.mainsFail, .supplyNone] s := by
  rw [hmains]; rfl

theorem ownReports_channels (s : State) :
    [Source.wwHigh, .wwLow, .inHigh, .chWwInvalid, .chInInvalid, .chSaInvalid, .chSbInvalid].foldl
      (fun t src => t.report src false) s =
      ownReports [.wwHigh, .wwLow, .inHigh, .chWwInvalid, .chInInvalid, .chSaInvalid, .chSbInvalid] s := rfl

theorem ownReport_float (s : State) : s.report .wwFloatHigh (s.closed .hf) = ownReport .wwFloatHigh s := rfl

theorem ownReport_rating (s : State) : s.report .ratingExceeded false = ownReport .ratingExceeded s := rfl

theorem ownReport_linkLost (s : State) : s.report .linkLost false = ownReport .linkLost s := rfl

@[simp] theorem ownReport_roster (i : Source) (s : State) : (ownReport i s).roster = s.roster := rfl
@[simp] theorem ownReport_supply (i : Source) (s : State) : (ownReport i s).supply = s.supply := rfl
@[simp] theorem ownReport_contacts (i : Source) (s : State) : (ownReport i s).contacts = s.contacts := rfl
@[simp] theorem ownReports_roster (l : List Source) (s : State) : (ownReports l s).roster = s.roster := by
  rw [ownReports_frame]
@[simp] theorem ownReports_duty (l : List Source) (s : State) : (ownReports l s).duty = s.duty := by
  rw [ownReports_frame]
@[simp] theorem ownReports_inbox (l : List Source) (s : State) : (ownReports l s).inbox = s.inbox := by
  rw [ownReports_frame]
@[simp] theorem ownReports_supply_kept (l : List Source) (s : State) : (ownReports l s).supply = s.supply := by
  rw [ownReports_frame]
@[simp] theorem ownReports_contacts (l : List Source) (s : State) : (ownReports l s).contacts = s.contacts := by
  rw [ownReports_frame]

/-- The owners' reports, each of its source as it stands. -/
theorem restartReports_eq {s : State} (hseal : ∀ b, (s.pump b).state = .absent → (s.pump b).degraded = false)
    (hmains : s.supply.mains = s.contacts.mainsPresent.filtered) : restartReports s = ownReports levelSources s := by
  unfold restartReports
  dsimp only
  rw [ownReports_channels, ownReport_float, ownReports_bays, ownReports_screens, reportStarter_eq, ownReports_supply,
    ownReport_rating, reportOverflow_eq, reportFull_eq, ownReport_linkLost]
  · simp only [ownReports, List.foldl, levelSources]
  · simpa using hmains
  · simpa [State.pump] using hseal

/-! ## The bays (R44, R68) -/

theorem restartPump_restful (cold : Bool) (s : State) (b : Bay) : (restartPump cold s b).Restful := by
  unfold restartPump
  dsimp only
  repeat' split
  all_goals exact ⟨by simp [PumpRec.cold], rfl, rfl⟩

/-- An ABSENT bay is not DEGRADED after a restart (R44). -/
theorem restartPump_degraded {cold : Bool} {s : State} {b : Bay} (h : (restartPump cold s b).state = .absent) :
    (restartPump cold s b).degraded = false := by
  unfold restartPump at h ⊢
  dsimp only at h ⊢
  split
  · rfl
  · rename_i hinstalled
    rw [if_neg hinstalled] at h
    revert h
    repeat' split
    all_goals exact (nomatch ·)

theorem installed_pump (cause : RestartCause) (s : State) (b : Bay) :
    (installed cause s).pump b = restartPump (cause == .cold) (supplied cause s) b := by
  cases b <;> rfl

theorem joined_pump (cause : RestartCause) (s : State) (b : Bay) :
    (joined cause s).pump b = restartPump (cause == .cold) (supplied cause s) b := by
  rw [joined_frame]; exact installed_pump cause s b

theorem joined_restful (cause : RestartCause) (s : State) : (joined cause s).Restful := fun b => by
  rw [joined_pump]; exact restartPump_restful _ _ b

theorem joined_mains (cause : RestartCause) (s : State) :
    (joined cause s).supply.mains = (joined cause s).contacts.mainsPresent.filtered := by
  rw [joined_frame]; rfl

theorem joined_inbox (cause : RestartCause) (s : State) : (joined cause s).inbox = [] := by
  rw [joined_frame]; rfl

theorem joined_duty (cause : RestartCause) (s : State) :
    (joined cause s).duty = (restartDuty (cause == .cold) (screened cause s)).duty := rfl

theorem restartDuty_stage (cold : Bool) (s : State) : (restartDuty cold s).duty.stage = 0 := rfl
theorem restartDuty_pending (cold : Bool) (s : State) : (restartDuty cold s).duty.rotationPending = false := rfl

/-! ## The restart, whole -/

theorem restartReports_joined (cause : RestartCause) (s : State) :
    restartReports (joined cause s) = ownReports levelSources (joined cause s) := by
  refine restartReports_eq (fun b h => ?_) (joined_mains cause s)
  rw [joined_pump] at h ⊢
  exact restartPump_degraded h

/-- A restart: every block joined, the level sources reported, the evaluation made, and the pulses. -/
theorem restart_joined (cause : RestartCause) (s : State) : restart cause s =
    (let u := ownReports levelSources (joined cause s)
     let t := ({ u with duty := u.duty.evaluated } : State).pulse .restart (some (.cause cause))
     if !s.store.marker then t.pulse .settingsDefaulted else t) := by
  have hrestful : State.Restful (ownReports levelSources (joined cause s)) := fun b => by
    rw [State.pump, ownReports_roster]; exact joined_restful cause s b
  have hduty := (ownReports_duty levelSources (joined cause s)).trans (joined_duty cause s)
  have hsettle := settle_restart hrestful (by rw [ownReports_inbox, joined_inbox])
    (by rw [hduty, restartDuty_stage]) (by rw [hduty, restartDuty_pending])
  rw [restart_eq, restartReports_joined, hsettle]

/-- The pulses of a restart move the Condition Table alone. -/
theorem pulses_frame (cause : RestartCause) (marked : Bool) (u : State) :
    let t := u.pulse .restart (some (.cause cause))
    let v := if !marked then t.pulse .settingsDefaulted else t
    v = { u with conditions := v.conditions } := by
  dsimp only
  split <;> rfl

/-- What a restart leaves: every block joined, but for the evaluation and the Condition Table. -/
theorem restart_frame (cause : RestartCause) (s : State) : restart cause s =
    { joined cause s with
      duty := (joined cause s).duty.evaluated
      conditions := (restart cause s).conditions } := by
  have hreports := ownReports_frame levelSources (joined cause s)
  have hpulses := pulses_frame cause s.store.marker
    { ownReports levelSources (joined cause s) with duty := (ownReports levelSources (joined cause s)).duty.evaluated }
  dsimp only at hpulses
  have hrestart := restart_joined cause s
  dsimp only at hrestart
  rw [← hrestart] at hpulses
  rw [hpulses, hreports]

end Sys2Proof.Machine
end

section
/-! PROOFS. The values that a restart gives each block (R22 to R200), read back from the state it leaves. -/

namespace Sys2Proof.Machine

open Sys2Proof.Spec

/-! ## What no later block's restart reads anew -/

theorem restartConditions_frame (cold : Bool) (u : State) :
    restartConditions cold u = { u with conditions := (restartConditions cold u).conditions } := rfl

/-- The Condition Table as a restart leaves it to the owners' reports (R172). -/
def conditioned (cause : RestartCause) (s : State) : State := restartConditions (cause == .cold) (loaded cause s)

section
variable (cold : Bool) (v : State)

/-- What the restarts from the channels to the bays leave. -/
theorem restartBlocks_frame :
    let w := restartRoster cold (restartSupply (restartRain cold (restartEpisodes cold (restartChannels v))))
    w = { v with
      channels := w.channels, episodes := w.episodes, rain := w.rain, supply := w.supply, roster := w.roster } := rfl

theorem restartBlocks_channels :
    (restartRoster cold (restartSupply (restartRain cold (restartEpisodes cold (restartChannels v))))).channels =
      (restartChannels v).channels := rfl

theorem restartBlocks_episodes :
    (restartRoster cold (restartSupply (restartRain cold (restartEpisodes cold (restartChannels v))))).episodes =
      (restartEpisodes cold (restartChannels v)).episodes := rfl

theorem restartBlocks_rain :
    (restartRoster cold (restartSupply (restartRain cold (restartEpisodes cold (restartChannels v))))).rain =
      (restartRain cold (restartEpisodes cold (restartChannels v))).rain := rfl

end

section
variable (cause : RestartCause) (s : State)

theorem restart_installed : restart cause s =
    { installed cause s with
      arbiter := arbiterAtRestart (installed cause s)
      screens := (screened cause s).screens
      duty := (joined cause s).duty.evaluated
      spill := (joined cause s).spill
      line := (joined cause s).line
      authority := (joined cause s).authority
      conditions := (restart cause s).conditions } := by
  have h := restart_frame cause s
  rw [joined_frame] at h
  exact h

theorem installed_frame : installed cause s =
    { loaded cause s with
      channels := (installed cause s).channels
      episodes := (installed cause s).episodes
      rain := (installed cause s).rain
      supply := (installed cause s).supply
      roster := (installed cause s).roster
      conditions := (conditioned cause s).conditions } := by
  have h := restartBlocks_frame (cause == .cold) (conditioned cause s)
  rw [conditioned, restartConditions_frame] at h
  exact h

/-- What a restart leaves of the state that it loads. -/
theorem restart_loaded : restart cause s =
    { loaded cause s with
      channels := (installed cause s).channels
      episodes := (installed cause s).episodes
      rain := (installed cause s).rain
      supply := (installed cause s).supply
      roster := (installed cause s).roster
      arbiter := arbiterAtRestart (installed cause s)
      screens := (screened cause s).screens
      duty := (joined cause s).duty.evaluated
      spill := (joined cause s).spill
      line := (joined cause s).line
      authority := (joined cause s).authority
      conditions := (restart cause s).conditions } := by
  have h := restart_installed cause s
  rw [installed_frame] at h
  exact h

/-- The settings that a restart loads (R200). -/
def settingsLoaded : Settings := if s.store.marker then s.store.stored else .defaults

theorem restart_power : (restart cause s).power = .on := by rw [restart_loaded]; rfl

theorem restart_cause : (restart cause s).restartCause = cause := by rw [restart_loaded]; rfl

theorem restart_pending : (restart cause s).pending = s.pending := by rw [restart_loaded]; rfl

theorem restart_store : (restart cause s).store = { s.store with working := settingsLoaded s, commit := none } := by
  rw [restart_loaded]; rfl

theorem restart_contacts : (restart cause s).contacts = s.contacts.retaken := by rw [restart_loaded]; rfl

theorem restart_clock : (restart cause s).clock =
    if cause = .cold then ⟨0, false, some 1000⟩ else { s.clock with secondTimer := some 1000 } := by
  rw [restart_loaded]
  cases cause <;> rfl

theorem restart_channels : (restart cause s).channels = (restartChannels (conditioned cause s)).channels := by
  rw [restart_loaded]; exact restartBlocks_channels (cause == .cold) _

theorem restart_episodes : (restart cause s).episodes = (recalled cause s).episodes := by
  rw [restart_loaded]; exact restartBlocks_episodes _ _

theorem restart_rain : (restart cause s).rain = (restartRain (cause == .cold) (recalled cause s)).rain := by
  rw [restart_loaded]; exact restartBlocks_rain _ _

theorem restart_supply : (restart cause s).supply = (supplied cause s).supply := by rw [restart_loaded]; rfl

theorem restart_roster : (restart cause s).roster = (installed cause s).roster := by rw [restart_loaded]

theorem restart_pump (b : Bay) : (restart cause s).pump b = restartPump (cause == .cold) (supplied cause s) b := by
  rw [State.pump, restart_roster]; exact installed_pump cause s b

theorem restart_arbiter : (restart cause s).arbiter = arbiterAtRestart (installed cause s) := by rw [restart_loaded]

theorem restart_screens : (restart cause s).screens = (screened cause s).screens := by rw [restart_loaded]

theorem restart_duty : (restart cause s).duty = (joined cause s).duty.evaluated := by rw [restart_loaded]

theorem restart_spill : (restart cause s).spill = (joined cause s).spill := by rw [restart_loaded]

theorem restart_line : (restart cause s).line = (joined cause s).line := by rw [restart_loaded]

theorem restart_authority : (restart cause s).authority = (joined cause s).authority := by rw [restart_loaded]

end

/-! ## Settings and contacts as the blocks read them -/

/-- Two states with the same working copy. -/
theorem item_congr {s t : State} (h : t.store.working = s.store.working) (table i : Nat) : t.item table i = s.item table i := by
  rw [State.item, State.item, h]

theorem itemNat_congr {s t : State} (h : t.store.working = s.store.working) (table i : Nat) :
    t.itemNat table i = s.itemNat table i := by
  rw [State.itemNat, State.itemNat, item_congr h]

/-- An input's filtered contact after a restart is its raw one (R28). -/
theorem retaken_get (k : Contacts) (w : Switch) : (k.retaken.get w).filtered = (k.get w).raw := by
  cases w with
  | runFeedback b | overload b | sealLeak b => cases b <;> rfl
  | screenSelector x | topLimit x | homeLimit x | rakeOverload x => cases x <;> rfl
  | _ => rfl

theorem retaken_selector (k : Contacts) (b : Bay) : (k.retaken.selector.get b).filtered = (k.selector.get b).raw := by
  cases b <;> rfl

theorem closed_retaken {s u : State} (h : u.contacts = s.contacts.retaken) (w : Switch) :
    u.closed w = (s.contacts.get w).raw := by
  rw [State.closed, h, retaken_get]

/-! ## The blocks' restart values as the statement writes them -/

section
variable {cold : Bool} {s t u : State}

/-- R42. -/
theorem restartRain_eq (hepisodes : u.episodes = t.episodes) (hrain : u.rain = s.rain) : (restartRain cold u).rain = {
    storm := if t.episodes.inProgress = .none then .dry else .storm, episodeFlag := t.episodes.inProgress != .none
    quiet := 0, openBin := 0, closedBins := List.replicate 60 0, intensity := 0
    total := if cold then 0 else s.rain.total, clearedAt := if cold then 0 else s.rain.clearedAt
    minuteTimer := some 60000, dryTimer := none, dryRestarted := false, bounceTimer := none } := by
  unfold restartRain
  rw [hepisodes, hrain]
  by_cases h : t.episodes.inProgress = .none <;> simp [h]

/-- R107. -/
theorem restartSupply_eq (hcontacts : u.contacts = s.contacts.retaken) (hstore : u.store.working = t.store.working) :
    (restartSupply u).supply =
      (let st : SupplyState := if s.contacts.mainsPresent.raw = true then .mains
         else if s.contacts.generatorRunning.raw = true then .generator else .none
       { state := st
         limit := match st with
           | .mains => t.itemNat 3 10
           | .generator => t.itemNat 3 11
           | .none => 0
         restoreTimer := if st = .none then none else startedAt (t.itemNat 3 9)
         mains := s.contacts.mainsPresent.raw, generator := s.contacts.generatorRunning.raw }) := by
  unfold restartSupply
  dsimp only
  rw [closed_retaken hcontacts, closed_retaken hcontacts, itemNat_congr hstore]
  have hlimit (st : SupplyState) : u.limitOf st = match st with
      | .mains => t.itemNat 3 10
      | .generator => t.itemNat 3 11
      | .none => 0 := by
    cases st with
    | none => rfl
    | mains => exact itemNat_congr hstore 3 10
    | generator => exact itemNat_congr hstore 3 11
  rw [hlimit]
  rfl

theorem restartPump_selector (b : Bay) : (restartPump cold u b).selector = (u.contacts.selector.get b).filtered := by
  unfold restartPump
  dsimp only
  repeat' split
  all_goals rfl

/-- R68. -/
theorem restartPump_eq (hcontacts : u.contacts = s.contacts.retaken) (hstore : u.store.working = t.store.working) (b : Bay)
    (hpump : u.pump b = s.pump b) : restartPump cold u b = bayRestarted cold s t b := by
  have hselector : (u.contacts.selector.get b).filtered = (s.contacts.selector.get b).raw := by
    rw [hcontacts, retaken_selector]
  have hoverload : u.overloadTripped b = !(s.contacts.overload.get b).raw := by
    rw [State.overloadTripped, closed_retaken hcontacts]; rfl
  have hfeedback : u.feedback b = (s.contacts.runFeedback.get b).raw := closed_retaken hcontacts _
  have hseal : u.closed (.sealLeak b) = (s.contacts.sealLeak.get b).raw := closed_retaken hcontacts _
  unfold restartPump bayRestarted
  dsimp only
  rw [hselector, hoverload, hfeedback, hseal, hpump, itemNat_congr hstore, itemNat_congr hstore, itemNat_congr hstore]
  by_cases habsent : t.itemNat 3 0 < b.number
  · rw [if_pos habsent, if_pos habsent]; rfl
  rw [if_neg habsent, if_neg habsent]
  by_cases hlocked : cold = false ∧ (s.pump b).state = .lockedOut
  · rw [if_pos hlocked, if_pos hlocked]; rfl
  rw [if_neg hlocked, if_neg hlocked]
  by_cases hout : (s.contacts.selector.get b).raw ≠ .auto ∨ (cold || (s.pump b).inService) = false
  · rw [if_pos hout, if_pos hout]; rfl
  rw [if_neg hout, if_neg hout]
  cases (s.contacts.overload.get b).raw
  · rfl
  · cases (s.contacts.runFeedback.get b).raw <;> rfl

/-- R107. -/
theorem arbiterAtRestart_eq (hcontacts : u.contacts = s.contacts.retaken) (hsupply : u.supply = t.supply)
    (hroster : u.roster = t.roster) : arbiterAtRestart u = arbiterRestarted s t := by
  have hhealth : starterAtRestart u = (arbiterRestarted s t).health := by
    unfold starterAtRestart arbiterRestarted
    rw [closed_retaken hcontacts, closed_retaken hcontacts, hsupply]
    have hnotReady : (!(s.contacts.get .starterReady).raw && t.supply.state != .none && !t.supply.restoreTimer.isSome) = true ↔
        s.contacts.starterReady.raw = false ∧ t.supply.state ≠ .none ∧ t.supply.restoreTimer = none := by
      simp [Contacts.get, and_assoc]
    simp only [hnotReady]
    rfl
  unfold arbiterAtRestart
  rw [hhealth, hsupply, hroster]
  rfl

theorem onDuty_eq (st : PumpState) : st.onDuty = decide (st ∉ [PumpState.absent, .unavailable, .lockedOut]) := by
  cases st <;> rfl

/-- R88: the duty order brought into line. -/
theorem lineUp_eq (hpump : ∀ b, u.pump b = t.pump b) (order : List Bay) : u.lineUp order = linedUp t order := by
  unfold State.lineUp State.inClasses State.isDegraded linedUp
  simp only [hpump, onDuty_eq]
  rfl

/-- R88. -/
theorem restartDuty_eq (hcontacts : u.contacts = s.contacts.retaken) (hrain : u.rain = t.rain)
    (hepisodes : u.episodes = t.episodes) (hsupply : u.supply = t.supply) (hroster : u.roster = t.roster)
    (hselector : ∀ b, (t.pump b).selector = (s.contacts.selector.get b).raw) (horder : u.duty.order = s.duty.order)
    (hcounted : t.duty.counted = []) (huncounted : t.duty.uncounted = []) :
    (restartDuty cold u).duty.evaluated = dutyRestarted cold s t := by
  have hpump (b : Bay) : u.pump b = t.pump b := by rw [State.pump, State.pump, hroster]
  have hhand : u.handRunning = ([Bay.b1, .b2, .b3, .b4].filter fun b => decide ((t.pump b).state ≠ .absent) &&
      decide ((s.contacts.selector.get b).raw = .hand) && (s.contacts.runFeedback.get b).raw).length := by
    unfold State.handRunning State.runsInHand State.feedback
    simp only [hselector, closed_retaken hcontacts, hpump, Bool.and_assoc, bne, beq_eq_decide, decide_not]
    rfl
  have hline (order : List Bay) : u.lineUp order = linedUp t order := lineUp_eq hpump order
  have hstage (lf out hf : Bool) : (if !lf then 0 else if out then 4 else if hf then 4 else 0) =
      if (!lf) = true then 0 else if out = true ∨ hf = true then 4 else 0 := by
    cases lf <;> cases out <;> cases hf <;> rfl
  have hprofile : profileOf t.rain.storm = if t.rain.storm = .storm then .storm else .normal := by
    cases t.rain.storm <;> rfl
  unfold restartDuty Duty.evaluated overrideStage dutyRestarted
  dsimp only
  rw [closed_retaken hcontacts, closed_retaken hcontacts, hepisodes, hrain, hsupply, hhand, hline, horder, hcounted,
    huncounted, hstage, hprofile, Bool.not_not]
  rfl

/-- R124: a screen's record before it is brought home. -/
theorem restartScreenRec_eq (hcontacts : u.contacts = s.contacts.retaken) (hstore : u.store.working = t.store.working)
    (hrain : u.rain = t.rain) (x : Screen) (hscreen : u.screen x = s.screen x) :
    restartScreenRec cold u x =
      (let inUse := decide (t.item 5 (if x = .a then 7 else 8) = 1)
       let r : ScreenRec :=
        { state := .off, inUse := inUse, selectorAuto := (s.contacts.screenSelector.get x).raw, jam := none
          resetMark := false, inhibit := false, pending := false, overloadSeen := false, differential := none
          blinded := false, cycles := if cold then 0 else (s.screen x).cycles
          lastCycle := if cold then 0 else (s.screen x).lastCycle, strokeTimer := none, clearTimer := none
          interval := ⟨if inUse then some 0 else none, if t.rain.storm = .storm then t.itemNat 5 6 else t.itemNat 5 5⟩
          forward := false, reverse := false }
       if cold = false ∧ inUse ∧ (s.screen x).state = .jammed then { r with state := .jammed, jam := (s.screen x).jam }
       else r) := by
  have huse : u.screenInUse x = decide (t.item 5 (if x = .a then 7 else 8) = 1) := by
    cases x <;> exact congrArg (fun v : Int => decide (v = 1)) (item_congr hstore 5 _)
  have hselector : u.closed (.screenSelector x) = (s.contacts.screenSelector.get x).raw := closed_retaken hcontacts _
  unfold restartScreenRec
  dsimp only
  rw [huse, hselector, hscreen, rakeInterval_eq, hrain, itemNat_congr hstore, itemNat_congr hstore]
  rfl

/-- R124. -/
theorem screenAtRestart_eq (hcontacts : u.contacts = s.contacts.retaken) (hstore : u.store.working = t.store.working)
    (hrain : u.rain = t.rain) (x : Screen) (hscreen : u.screen x = s.screen x)
    (hrake : SameRake { u with screens := screensFresh cold u } t) : screenAtRestart cold u x = screenRestarted cold s t x := by
  unfold screenAtRestart screenRestarted
  rw [restartScreenRec_eq hcontacts hstore hrain x hscreen]
  simp only [← hrake.homed]
  by_cases huse : t.item 5 (if x = .a then 7 else 8) = 1
  · by_cases hjam : cold = false ∧ (s.screen x).state = .jammed
    · simp [huse, hjam]
    · simp only [huse, decide_true, true_and, if_neg hjam, if_true]
      cases (s.contacts.screenSelector.get x).raw <;> rfl
  · simp [huse]

/-- R139. -/
theorem restartSpill_eq (hcontacts : u.contacts = s.contacts.retaken) (hepisodes : u.episodes = t.episodes) :
    (restartSpill u).spill = {
      report := ⟨false, none, false⟩, spWet := s.contacts.sp.raw, rating := u.store.working.rating, head := none, rated := none
      held := 0, spilling := false, fromSpilling := t.episodes.isOpen, basis := .head, flowUsed := 0, above := false
      accumulation := none, integrationTimer := some 1000 } := by
  unfold restartSpill
  rw [closed_retaken hcontacts, hepisodes]
  rfl

/-- R195. -/
theorem restartAuthority_eq (hcontacts : u.contacts = s.contacts.retaken) (hauthority : u.authority = s.authority) :
    (restartAuthority cold u).authority =
      (let barred : Bool := !cold && decide (s.authority.state = .barred)
       { state := if barred = true then .barred else .none, challenge := u.line.address * 257
         failures := if cold then 0 else if barred = true then 3 else s.authority.failures
         answerTimer := none, supervisionTimer := none, permit := s.contacts.remotePermit.raw }) := by
  unfold restartAuthority
  rw [closed_retaken hcontacts, hauthority]
  rfl

end

end Sys2Proof.Machine
end

section
/-! PROOFS. The Episode Table at a restart (R158, R159). -/

namespace Sys2Proof.Machine

open Sys2Proof.Spec

/-! ## Slots written and read back -/

theorem setSlot_get_self (t : EpisodeTable) (i : Fin 16) (e : Option Episode) : (t.setSlot i e).slots.get i = e :=
  Vector.getElem_set_self (xs := t.slots) i.isLt

theorem setSlot_get_ne (t : EpisodeTable) {i j : Fin 16} (e : Option Episode) (h : j ≠ i) :
    (t.setSlot i e).slots.get j = t.slots.get j :=
  Vector.getElem_set_ne (xs := t.slots) i.isLt j.isLt fun k => h (Fin.ext k).symm

theorem setSlot_setSlot (t : EpisodeTable) (i : Fin 16) (e f : Option Episode) : (t.setSlot i e).setSlot i f = t.setSlot i f := by
  unfold EpisodeTable.setSlot
  rw [Vector.set_set]

/-- A slot written, ATTN_EPISODE aside. -/
theorem slotBecomes_setSlot (t : EpisodeTable) (i : Fin 16) (e : Episode) (attn : Bool) :
    SlotBecomes t { t.setSlot i (some e) with attn := attn } i e :=
  ⟨setSlot_get_self t i _, fun _ h => setSlot_get_ne t _ h, rfl⟩

/-! ## The table at a warm restart (R158) -/

/-- The flag of R158 added to a record's totals. -/
theorem addFlags_interrupted (q : Tally) : q.addFlags { RecordFlags.empty with interrupted := true } = interrupted q := by
  unfold Tally.addFlags RecordFlags.union interrupted RecordFlags.empty
  simp

/-- The table with the timers stopped and nothing being qualified. -/
def EpisodeTable.kept (e : EpisodeTable) : EpisodeTable :=
  { e with qualifying := false, qualifyTimer := none, mergeTimer := none }

/-- The merge gap of a table whose episode is CLOSING started anew, or over at once. -/
def EpisodeTable.mergedAgain (gap : Nat) (t : EpisodeTable) : EpisodeTable :=
  if t.progressState = some .closing then
    if gap = 0 then t.settled else { t with mergeTimer := some (seconds gap) }
  else t

theorem rewarmed_eq (gap : Nat) (e : EpisodeTable) : e.rewarmed gap =
    (e.kept.modProgress (Tally.addFlags { RecordFlags.empty with interrupted := true })).mergedAgain gap := rfl

theorem rewarmed_none {e : EpisodeTable} (gap : Nat) (h : e.inProgress = .none) : e.rewarmed gap = e.kept := by
  have hi : e.kept.inProgress = .none := h
  have hmod : e.kept.modProgress (Tally.addFlags { RecordFlags.empty with interrupted := true }) = e.kept := by
    rw [EpisodeTable.modProgress, hi]
  rw [rewarmed_eq, hmod, EpisodeTable.mergedAgain, EpisodeTable.progressState, hi]
  rfl

/-- What a warm restart makes of an episode in progress in a slot. -/
theorem rewarmed_slot {e : EpisodeTable} (gap : Nat) {i : Fin 16} {r : Episode} (h : e.inProgress = .slot i)
    (hr : e.slots.get i = some r) : e.rewarmed gap =
      (let q := e.kept.setSlot i (some { r with tally := interrupted r.tally })
       if r.state = .closing then if gap = 0 then q.settled else { q with mergeTimer := some (seconds gap) } else q) := by
  have hi : e.kept.inProgress = .slot i := h
  have hs : e.kept.slots.get i = some r := hr
  have hmod : e.kept.modProgress (Tally.addFlags { RecordFlags.empty with interrupted := true }) =
      e.kept.setSlot i (some { r with tally := interrupted r.tally }) := by
    rw [EpisodeTable.modProgress, hi]
    dsimp only
    rw [hs, Option.map_some, addFlags_interrupted]
  have hstate : (e.kept.setSlot i (some { r with tally := interrupted r.tally })).progressState = some r.state := by
    have hq : (e.kept.setSlot i (some { r with tally := interrupted r.tally })).inProgress = .slot i := h
    rw [EpisodeTable.progressState, hq]
    dsimp only
    rw [setSlot_get_self]; rfl
  rw [rewarmed_eq, hmod, EpisodeTable.mergedAgain, hstate]
  simp only [Option.some.injEq]

/-- What a warm restart makes of an episode in progress in the accumulator. -/
theorem rewarmed_accumulator {e : EpisodeTable} (gap : Nat) {p : AccProgress} (h : e.inProgress = .accumulator)
    (hp : e.acc.current = some p) : e.rewarmed gap =
      (let q := { e.kept with acc := { e.acc with tally := interrupted e.acc.tally } }
       if p.closing = true then if gap = 0 then q.settled else { q with mergeTimer := some (seconds gap) } else q) := by
  have hi : e.kept.inProgress = .accumulator := h
  have hmod : e.kept.modProgress (Tally.addFlags { RecordFlags.empty with interrupted := true }) =
      { e.kept with acc := { e.acc with tally := interrupted e.acc.tally } } := by
    rw [EpisodeTable.modProgress, hi]
    dsimp only
    rw [addFlags_interrupted, hi]; rfl
  have hstate : ({ e.kept with acc := { e.acc with tally := interrupted e.acc.tally } } : EpisodeTable).progressState =
      some (if p.closing then .closing else .opened) := by
    unfold EpisodeTable.progressState
    dsimp only
    rw [hi]
    dsimp only
    rw [hp]; rfl
  rw [rewarmed_eq, hmod, EpisodeTable.mergedAgain, hstate]
  cases p.closing <;> rfl

/-- The settlement of a slot (R152). -/
theorem settled_slot {t : EpisodeTable} {i : Fin 16} {r : Episode} (h : t.inProgress = .slot i) (hr : t.slots.get i = some r) :
    t.settled = { t.setSlot i (some { r with state := .closed }) with mergeTimer := none, inProgress := .none } := by
  unfold EpisodeTable.settled
  dsimp only
  rw [h]
  dsimp only
  rw [hr]; rfl

/-- The settlement of the accumulator's episode (R152). -/
theorem settled_accumulator {t : EpisodeTable} {p : AccProgress} {last : Nat} (h : t.inProgress = .accumulator)
    (hp : t.acc.current = some p) (hlast : p.finish = some last) :
    t.settled = { t with acc := { t.acc with latest := last, current := none }, mergeTimer := none, inProgress := .none } := by
  unfold EpisodeTable.settled
  dsimp only
  rw [h]
  dsimp only
  rw [hp]
  dsimp only
  rw [hlast]; rfl

/-- The Episode Table of a warm restart, ATTN_EPISODE judged of it (R155, R158). -/
theorem rewarmed_tableRewarmed (gap : Nat) (e : EpisodeTable) (attn : Bool) :
    TableRewarmed gap e { e.rewarmed gap with attn := attn } := by
  refine ⟨fun h => ?_, fun i r h hr => ⟨fun hstate => ?_, fun hstate hgap => ?_, fun hstate hgap => ?_⟩,
    fun p h hp => ⟨fun hclosing => ?_, fun hclosing hgap => ?_, fun last hclosing hgap hlast => ?_⟩⟩
  · rw [rewarmed_none gap h]; rfl
  · rw [rewarmed_slot gap h hr]
    simp only [if_neg hstate]
    exact slotBecomes_setSlot e.kept i _ attn
  · rw [rewarmed_slot gap h hr]
    simp only [if_pos hstate, if_neg hgap.ne']
    exact slotBecomes_setSlot { e.kept with mergeTimer := some (gap * 1000) } i _ attn
  · rw [rewarmed_slot gap h hr]
    simp only [if_pos hstate, if_pos hgap]
    rw [settled_slot (t := e.kept.setSlot i _) h (setSlot_get_self _ _ _), setSlot_setSlot]
    exact slotBecomes_setSlot { e.kept with inProgress := .none } i _ attn
  · rw [rewarmed_accumulator gap h hp]
    simp only [hclosing, Bool.false_eq_true, if_false]
    rfl
  · rw [rewarmed_accumulator gap h hp]
    simp only [if_pos hclosing, if_neg hgap.ne']
    rfl
  · rw [rewarmed_accumulator gap h hp]
    simp only [if_pos hclosing, if_pos hgap]
    rw [settled_accumulator (t := { e.kept with acc := { e.acc with tally := interrupted e.acc.tally } }) h hp hlast]
    rfl

/-! ## The table of a restart -/

theorem recalled_episodes (cause : RestartCause) (s : State) :
    (recalled cause s).episodes = (restartEpisodes (cause == .cold) (restartChannels (conditioned cause s))).episodes := rfl

/-- The table of a cold restart is empty, with nothing to attend to (R155, R159). -/
theorem restartEpisodes_cold (u : State) : (restartEpisodes true u).episodes = .blank := by
  show ({ EpisodeTable.blank with attn := episodeAttn .blank } : EpisodeTable) = _
  rw [show episodeAttn .blank = false by decide]
  rfl

theorem restartEpisodes_warm (u : State) :
    TableRewarmed (u.itemNat 6 37) u.episodes (restartEpisodes false u).episodes :=
  rewarmed_tableRewarmed _ _ _

end Sys2Proof.Machine
end

section
/-! PROOFS. The Condition Table at a restart (R171 to R173). -/

namespace Sys2Proof.Machine

open Sys2Proof.Spec

/-! ## The records before the owners' reports -/

theorem unshelve_eq (now : Nat) (r : CondRec) : r.unshelve now =
    if r.state = .shelved then
      { r with
        state := if r.active = true then .activeUnack else .normal
        change := (r.change + 1) % 256, changedAt := now, shelf := none }
    else r := by
  unfold CondRec.unshelve
  by_cases h : r.state = .shelved
  · rw [if_pos h, if_pos h, CondRec.moveTo, if_neg (by rw [h]; split <;> decide)]
  · rw [if_neg h, if_neg h]

theorem restartConditions_cond (cold : Bool) (u : State) (i : Source) : (restartConditions cold u).cond i =
    ((if cold then CondRec.cold false else u.cond i).configure u.store.working i.index.val).unshelve u.clock.time :=
  Vector.getElem_ofFn i.index.isLt

/-- A record as a restart leaves it to its owner's report, from the settings and the clock of the restart (R171, R172). -/
theorem restartConditions_eq {cold : Bool} {s t u : State} (hstore : u.store.working = t.store.working)
    (hclock : u.clock.time = t.clock.time) (i : Source) (hcond : u.cond i = s.cond i) :
    (restartConditions cold u).cond i = condRestarted cold s t i := by
  have hitem (k : Nat) : u.store.working.get 8 k = t.item 8 k := item_congr hstore 8 k
  rw [restartConditions_cond, unshelve_eq, hclock, hcond]
  unfold condRestarted CondRec.configure
  rw [hitem, hitem]
  cases cold <;> rfl

/-! ## A report made again, and a pulse -/

/-- An owner that reports a source again as it last reported it changes nothing (R162, R163). -/
theorem CondRec.takeReport_again (now : Nat) (a : Bool) (d : Option Detail) (r : CondRec) :
    (r.takeReport now a d).takeReport now a d = r.takeReport now a d := by
  have hactive := r.takeReport_active now a d
  have hsame : (r.takeReport now a d).takeActivity now a = r.takeReport now a d := by
    rw [CondRec.takeActivity, if_pos hactive.symm]
  rw [CondRec.takeReport, hsame]
  unfold CondRec.takeReport
  split <;> rfl

theorem cond_pulse_self (s : State) (i : Source) (d : Option Detail) : (s.pulse i d).cond i =
    ((s.cond i).takeReport s.clock.time true d).takeReport s.clock.time false none := by
  rw [State.pulse, cond_report_self, told, cond_report_self]; rfl

theorem cond_pulse_ne (s : State) {i j : Source} (d : Option Detail) (h : j ≠ i) : (s.pulse i d).cond j = s.cond j := by
  rw [State.pulse, cond_report_ne _ _ _ h, cond_report_ne _ _ _ h]

/-! ## The owners' reports read back -/

/-- What the owners report does not depend on the Condition Table, nor on the Duty Controller. -/
theorem reportAtRestart_with (u : State) (d : Duty) (k : Conditions) :
    reportAtRestart { u with duty := d, conditions := k } = reportAtRestart u := by
  funext i
  cases i <;> rfl

theorem reportAtRestart_ownReport (s : State) (j : Source) : reportAtRestart (ownReport j s) = reportAtRestart s :=
  reportAtRestart_with s s.duty _

theorem told_ownReport_ne (s : State) {i j : Source} (h : i ≠ j) (a : Bool) (d : Option Detail) :
    told (ownReport j s) i a d = told s i a d := told_report_ne s _ _ _ _ h

theorem cond_ownReports_notMem {l : List Source} {i : Source} (h : i ∉ l) (s : State) :
    (ownReports l s).cond i = s.cond i := by
  induction l generalizing s with
  | nil => rfl
  | cons j l ih =>
    obtain ⟨hj, hl⟩ : i ≠ j ∧ i ∉ l := by simpa using h
    exact (ih hl (ownReport j s)).trans (cond_report_ne _ _ _ hj)

/-- Each owner's report is taken at its own source (R172). -/
theorem cond_ownReports_mem {l : List Source} (hl : l.Nodup) {i : Source} (h : i ∈ l) (s : State) :
    (ownReports l s).cond i = told s i (reportAtRestart s i).1 (reportAtRestart s i).2 := by
  induction l generalizing s with
  | nil => exact absurd h List.not_mem_nil
  | cons j l ih =>
    obtain ⟨hj, hl⟩ := List.nodup_cons.1 hl
    by_cases hij : i = j
    · subst hij
      exact (cond_ownReports_notMem hj _).trans (cond_report_self _ _ _ _)
    · have hmem : i ∈ l := (List.mem_cons.1 h).resolve_left hij
      refine (ih hl hmem (ownReport j s)).trans ?_
      rw [reportAtRestart_ownReport, told_ownReport_ne _ hij]

theorem levelSources_nodup : levelSources.Nodup := by decide

theorem mem_levelSources {i : Source} (h : i ≠ .restart) (h' : i ≠ .settingsDefaulted) : i ∈ levelSources := by
  revert h h'
  cases i <;> decide

theorem cond_withDuty (u : State) (d : Duty) (i : Source) : ({ u with duty := d } : State).cond i = u.cond i := rfl

/-! ## The records of a restart -/

section
variable (cause : RestartCause) (s : State)

theorem conditioned_cond (i : Source) :
    (conditioned cause s).cond i = condRestarted (cause == .cold) s (restart cause s) i := by
  refine restartConditions_eq ?_ ?_ i rfl
  · rw [restart_store]; rfl
  · rw [restart_loaded]

theorem joined_cond (i : Source) : (joined cause s).cond i = (restartArbiter (installed cause s)).cond i := by
  rw [joined_frame]; rfl

theorem installed_cond (i : Source) : (installed cause s).cond i = (conditioned cause s).cond i := by
  rw [installed_frame]; rfl

theorem joined_cond_ne {i : Source} (h : i ≠ .starterFault) : (joined cause s).cond i = (conditioned cause s).cond i := by
  rw [joined_cond, restartArbiter_eq, ← installed_cond]
  dsimp only
  split
  · rfl
  · exact cond_report_ne _ _ _ h

/-- A level source's record after a restart: its owner's report taken once, whatever the entry to FAULTED reported. -/
theorem told_joined (i : Source) :
    told (joined cause s) i (reportAtRestart (joined cause s) i).1 (reportAtRestart (joined cause s) i).2 =
      ((conditioned cause s).cond i).takeReport (joined cause s).clock.time (reportAtRestart (joined cause s) i).1
        (reportAtRestart (joined cause s) i).2 := by
  by_cases h : i = .starterFault
  · subst h
    have harbiter : (joined cause s).arbiter = arbiterAtRestart (installed cause s) := by rw [joined_frame]
    have hreport : reportAtRestart (joined cause s) .starterFault =
        ((joined cause s).arbiter.state == .faulted, some (.health (joined cause s).arbiter.health)) := rfl
    have hclock : (installed cause s).clock = (joined cause s).clock := by rw [joined_frame]
    rw [hreport, harbiter, told, joined_cond, restartArbiter_eq]
    dsimp only
    by_cases hhealth : starterAtRestart (installed cause s) = .healthy
    · rw [if_pos hhealth]
      exact congrArg _ (installed_cond cause s _)
    · have hfaulted : (arbiterAtRestart (installed cause s)).state = .faulted := if_neg hhealth
      rw [if_neg hhealth, cond_report_self, hfaulted, ← installed_cond, ← hclock]
      exact CondRec.takeReport_again _ _ _ _
  · rw [told, joined_cond_ne cause s h]

/-- The state whose pulses end a restart: the level sources reported and the evaluation made. -/
def beforePulses : State :=
  { ownReports levelSources (joined cause s) with duty := (ownReports levelSources (joined cause s)).duty.evaluated }

theorem restart_pulses : restart cause s =
    (let t := (beforePulses cause s).pulse .restart (some (.cause cause))
     if !s.store.marker then t.pulse .settingsDefaulted else t) := restart_joined cause s

theorem beforePulses_cond (i : Source) :
    (beforePulses cause s).cond i = (ownReports levelSources (joined cause s)).cond i := cond_withDuty _ _ i

theorem beforePulses_level {i : Source} (h : i ≠ .restart) (h' : i ≠ .settingsDefaulted) :
    (beforePulses cause s).cond i = ((conditioned cause s).cond i).takeReport (joined cause s).clock.time
      (reportAtRestart (joined cause s) i).1 (reportAtRestart (joined cause s) i).2 := by
  rw [beforePulses_cond, cond_ownReports_mem levelSources_nodup (mem_levelSources h h'), told_joined]

theorem beforePulses_pulse {i : Source} (h : i ∉ levelSources) (hstarter : i ≠ .starterFault) :
    (beforePulses cause s).cond i = (conditioned cause s).cond i := by
  rw [beforePulses_cond, cond_ownReports_notMem h, joined_cond_ne cause s hstarter]

theorem beforePulses_clock : (beforePulses cause s).clock = (restart cause s).clock := by
  rw [beforePulses, ownReports_frame, restart_frame]

theorem restart_reportAtRestart : reportAtRestart (restart cause s) = reportAtRestart (joined cause s) := by
  rw [restart_frame, reportAtRestart_with]

theorem restart_conditions : ConditionsRestarted cause s (restart cause s) := by
  have hclock := beforePulses_clock cause s
  have hjoined : (joined cause s).clock = (restart cause s).clock := by rw [restart_frame]
  unfold ConditionsRestarted
  dsimp only
  simp only [← conditioned_cond, restart_reportAtRestart]
  refine ⟨fun i h h' => ?_, ?_, ?_⟩
  · have hlevel := beforePulses_level cause s h h'
    rw [hjoined] at hlevel
    rw [← hlevel]
    conv_lhs => rw [restart_pulses]
    dsimp only
    split
    · rw [cond_pulse_ne _ _ h', cond_pulse_ne _ _ h]
    · rw [cond_pulse_ne _ _ h]
  · have hpulse := beforePulses_pulse cause s (i := .restart) (by decide) (by decide)
    rw [← hpulse, ← hclock, ← cond_pulse_self, restart_pulses]
    dsimp only
    split
    · exact cond_pulse_ne _ _ (by decide)
    · rfl
  · have hpulse := beforePulses_pulse cause s (i := .settingsDefaulted) (by decide) (by decide)
    rw [← hpulse, ← hclock]
    rw [restart_pulses]
    dsimp only
    cases s.store.marker
    · rw [if_pos (by rfl), if_neg (by decide), cond_pulse_self, cond_pulse_ne _ _ (by decide)]
      rfl
    · rw [if_neg (by decide), if_pos rfl, cond_pulse_ne _ _ (by decide)]

end

end Sys2Proof.Machine
end

section
/-! PROOFS. O60: every block of the state that a restart leaves, as the statement writes it. -/

namespace Sys2Proof.Machine

open Sys2Proof.Spec

section
variable (cause : RestartCause) (s : State)

/-! ## What each block's restart reads -/

theorem restartMemory_frame (cold : Bool) (v : State) :
    let w := restartEpisodes cold (restartChannels v)
    w = { v with channels := w.channels, episodes := w.episodes } := rfl

theorem recalled_frame : recalled cause s =
    { loaded cause s with
      channels := (recalled cause s).channels
      episodes := (recalled cause s).episodes
      conditions := (conditioned cause s).conditions } := by
  have h := restartMemory_frame (cause == .cold) (conditioned cause s)
  rw [conditioned, restartConditions_frame] at h
  exact h

theorem restartWeather_frame (cold : Bool) (v : State) :
    let w := restartSupply (restartRain cold v)
    w = { v with rain := w.rain, supply := w.supply } := rfl

theorem supplied_frame : supplied cause s =
    { loaded cause s with
      channels := (recalled cause s).channels
      episodes := (recalled cause s).episodes
      rain := (supplied cause s).rain
      supply := (supplied cause s).supply
      conditions := (conditioned cause s).conditions } := by
  have h := restartWeather_frame (cause == .cold) (recalled cause s)
  rw [recalled_frame] at h
  exact h

theorem loaded_working : (loaded cause s).store.working = (restart cause s).store.working := by rw [restart_loaded]

/-- The Arbiter restarted over the bays, in the terms of the state loaded. -/
theorem armed_frame : restartArbiter (installed cause s) =
    { loaded cause s with
      channels := (installed cause s).channels
      episodes := (installed cause s).episodes
      rain := (installed cause s).rain
      supply := (installed cause s).supply
      roster := (installed cause s).roster
      arbiter := arbiterAtRestart (installed cause s)
      conditions := (restartArbiter (installed cause s)).conditions } := by
  have h := restartArbiter_frame (installed cause s)
  rw [installed_frame] at h
  exact h

/-! ## The blocks -/

theorem restart_item (table i : Nat) : (restart cause s).item table i = (settingsLoaded s).get table i := by
  rw [State.item, restart_store]

theorem restart_itemNat (table i : Nat) : (restart cause s).itemNat table i = ((settingsLoaded s).get table i).toNat := by
  rw [State.itemNat, restart_item]

theorem restartChannels_channel (v : State) (c : Channel) :
    (restartChannels v).channels.recs.get c = .restarted (v.itemNat 1 (c.base + 3)) (v.itemNat 1 (c.base + 4)) ∧
      (restartChannels v).channels.sampleTimers.get c = some 200 := by
  cases c <;> exact ⟨rfl, rfl⟩

theorem restart_channel (c : Channel) :
    (restart cause s).channel c = ChannelRec.restarted ((settingsLoaded s).get 1 (c.base + 3)).toNat
      ((settingsLoaded s).get 1 (c.base + 4)).toNat ∧
    (restart cause s).channels.sampleTimers.get c = some 200 := by
  have hworking : (conditioned cause s).store.working = (restart cause s).store.working := by
    rw [conditioned, restartConditions_frame, ← loaded_working]
  rw [← restart_itemNat cause, ← restart_itemNat cause, ← itemNat_congr hworking, ← itemNat_congr hworking, State.channel,
    restart_channels]
  exact restartChannels_channel _ c

theorem restart_rain_eq : (restart cause s).rain = {
    storm := if (restart cause s).episodes.inProgress = .none then .dry else .storm
    episodeFlag := (restart cause s).episodes.inProgress != .none
    quiet := 0, openBin := 0, closedBins := List.replicate 60 0, intensity := 0
    total := if cause = .cold then 0 else s.rain.total, clearedAt := if cause = .cold then 0 else s.rain.clearedAt
    minuteTimer := some 60000, dryTimer := none, dryRestarted := false, bounceTimer := none } := by
  have hrain : (recalled cause s).rain = s.rain := by rw [recalled_frame]; rfl
  rw [restart_rain, restartRain_eq (restart_episodes cause s).symm hrain]
  simp only [beq_iff_eq]

theorem restart_episodes_cold (h : cause = .cold) : (restart cause s).episodes = .blank := by
  subst h
  rw [restart_episodes, recalled_episodes]; exact restartEpisodes_cold _

theorem restart_episodes_warm (h : cause ≠ .cold) :
    TableRewarmed ((restart cause s).itemNat 6 37) s.episodes (restart cause s).episodes := by
  have hwarm : (cause == .cold) = false := by simpa using h
  have hframe : (conditioned cause s).store.working = (restart cause s).store.working := by
    rw [conditioned, restartConditions_frame, ← loaded_working]
  have hepisodes : (conditioned cause s).episodes = s.episodes := by rw [conditioned, restartConditions_frame]; rfl
  have htable := restartEpisodes_warm (restartChannels (conditioned cause s))
  rw [restart_episodes, recalled_episodes, hwarm, ← itemNat_congr hframe, ← hepisodes]
  exact htable

/-- The state that the duty order, the Spill Meter, the line and the authority are restarted over. -/
theorem screened_loaded : screened cause s =
    { loaded cause s with
      channels := (installed cause s).channels
      episodes := (restart cause s).episodes
      rain := (restart cause s).rain
      supply := (restart cause s).supply
      roster := (restart cause s).roster
      arbiter := (restart cause s).arbiter
      screens := (restart cause s).screens
      conditions := (restartArbiter (installed cause s)).conditions } := by
  have h := screened_frame cause s
  rw [installed_frame] at h
  rw [restart_loaded]
  exact h

theorem restartOthers_spill (cold : Bool) (u : State) :
    (restartAuthority cold (restartLine (restartSpill (restartDuty cold u)))).spill = (restartSpill u).spill := rfl

theorem restart_spill_eq : (restart cause s).spill = {
    report := ⟨false, none, false⟩, spWet := s.contacts.sp.raw, rating := (settingsLoaded s).rating, head := none
    rated := none, held := 0, spilling := false, fromSpilling := (restart cause s).episodes.isOpen, basis := .head
    flowUsed := 0, above := false, accumulation := none, integrationTimer := some 1000 } := by
  have hcontacts : (screened cause s).contacts = s.contacts.retaken := by rw [screened_loaded]; rfl
  have hepisodes : (screened cause s).episodes = (restart cause s).episodes := by rw [screened_loaded]
  have hworking : (screened cause s).store.working = settingsLoaded s := by rw [screened_loaded]; rfl
  rw [restart_spill, joined, restartOthers_spill, restartSpill_eq hcontacts hepisodes, hworking]

theorem restart_supply_eq : (restart cause s).supply =
    (let st : SupplyState := if s.contacts.mainsPresent.raw = true then .mains
       else if s.contacts.generatorRunning.raw = true then .generator else .none
     { state := st
       limit := match st with
         | .mains => (restart cause s).itemNat 3 10
         | .generator => (restart cause s).itemNat 3 11
         | .none => 0
       restoreTimer := if st = .none then none else startedAt ((restart cause s).itemNat 3 9)
       mains := s.contacts.mainsPresent.raw, generator := s.contacts.generatorRunning.raw }) := by
  have hcontacts : (restartRain (cause == .cold) (recalled cause s)).contacts = s.contacts.retaken := by
    rw [recalled_frame]; rfl
  have hworking : (restartRain (cause == .cold) (recalled cause s)).store.working = (restart cause s).store.working := by
    rw [recalled_frame, ← loaded_working]; rfl
  exact (restart_supply cause s).trans (restartSupply_eq hcontacts hworking)

theorem restart_arbiter_eq : (restart cause s).arbiter = arbiterRestarted s (restart cause s) := by
  have hcontacts : (installed cause s).contacts = s.contacts.retaken := by rw [installed_frame]; rfl
  have hsupply : (installed cause s).supply = (restart cause s).supply := by rw [restart_loaded]
  rw [restart_arbiter, arbiterAtRestart_eq hcontacts hsupply (restart_roster cause s).symm]

theorem restartOthers_line (cold : Bool) (u : State) :
    (restartAuthority cold (restartLine u)).line = (restartLine u).line := rfl

theorem restart_line_eq : (restart cause s).line = {
    receiver := .waiting, frame := none, gapTimer := none, turnaroundTimer := none, reply := none
    restartPending := false, latch := false, linkTimer := some (((settingsLoaded s).get 0 4).toNat * 1000)
    baud := ((settingsLoaded s).get 0 0).toNat, address := ((settingsLoaded s).get 0 1).toNat } := by
  have hworking : (restartSpill (restartDuty (cause == .cold) (screened cause s))).store.working = settingsLoaded s := by
    rw [screened_loaded]; rfl
  rw [restart_line, joined, restartOthers_line, restartLine]
  simp only [State.itemNat, State.item, hworking]
  rfl

theorem restart_authority_eq : (restart cause s).authority =
    (let barred : Bool := decide (cause ≠ .cold) && decide (s.authority.state = .barred)
     { state := if barred = true then .barred else .none, challenge := ((settingsLoaded s).get 0 1).toNat * 257
       failures := if cause = .cold then 0 else if barred = true then 3 else s.authority.failures
       answerTimer := none, supervisionTimer := none, permit := s.contacts.remotePermit.raw }) := by
  let u := restartLine (restartSpill (restartDuty (cause == .cold) (screened cause s)))
  have hcontacts : u.contacts = s.contacts.retaken := by
    show (restartLine (restartSpill (restartDuty (cause == .cold) (screened cause s)))).contacts = _
    rw [screened_loaded]; rfl
  have hauthority : u.authority = s.authority := by
    show (restartLine (restartSpill (restartDuty (cause == .cold) (screened cause s)))).authority = _
    rw [screened_loaded]; rfl
  have haddress : u.line.address = ((settingsLoaded s).get 0 1).toNat := by
    have h := congrArg Line.address (restart_line_eq cause s)
    rw [restart_line, joined, restartOthers_line] at h
    exact h
  rw [restart_authority, joined, restartAuthority_eq hcontacts hauthority, haddress]
  cases cause <;> rfl

theorem restart_bay (b : Bay) : (restart cause s).pump b = bayRestarted (cause == .cold) s (restart cause s) b := by
  have hcontacts : (supplied cause s).contacts = s.contacts.retaken := by rw [supplied_frame]; rfl
  have hworking : (supplied cause s).store.working = (restart cause s).store.working := by
    rw [supplied_frame, ← loaded_working]
  have hpump : (supplied cause s).pump b = s.pump b := by rw [supplied_frame]; rfl
  rw [restart_pump, restartPump_eq hcontacts hworking b hpump]

theorem restart_selector (b : Bay) : ((restart cause s).pump b).selector = (s.contacts.selector.get b).raw := by
  have hcontacts : (supplied cause s).contacts = s.contacts.retaken := by rw [supplied_frame]; rfl
  rw [restart_pump, restartPump_selector, hcontacts, retaken_selector]

theorem restartRoster_frame (cold : Bool) (u : State) : (restartRoster cold u).roster =
    { pumps := (restartRoster cold u).roster.pumps, installed := u.itemNat 3 0, secondTimer := some 1000
      restartHold := startedAt (u.itemNat 3 6) } := rfl

theorem restart_roster_eq : (restart cause s).roster = {
    pumps := (restart cause s).roster.pumps, installed := (restart cause s).itemNat 3 0, secondTimer := some 1000
    restartHold := startedAt ((restart cause s).itemNat 3 6) } := by
  have hworking : (supplied cause s).store.working = (restart cause s).store.working := by
    rw [supplied_frame, ← loaded_working]
  have h := restartRoster_frame (cause == .cold) (supplied cause s)
  rw [itemNat_congr hworking, itemNat_congr hworking] at h
  rw [restart_roster]
  exact h

theorem restart_duty_eq : (restart cause s).duty = dutyRestarted (cause == .cold) s (restart cause s) := by
  have hduty := restart_duty cause s
  have hcontacts : (screened cause s).contacts = s.contacts.retaken := by rw [screened_loaded]; rfl
  have hrain : (screened cause s).rain = (restart cause s).rain := by rw [screened_loaded]
  have hepisodes : (screened cause s).episodes = (restart cause s).episodes := by rw [screened_loaded]
  have hsupply : (screened cause s).supply = (restart cause s).supply := by rw [screened_loaded]
  have hroster : (screened cause s).roster = (restart cause s).roster := by rw [screened_loaded]
  have horder : (screened cause s).duty.order = s.duty.order := by rw [screened_loaded]; rfl
  rw [← restartDuty_eq hcontacts hrain hepisodes hsupply hroster (restart_selector cause s) horder
    (by rw [hduty]; rfl) (by rw [hduty]; rfl), hduty, joined_duty]

theorem restart_screens_whole : (restart cause s).screens =
    { screensFresh (cause == .cold) (restartArbiter (installed cause s)) with
      recs := ⟨screenAtRestart (cause == .cold) (restartArbiter (installed cause s)) .a,
        screenAtRestart (cause == .cold) (restartArbiter (installed cause s)) .b⟩ } := by
  rw [restart_screens, screened, restartScreens_eq]

theorem armed_rain : (restartArbiter (installed cause s)).rain = (restart cause s).rain := by
  rw [armed_frame, restart_loaded]

theorem armed_supply : (restartArbiter (installed cause s)).supply = (restart cause s).supply := by
  rw [armed_frame, restart_loaded]

theorem armed_store : (restartArbiter (installed cause s)).store = (restart cause s).store := by
  rw [armed_frame, restart_loaded]

theorem armed_contacts : (restartArbiter (installed cause s)).contacts = s.contacts.retaken := by
  rw [armed_frame]; rfl

theorem restart_screens_eq : (restart cause s).screens = {
    recs := (restart cause s).screens.recs, inReport := ⟨false, none, false⟩, saReport := ⟨false, none, false⟩
    sbReport := ⟨false, none, false⟩, storm := (restart cause s).rain.storm, supply := (restart cause s).supply.state
    ramping := false } := by
  rw [restart_screens_whole, screensFresh, armed_rain, armed_supply]
  rfl

/-- What brings a screen home reads the same in the state that the restart leaves. -/
theorem restart_sameRake :
    let u := restartArbiter (installed cause s)
    SameRake { u with screens := screensFresh (cause == .cold) u } (restart cause s) where
  contacts := (restart_contacts cause s).trans (armed_contacts cause s).symm
  store := (armed_store cause s).symm
  storm := by rw [restart_screens_whole]
  supply := by rw [restart_screens_whole]
  ramping := by rw [restart_screens_whole]

theorem restart_screen (x : Screen) :
    (restart cause s).screen x = screenRestarted (cause == .cold) s (restart cause s) x := by
  have hscreen : (restartArbiter (installed cause s)).screen x = s.screen x := by rw [armed_frame]; rfl
  have hwhole : (restart cause s).screen x = screenAtRestart (cause == .cold) (restartArbiter (installed cause s)) x := by
    rw [State.screen, restart_screens_whole]; cases x <;> rfl
  rw [hwhole]
  exact screenAtRestart_eq (armed_contacts cause s) (congrArg Store.working (armed_store cause s)) (armed_rain cause s) x
    hscreen (restart_sameRake cause s)

end

/-! ## The commands that restart the part (R199, R200) -/

theorem loseSupply_halted {s : State} (h : s.power = .halted) : loseSupply s = s := by
  rw [loseSupply, h]

theorem loseSupply_idle {s : State} (h : s.power = .on) (hc : s.store.commit = none) :
    loseSupply s = { s with power := .halted } := by
  rw [loseSupply, h]
  dsimp only
  rw [cutCommit, hc]

theorem exec_coldStart (s : State) : exec .coldStart s = .next (restart .cold (loseSupply s)) := rfl

theorem exec_warmSupplyRestart (s : State) : exec .warmSupplyRestart s = .next (restart .warmSupply (loseSupply s)) := rfl

end Sys2Proof.Machine

open Sys2Proof Sys2Proof.Machine

/-- Settles O60, block by block: each block's restart reads settings, contacts and blocks that no later one writes, and the
evaluation and the reports reach the Duty Controller and the Condition Table alone. -/
theorem restartGivesTheRestartValues : Obligations.RestartGivesTheRestartValues := by
  refine ⟨fun cause s => ?_, fun s => ⟨fun h => ?_, fun h hc => ?_⟩⟩
  · exact ⟨restart_power cause s, restart_cause cause s, restart_pending cause s, restart_store cause s,
      restart_contacts cause s, restart_clock cause s, restart_channel cause s, restart_rain_eq cause s,
      restart_episodes_cold cause s, restart_episodes_warm cause s, restart_spill_eq cause s, restart_supply_eq cause s,
      restart_arbiter_eq cause s, restart_line_eq cause s, restart_authority_eq cause s, restart_bay cause s,
      restart_roster_eq cause s, restart_duty_eq cause s, restart_screen cause s, restart_screens_eq cause s,
      restart_conditions cause s⟩
  · rw [exec_coldStart, exec_warmSupplyRestart, loseSupply_halted h]
    exact ⟨rfl, rfl⟩
  · rw [exec_coldStart, exec_warmSupplyRestart, loseSupply_idle h hc]
    exact ⟨rfl, rfl⟩
end

section
/-! PROOFS. The Rainfall Unit's record replaced (R29 to R38): every operation of chapter 2 on rain is one record written, with
a change of storm state handed to the Duty Controller and to the screens, which read their intervals again (R112). -/

namespace Sys2Proof.Machine

open Sys2Proof.Spec

variable (s : State)

/-! ## The two screens, one after the other -/

/-- A change of each screen's record by what a rake's rules read: the first screen's move does not show at the second. -/
theorem forScreens_eq {f : Screen → State → State} {g : State → Screen → ScreenRec → ScreenRec}
    (hf : ∀ x t, f x t = t.setScreen x (g t x (t.screen x)))
    (hg : ∀ {t u : State}, SameRake t u → ∀ x r, g u x r = g t x r) :
    forScreens f s = { s with screens := { s.screens with recs := ⟨g s .a (s.screen .a), g s .b (s.screen .b)⟩ } } := by
  have hrake (r : ScreenRec) : SameRake s (s.setScreen .a r) := ⟨rfl, rfl, rfl, rfl, rfl⟩
  rw [forScreens, hf, hf, hg (hrake _)]
  rfl

/-- A screen's record after a change of both. -/
theorem forScreens_screen {f : Screen → State → State} {g : State → Screen → ScreenRec → ScreenRec}
    (hf : ∀ x t, f x t = t.setScreen x (g t x (t.screen x)))
    (hg : ∀ {t u : State}, SameRake t u → ∀ x r, g u x r = g t x r) (x : Screen) :
    (forScreens f s).screen x = g s x (s.screen x) := by
  rw [forScreens_eq s hf hg]
  cases x <;> rfl

/-! ## The interval read again (R112) -/

/-- The interval in effect is read from the settings and the storm state, and the expiry is a trigger (R112). -/
theorem rereadInterval_eq (x : Screen) : rereadInterval x s = s.setScreen x (reread s x (s.screen x)) := by
  unfold rereadInterval reread
  by_cases hu : (s.screen x).inUse = true
  · rw [if_pos hu, if_neg (by simp [hu])]
    simp only [rakeInterval_eq, modScreen_eq, screen_setScreen_self]
    generalize (if s.screens.storm = .storm then s.itemNat 5 6 else s.itemNat 5 5) = m
    cases (s.screen x).interval.elapsed with
    | none => rfl
    | some ms =>
      dsimp only
      by_cases hms : m * 60000 ≤ ms
      · rw [if_pos (show minutes m ≤ ms from hms), if_neg (not_lt.2 hms), intervalExpired,
          trigger_eq _ _ (by simpa using hu)]
        simp only [modScreen_eq, screen_setScreen_self, setScreen_setScreen]
        rfl
      · rw [if_neg (show ¬ minutes m ≤ ms from hms), if_pos (not_le.1 hms)]
  · rw [if_neg hu, if_pos (by simpa using hu), setScreen_self]

theorem SameRake.reread {s t : State} (h : SameRake s t) (x : Screen) (r : ScreenRec) : reread t x r = reread s x r := by
  have hitem (i : Nat) : t.itemNat 5 i = s.itemNat 5 i := by rw [State.itemNat, State.itemNat, h.item]
  unfold Spec.reread
  simp only [h.storm, h.free, h.begun, hitem]

/-- The screens at a change of storm state (R38, R112), and nothing else. -/
theorem screensStorm_passes (new : StormState) :
    StormPasses new s (screensStorm new s) ∧ screensStorm new s = { s with screens := (screensStorm new s).screens } := by
  unfold screensStorm
  dsimp only
  split
  · rename_i h
    rw [bne_iff_ne] at h
    refine ⟨⟨?_, fun x => ?_⟩, ?_⟩
    · rw [forScreens_eq _ (fun x t => rereadInterval_eq t x) SameRake.reread]
    · rw [forScreens_screen _ (fun x t => rereadInterval_eq t x) SameRake.reread, if_neg h]
      rfl
    · rw [forScreens_eq _ (fun x t => rereadInterval_eq t x) SameRake.reread]
  · rename_i h
    have h : (s.screens.storm == .storm) = (new == .storm) := by simpa using h
    exact ⟨⟨rfl, fun x => by rw [if_pos h]; rfl⟩, rfl⟩

/-- What the screens make of a change of storm state, read of the contacts, the settings and the screens alone. -/
theorem stormPasses_congr {new : StormState} {s t u v : State} (h : StormPasses new t u) (hs : s.screens = t.screens)
    (hcontacts : s.contacts = t.contacts) (hstore : s.store = t.store) (hu : v.screens = u.screens) :
    StormPasses new s v := by
  have hscreen (x : Screen) : v.screen x = u.screen x := by rw [State.screen, hu]; rfl
  have hsame (x : Screen) : s.screen x = t.screen x := by rw [State.screen, hs]; rfl
  have hrake : SameRake { t with screens := { t.screens with storm := new } }
      { s with screens := { s.screens with storm := new } } :=
    ⟨hcontacts, hstore, rfl, by rw [hs], by rw [hs]⟩
  refine ⟨by rw [hu, hs]; exact h.1, fun x => ?_⟩
  rw [hscreen, h.2, hsame, hs, ← hs, hrake.reread, hs]

/-! ## The Rainfall Unit's record replaced (R38) -/

/-- The Rainfall Unit's record replaced, a change of storm state handed on (R38). -/
def setRain (r : Rain) (s : State) : State := setStorm r.storm { s with rain := { r with storm := s.rain.storm } }

/-- A record replaced with the storm state as it was is not handed on. -/
theorem setRain_same {r : Rain} (h : r.storm = s.rain.storm) : setRain r s = { s with rain := r } := by
  rw [setRain, setStorm, if_pos h.symm, ← h]

/-- A record replaced with a change of the storm state. -/
theorem setRain_change {r : Rain} (h : r.storm ≠ s.rain.storm) :
    setRain r s = screensStorm r.storm ({ s with rain := r }.post (.storm r.storm)) := by
  rw [setRain, setStorm, if_neg (Ne.symm h)]

/-- What a record replaced leaves of the state, the screens aside. -/
theorem setRain_frame (r : Rain) : setRain r s = { s with
    rain := r
    screens := (setRain r s).screens
    inbox := s.inbox ++ if r.storm = s.rain.storm then [] else [.storm r.storm] } := by
  by_cases h : r.storm = s.rain.storm
  · rw [setRain_same s h, if_pos h, List.append_nil]
  · rw [setRain_change s h, if_neg h, (screensStorm_passes _ _).2]
    rfl

/-- What a record replaced leaves of the state, with what is handed on in other words. -/
theorem setRain_handing {r : Rain} {l : List Notice}
    (h : (if r.storm = s.rain.storm then [] else [Notice.storm r.storm]) = l) :
    setRain r s = { s with rain := r, screens := (setRain r s).screens, inbox := s.inbox ++ l } :=
  h ▸ setRain_frame s r

/-- What a record replaced leaves of the screens (R112). -/
theorem setRain_screens (r : Rain) :
    if r.storm = s.rain.storm then (setRain r s).screens = s.screens else StormPasses r.storm s (setRain r s) := by
  by_cases h : r.storm = s.rain.storm
  · rw [if_pos h, setRain_same s h]
  · rw [if_neg h, setRain_change s h]
    exact stormPasses_congr (screensStorm_passes ({ s with rain := r }.post (.storm r.storm)) _).1 rfl rfl rfl rfl

@[simp] theorem setRain_plant (r : Rain) : (setRain r s).plant = { s.plant with rain := r } := by
  rw [setRain_frame]; rfl

@[simp] theorem setRain_rain (r : Rain) : (setRain r s).rain = r := congrArg Plant.rain (setRain_plant s r)

@[simp] theorem setRain_episodes (r : Rain) : (setRain r s).episodes = s.episodes :=
  congrArg Plant.episodes (setRain_plant s r)

@[simp] theorem setRain_spill (r : Rain) : (setRain r s).spill = s.spill := congrArg Plant.spill (setRain_plant s r)

/-! ## The operations on rain, each as the record that it leaves -/

/-- A storm state written. -/
theorem setStorm_eq (st : StormState) : setStorm st s = setRain { s.rain with storm := st } s := rfl

/-- The exit test of R36. -/
theorem stormExit_eq : stormExit s = setRain { s.rain with
    storm := if s.rain.storm = .storm ∧ s.itemNat 2 4 < s.rain.quiet ∧ s.rain.episodeFlag = false then
      (if s.rain.dryTimer.isSome then .wet else .dry) else s.rain.storm } s := by
  have hhold : s.holdSatisfied = true ↔ s.itemNat 2 4 < s.rain.quiet := decide_eq_true_iff
  unfold stormExit
  simp only [hhold]
  split
  · exact setStorm_eq s _
  · exact (setRain_same s rfl).symm

/-- The episode-opened notice (R34). -/
theorem episodeOpened_eq : episodeOpened s = setRain { s.rain with
    episodeFlag := true, storm := .storm, quiet := if s.rain.storm = .storm then s.rain.quiet else 0 } s := by
  unfold episodeOpened
  by_cases h : s.rain.storm = .storm
  · simp only [h, if_true]
    rw [setRain_same s h.symm, ← h]
  · simp only [h, if_false]
    rfl

/-- The episode-ended notice (R34, R36). -/
theorem episodeEnded_eq : episodeEnded s = setRain (rainAfter s) s := by
  rw [episodeEnded, stormExit_eq, rainAfter]
  simp only [and_true]
  rfl

/-- The dry timer's expiry (R37). -/
theorem dryOut_eq : dryOut s = setRain { s.rain with
    dryTimer := none, storm := if s.rain.storm = .wet then .dry else s.rain.storm } s := by
  unfold dryOut
  dsimp only
  by_cases h : s.rain.storm = .wet
  · rw [if_pos h, if_pos h]; rfl
  · rw [if_neg h, if_neg h]; exact (setRain_same s (r := { s.rain with dryTimer := none }) rfl).symm

end Sys2Proof.Machine
end

section
/-! PROOFS. Tips, the bin close and the dry timer (R29 to R38). -/

namespace Sys2Proof.Machine

open Sys2Proof.Spec

variable (s : State)

/-! ## What the settling of a step leaves alone -/

@[simp] theorem settle_power : (settle s).power = s.power := congrArg Plant.power (settle_plant s)
@[simp] theorem settle_rain : (settle s).rain = s.rain := congrArg Plant.rain (settle_plant s)
@[simp] theorem settle_spill : (settle s).spill = s.spill := congrArg Plant.spill (settle_plant s)
@[simp] theorem settle_episodes : (settle s).episodes = s.episodes := congrArg Plant.episodes (settle_plant s)
@[simp] theorem setRain_power (r : Rain) : (setRain r s).power = s.power := congrArg Plant.power (setRain_plant s r)

/-! ## The bin close (R31 to R36) -/

/-- A record written and then another is the other written, the storm state between them as it was. -/
theorem setRain_over {r q : Rain} (h : q.storm = s.rain.storm) : setRain r { s with rain := q } = setRain r s := by
  unfold setRain; rw [h]

/-- The intensity of R32, its newest bins counted from the end. -/
theorem intensityOf_eq (bins : List Nat) (n depth : Nat) :
    intensityOf bins n depth = min 65535 (((bins.reverse.take n).sum * depth * 60) / n) := by
  rw [intensityOf, List.take_reverse, List.sum_reverse]

/-- The record that a bin close leaves to the judgement of the storm state (R31, R32). -/
def binClosed (s : State) : Rain :=
  let bins := (s.rain.closedBins ++ [s.rain.openBin]).drop 1
  { s.rain with
    closedBins := bins
    openBin := 0
    intensity := min 65535 (((bins.reverse.take (s.itemNat 2 1)).sum * s.itemNat 2 0 * 60) / s.itemNat 2 1)
    minuteTimer := some 60000 }

theorem closeBin_judged : closeBin s = judgeStorm { s with rain := binClosed s } := by
  rw [closeBin, Rain.closeBin, intensityOf_eq]; rfl

/-- The record that a judgement of the storm state leaves (R33, R35, R36). -/
def stormJudged (s : State) : Rain :=
  match s.rain.storm with
  | .dry => s.rain
  | .wet => if s.itemNat 2 2 ≤ s.rain.intensity then { s.rain with storm := .storm, quiet := 0 } else s.rain
  | .storm =>
    let quiet := if s.rain.intensity < s.itemNat 2 3 then min 255 (s.rain.quiet + 1) else 0
    if s.itemNat 2 4 < quiet ∧ s.rain.episodeFlag = false then
      { s.rain with quiet := quiet, storm := if s.rain.dryTimer.isSome then .wet else .dry }
    else { s.rain with quiet := quiet }

theorem stormJudged_dry (h : s.rain.storm = .dry) : stormJudged s = s.rain := by
  unfold stormJudged; rw [h]

theorem stormJudged_wet (h : s.rain.storm = .wet) : stormJudged s =
    if s.itemNat 2 2 ≤ s.rain.intensity then { s.rain with storm := .storm, quiet := 0 } else s.rain := by
  unfold stormJudged; rw [h]

theorem stormJudged_storm (h : s.rain.storm = .storm) : stormJudged s =
    let quiet := if s.rain.intensity < s.itemNat 2 3 then min 255 (s.rain.quiet + 1) else 0
    if s.itemNat 2 4 < quiet ∧ s.rain.episodeFlag = false then
      { s.rain with quiet := quiet, storm := if s.rain.dryTimer.isSome then .wet else .dry }
    else { s.rain with quiet := quiet } := by
  unfold stormJudged; rw [h]

theorem judgeStorm_eq : judgeStorm s = setRain (stormJudged s) s := by
  unfold judgeStorm
  split
  · rename_i h
    rw [stormJudged_dry s h, setRain_same s rfl]
  · rename_i h
    rw [stormJudged_wet s h]
    split
    · rfl
    · exact (setRain_same s rfl).symm
  · rename_i h
    rw [stormJudged_storm s h, stormExit_eq]
    refine (setRain_over s rfl).trans (congrArg (setRain · s) ?_)
    simp only [h, true_and, show satAdd 255 s.rain.quiet 1 = min 255 (s.rain.quiet + 1) from rfl]
    generalize (if s.rain.intensity < s.itemNat 2 3 then min 255 (s.rain.quiet + 1) else 0) = quiet
    split <;> rename_i hexit
    · exact (if_pos hexit).symm
    · exact (if_neg hexit).symm

theorem closeBin_eq : closeBin s = setRain (stormJudged { s with rain := binClosed s }) s := by
  rw [closeBin_judged, judgeStorm_eq]
  exact setRain_over s rfl

/-! ## Tips (R29, R30, R37, R145) -/

/-- The Rainfall Unit's record after a counted tip (R29, R30, R37). -/
def tipped (s : State) : Rain := { s.rain with
  openBin := min 255 (s.rain.openBin + 1)
  total := min 4294967295 (s.rain.total + 1)
  dryTimer := some (s.itemNat 2 5 * 60000)
  dryRestarted := s.rain.dryTimer.isSome
  bounceTimer := some 250
  storm := if s.rain.storm = .dry then .wet else s.rain.storm }

/-- A tip at the Episode Table reads nothing of the rain. -/
theorem episodeTip_withRain (r : Rain) : episodeTip { s with rain := r } = { episodeTip s with rain := r } := by
  unfold episodeTip; dsimp only; split <;> rfl

@[simp] theorem episodeTip_rain : (episodeTip s).rain = s.rain := by unfold episodeTip; split <;> rfl

/-- A counted tip: at the Rainfall Unit and at the Episode Table. -/
theorem countTip_eq : countTip s = setRain (tipped s) (episodeTip s) := by
  unfold countTip
  dsimp only
  rw [episodeTip_withRain]
  by_cases h : s.rain.storm = .dry
  · refine (if_pos h).trans ?_
    rw [setStorm_eq, tipped, if_pos h]
    exact setRain_over (episodeTip s) (congrArg Rain.storm (episodeTip_rain s)).symm
  · refine (if_neg h).trans ?_
    rw [setRain_same _ (by rw [episodeTip_rain, tipped, if_neg h]), tipped, if_neg h]
    rfl

/-- A tip while qualifying (R145). -/
theorem episodeTip_qualifying (h : s.episodes.qualifying = true) : episodeTip s = s.modPending Tally.addTip := by
  rw [episodeTip, if_pos h]

/-- A tip while not qualifying (R145). -/
theorem episodeTip_progress (h : s.episodes.qualifying = false) : episodeTip s = s.modProgress Tally.addTip := by
  rw [episodeTip, if_neg (by simp [h])]

/-- What a tip at the Episode Table leaves of the state. -/
theorem episodeTip_frame : episodeTip s = { s with spill := (episodeTip s).spill, episodes := (episodeTip s).episodes } := by
  unfold episodeTip; split <;> rfl

@[simp] theorem episodeTip_plant : (episodeTip s).plant =
    { s.plant with spill := (episodeTip s).spill, episodes := (episodeTip s).episodes } :=
  congrArg State.plant (episodeTip_frame s)

@[simp] theorem episodeTip_power : (episodeTip s).power = s.power := by rw [episodeTip_frame]

/-! ## The totals of the episode in progress -/

/-- The episode in progress in its slot, its totals changed. -/
theorem modProgress_slot {t : EpisodeTable} {i : Fin 16} {e : Episode} (f : Tally → Tally) (hi : t.inProgress = .slot i)
    (he : t.slots.get i = some e) : t.modProgress f = t.setSlot i (some { e with tally := f e.tally }) := by
  unfold EpisodeTable.modProgress
  rw [hi]
  dsimp only
  rw [he]; rfl

/-- The episode in progress in the accumulator, its totals changed. -/
theorem modProgress_accumulator {t : EpisodeTable} (f : Tally → Tally) (h : t.inProgress = .accumulator) :
    t.modProgress f = { t with acc := { t.acc with tally := f t.acc.tally } } := by
  unfold EpisodeTable.modProgress; rw [h]

/-- Nothing in progress. -/
theorem modProgress_none {t : EpisodeTable} (f : Tally → Tally) (h : t.inProgress = .none) : t.modProgress f = t := by
  unfold EpisodeTable.modProgress; rw [h]

/-! ## The commands on rain -/

section
variable {s : State} (hp : s.power = .on)
include hp

theorem exec_tipArrival_bounced (hb : s.rain.bounceTimer.isSome = true) : exec .tipArrival s = .next s := by
  rw [show exec .tipArrival s = execTipArrival s from rfl, execTipArrival, powered_on _ _ hp, if_pos hb]

theorem exec_tipArrival_counted (hb : s.rain.bounceTimer = none) :
    exec .tipArrival s = .next (settle (setRain (tipped s) (episodeTip s))) := by
  rw [show exec .tipArrival s = execTipArrival s from rfl, execTipArrival, powered_on _ _ hp, if_neg (by simp [hb]),
    countTip_eq]

theorem exec_bounceTimerExpiry :
    exec .bounceTimerExpiry s = .next { s with rain := { s.rain with bounceTimer := none } } := by
  rw [show exec .bounceTimerExpiry s = execBounceTimerExpiry s from rfl, execBounceTimerExpiry, powered_on _ _ hp]

theorem exec_binClose (hm : s.rain.minuteTimer.isSome = true) :
    exec .binClose s = .next (settle (setRain (stormJudged { s with rain := binClosed s }) s)) := by
  rw [show exec .binClose s = execBinClose s from rfl, execBinClose, powered_on _ _ hp, if_pos hm, closeBin_eq]

/-- The dry timer's expiry behind the tip that restarted it (R37, log 34). -/
theorem exec_dryTimerExpiry_late (hd : s.rain.dryTimer.isSome = true)
    (ht : s.rain.dryRestarted = true ∧ s.rain.bounceTimer = some 250) :
    exec .dryTimerExpiry s = .next { s with rain := { s.rain with dryRestarted := false } } := by
  rw [show exec .dryTimerExpiry s = execDryTimerExpiry s from rfl, execDryTimerExpiry, powered_on _ _ hp,
    if_neg (by rw [← Option.not_isSome, hd]; decide), if_pos (by simp [Rain.tippedFirst, ht.1, ht.2])]
  rfl

/-- The dry timer's expiry on its own (R37). -/
theorem exec_dryTimerExpiry_ends (hd : s.rain.dryTimer.isSome = true)
    (ht : ¬ (s.rain.dryRestarted = true ∧ s.rain.bounceTimer = some 250)) :
    exec .dryTimerExpiry s = .next (settle (setRain { s.rain with
      dryTimer := none, storm := if s.rain.storm = .wet then .dry else s.rain.storm } s)) := by
  rw [show exec .dryTimerExpiry s = execDryTimerExpiry s from rfl, execDryTimerExpiry, powered_on _ _ hp,
    if_neg (by rw [← Option.not_isSome, hd]; decide), if_neg (by simpa [Rain.tippedFirst] using ht), dryOut_eq]

end

end Sys2Proof.Machine

open Sys2Proof Sys2Proof.Machine

/-- Settles O12, by the record that the bin close writes and the judgement on it. -/
theorem binCloseJudgesTheStorm : Obligations.BinCloseJudgesTheStorm := by
  intro s hp hm bins n intensity quiet closed
  have hrain : (settle (setRain (stormJudged { s with rain := closed }) s)).rain = stormJudged { s with rain := closed } := by
    rw [settle_rain, setRain_rain]
  exact ⟨_, exec_binClose hp hm, by simp, fun h => hrain.trans (stormJudged_dry _ h),
    fun h => hrain.trans (stormJudged_wet _ h), fun h => hrain.trans (stormJudged_storm _ h)⟩

/-- Settles O11: a counted tip is a record written at the Rainfall Unit and a tip at the receiving record; the dry timer's
expiry is told from one together with the tip by what the tip left. -/
theorem tipsAndTheDryTimerMoveTheStorm : Obligations.TipsAndTheDryTimerMoveTheStorm := by
  refine ⟨fun s hp => ⟨exec_tipArrival_bounced hp, exec_bounceTimerExpiry hp, fun hb =>
    ⟨_, exec_tipArrival_counted hp hb, ?_, ?_, fun hq => ?_, fun hq => ⟨?_, fun i e hi he => ?_⟩, fun hq hi => ?_,
      fun hq hi => ?_⟩⟩,
    fun s hp hd => ⟨exec_dryTimerExpiry_late hp hd, fun ht => ⟨_, exec_dryTimerExpiry_ends hp hd ht, ?_, ?_⟩⟩,
    fun s hp hs hd hb => ⟨?_, ?_⟩⟩
  · rw [settle_rain, setRain_rain]; rfl
  · simp only [settle_plant, settle_rain, settle_spill, settle_episodes, setRain_plant, setRain_rain, setRain_spill,
      setRain_episodes, episodeTip_plant]
  · simp only [settle_spill, settle_episodes, setRain_spill, setRain_episodes, episodeTip_qualifying s hq]
    exact ⟨rfl, fun a ha => by simp [State.modPending, ha, Tally.addTip, satAdd]⟩
  · simp only [settle_spill, setRain_spill, episodeTip_progress s hq]; rfl
  · simp only [settle_episodes, setRain_episodes, episodeTip_progress s hq, State.modProgress, modProgress_slot _ hi he]
    exact slotBecomes_setSlot s.episodes i _ _
  · simp only [settle_spill, settle_episodes, setRain_spill, setRain_episodes, episodeTip_progress s hq, State.modProgress,
      modProgress_accumulator _ hi]
    exact ⟨rfl, rfl⟩
  · simp only [settle_spill, settle_episodes, setRain_spill, setRain_episodes, episodeTip_progress s hq, State.modProgress,
      modProgress_none _ hi]
    exact ⟨rfl, rfl⟩
  · simp only [settle_plant, settle_rain, setRain_plant, setRain_rain]
  · simp only [settle_rain, setRain_rain]
  · refine ⟨_, _, exec_tipArrival_counted hp hb, exec_dryTimerExpiry_late (by simpa using hp) ?_ ⟨?_, ?_⟩, ?_, ?_⟩ <;>
      simp [tipped, hs, hd]
  · refine ⟨_, _, exec_dryTimerExpiry_ends hp hd (by simp [hb]), exec_tipArrival_counted (by simpa using hp) ?_, ?_, ?_⟩ <;>
      simp [tipped, hs, hb]
end

section
/-! PROOFS. The opening and the settlement of an episode (R147 to R149, R152), with what they do to the storm state (R34, R36). -/

namespace Sys2Proof.Machine

open Sys2Proof.Spec

variable (s : State)

/-! ## Totals (R134, R135) -/

/-- Volume added by the carrying rule (R134). -/
theorem addVolume_eq (litres tenths : Nat) (t : Tally) : t.addVolume litres tenths =
    { t with
      litres := (carried t litres tenths).1, rem := (carried t litres tenths).2.1
      flags := { t.flags with volumeSaturated := (carried t litres tenths).2.2 } } := by
  unfold Tally.addVolume carried
  by_cases hfull : t.flags.volumeSaturated = true
  · rw [if_pos hfull, if_pos hfull]
    dsimp only
    rw [← hfull]
  · rw [if_neg hfull, if_neg hfull]
    dsimp only
    split
    · rfl
    · dsimp only
      rw [← (Bool.not_eq_true _ ▸ hfull : t.flags.volumeSaturated = false)]

/-- The peak flow raised, with its time (R135). -/
theorem raiseFlow_eq (flow time : Nat) (t : Tally) : t.raiseFlow flow time =
    { t with peakFlow := max t.peakFlow flow, peakTime := if t.peakFlow < flow then time else t.peakTime } := by
  unfold Tally.raiseFlow
  split
  · rw [max_eq_right (by omega)]
  · rw [max_eq_left (by omega)]

/-- The peak head raised (R135). -/
theorem raiseHead_eq (head : Int) (t : Tally) : t.raiseHead head = { t with peakHead := max t.peakHead head } := by
  unfold Tally.raiseHead
  split
  · rw [max_eq_right (by omega)]
  · rw [max_eq_left (by omega)]

/-- The accumulator once it has taken an opening (R149). -/
theorem take_eq (a : Accumulator) (serial : Nat) (p : Accumulation) : a.take serial p = { a with
    count := min 65535 (a.count + 1)
    current := some ⟨false, p.start, none⟩
    tally := withOpening p.tally a.tally
    earliest := if a.count = 0 then p.start else a.earliest
    firstSerial := if a.count = 0 then serial else a.firstSerial
    lastSerial := serial } := by
  simp only [Accumulator.take, addVolume_eq, raiseFlow_eq, raiseHead_eq]
  rfl

/-! ## Slots (R147, R155) -/

theorem mem_slotNumbers (i : Fin 16) : i ∈ slotNumbers := by revert i; decide

/-- The lowest FREE slot (R147). -/
theorem lowestFree_of_free {t : EpisodeTable} {i : Fin 16} (hi : t.slots.get i = none)
    (hlow : ∀ j, j < i → (t.slots.get j).isSome = true) : t.lowestFree = some i := by
  have hsplit : ∀ i : Fin 16, slotNumbers = slotNumbers.take i ++ i :: slotNumbers.drop (i + 1) := by decide
  have hbefore : ∀ i : Fin 16, ∀ j ∈ slotNumbers.take i, j < i := by decide
  refine List.find?_eq_some_iff_append.2 ⟨by rw [hi]; rfl, _, _, hsplit i, fun j hj => ?_⟩
  have := hlow j (hbefore i j hj)
  simpa using this

/-- Whether every slot is occupied (R155). -/
theorem full_iff (t : EpisodeTable) : t.full = true ↔ ∀ j, (t.slots.get j).isSome = true := by
  unfold EpisodeTable.full EpisodeTable.lowestFree
  rw [Option.isNone_iff_eq_none, List.find?_eq_none]
  simp only [Option.isSome_iff_ne_none, Option.isNone_iff_eq_none]
  exact ⟨fun h j => h j (mem_slotNumbers j), fun h j _ => h j⟩

/-- No FREE slot (R149). -/
theorem lowestFree_full {t : EpisodeTable} (h : ∀ j, (t.slots.get j).isSome = true) : t.lowestFree = none :=
  Option.isNone_iff_eq_none.1 ((full_iff t).2 h)

/-! ## The opening (R147) -/

/-- The pending accumulation as it goes to the episode, CLOCK_UNSET with the clock not set (R145). -/
def opening (s : State) (p : Accumulation) : Accumulation :=
  { p with tally := { p.tally with flags := { p.tally.flags with
    clockUnset := p.tally.flags.clockUnset || !s.clock.isSet } } }

theorem addFlags_clockUnset (unset : Bool) (q : Tally) : q.addFlags { RecordFlags.empty with clockUnset := unset } =
    { q with flags := { q.flags with clockUnset := q.flags.clockUnset || unset } } := by
  simp [Tally.addFlags, RecordFlags.union, RecordFlags.empty]

/-- The serial that the next episode takes (R148). -/
def serialOf (t : EpisodeTable) : Nat := t.freeSerial 17 t.serialCounter

/-- The Episode Table with its qualification at an end and its serial taken (R146, R148). -/
def EpisodeTable.serialTaken (t : EpisodeTable) : EpisodeTable :=
  { t with qualifying := false, qualifyTimer := none, serialCounter := nextSerial (serialOf t) }

/-- The Episode Table with an episode opened: in the lowest FREE slot, or in the accumulator (R147, R149). -/
def tableOpened (s : State) (p : Accumulation) : EpisodeTable :=
  let t := s.episodes.serialTaken
  match s.episodes.lowestFree with
  | some i =>
    { t.setSlot i (some ⟨serialOf s.episodes, .opened, p.start, none, p.tally, 0, s.rain.storm⟩) with inProgress := .slot i }
  | none => { t with acc := t.acc.take (serialOf s.episodes) p, inProgress := .accumulator }

/-- The Rainfall Unit's record after the episode-opened notice (R34). -/
def rainOpened (s : State) : Rain := { s.rain with
  episodeFlag := true, storm := .storm, quiet := if s.rain.storm = .storm then s.rain.quiet else 0 }

/-- The opening before its sources are reported: the table, the storm state and the all-out notice (R34, R74, R147). -/
def openedBare (s : State) (p : Accumulation) : State :=
  (setRain (rainOpened s) { s.setEpisodes (tableOpened s (opening s p)) with
    spill := { s.spill with accumulation := none } }).post (.allOut true)

theorem openedBare_episodes (p : Accumulation) : (openedBare s p).episodes =
    { tableOpened s (opening s p) with attn := episodeAttn (tableOpened s (opening s p)) } := setRain_episodes _ _

theorem tableOpened_isOpen (p : Accumulation) (attn : Bool) : ({ tableOpened s p with attn := attn } : EpisodeTable).isOpen = true
    ∧ ({ tableOpened s p with attn := attn } : EpisodeTable).progressSerial = serialOf s.episodes := by
  unfold tableOpened EpisodeTable.isOpen EpisodeTable.progressState EpisodeTable.progressSerial
  cases s.episodes.lowestFree with
  | none => exact ⟨rfl, rfl⟩
  | some i =>
    dsimp only
    rw [setSlot_get_self]
    exact ⟨rfl, rfl⟩

theorem openEpisode_eq {p : Accumulation} (h : s.spill.accumulation = some p) : openEpisode s =
    let u := (openedBare s p).report .overflowActive true (some (.serial (serialOf s.episodes)))
    if s.episodes.lowestFree.isSome then reportFull u else u := by
  let v : State := { s.setEpisodes (tableOpened s (opening s p)) with spill := { s.spill with accumulation := none } }
  have hopened : openEpisode s =
      let u := reportOverflow ((episodeOpened v).post (.allOut true))
      if s.episodes.lowestFree.isSome then reportFull u else u := by
    unfold openEpisode
    rw [h]
    dsimp only
    rw [addFlags_clockUnset]
    rfl
  obtain ⟨hopen, hserial⟩ := tableOpened_isOpen s (opening s p) (episodeAttn (tableOpened s (opening s p)))
  have hreport : reportOverflow (openedBare s p) =
      (openedBare s p).report .overflowActive true (some (.serial (serialOf s.episodes))) := by
    rw [reportOverflow, openedBare_episodes, if_pos hopen, hserial]
  rw [← hreport, hopened, episodeOpened_eq]
  rfl

/-- What the opening leaves of the state before its sources are reported. -/
theorem openedBare_frame (p : Accumulation) : openedBare s p = { s with
    spill := { s.spill with accumulation := none }
    rain := rainOpened s
    episodes := { tableOpened s (opening s p) with attn := episodeAttn (tableOpened s (opening s p)) }
    screens := (openedBare s p).screens
    inbox := s.inbox ++ (if s.rain.storm = .storm then [] else [.storm .storm]) ++ [.allOut true] } := by
  have hstorm : (if StormState.storm = s.rain.storm then [] else [Notice.storm .storm]) =
      if s.rain.storm = .storm then [] else [.storm .storm] := if_congr eq_comm rfl rfl
  unfold openedBare
  rw [setRain_handing _ hstorm]
  rfl

/-- What the opening leaves of the screens (R38, R112). -/
theorem openedBare_screens (p : Accumulation) :
    if s.rain.storm = .storm then (openedBare s p).screens = s.screens else StormPasses .storm s (openedBare s p) := by
  have h := setRain_screens { s.setEpisodes (tableOpened s (opening s p)) with
    spill := { s.spill with accumulation := none } } (rainOpened s)
  by_cases hs : s.rain.storm = .storm
  · rw [if_pos hs]
    rw [if_pos (by exact hs.symm)] at h
    exact h
  · rw [if_neg hs]
    rw [if_neg (by exact fun e => hs e.symm)] at h
    exact stormPasses_congr h rfl rfl rfl rfl

/-- The opening leaves everything but the sources as it is before them. -/
theorem openEpisode_frame {p : Accumulation} (h : s.spill.accumulation = some p) :
    openEpisode s = { openedBare s p with conditions := (openEpisode s).conditions } := by
  rw [openEpisode_eq s h]
  dsimp only
  split <;> rfl

theorem openedBare_told (p : Accumulation) (i : Source) (a : Bool) (d : Option Detail) :
    told (openedBare s p) i a d = told s i a d := by
  rw [openedBare_frame]; rfl

theorem openedBare_cond (p : Accumulation) (i : Source) : (openedBare s p).cond i = s.cond i := by
  rw [openedBare_frame]; rfl

section
variable {s} {p : Accumulation} (h : s.spill.accumulation = some p)
include h

theorem openEpisode_overflow : (openEpisode s).cond .overflowActive =
    told s .overflowActive true (some (.serial (serialOf s.episodes))) := by
  rw [openEpisode_eq s h]
  dsimp only
  split
  · rw [reportFull, cond_report_ne _ _ _ (by decide), cond_report_self, openedBare_told]
  · rw [cond_report_self, openedBare_told]

theorem openEpisode_full (hf : s.episodes.lowestFree.isSome = true) : (openEpisode s).cond .episodeTableFull =
    told s .episodeTableFull (tableOpened s (opening s p)).full none := by
  have hfull : (openedBare s p).episodes.full = (tableOpened s (opening s p)).full := by rw [openedBare_episodes]; rfl
  rw [openEpisode_eq s h]
  dsimp only
  rw [if_pos hf, reportFull, cond_report_self, told_report_ne _ _ _ _ _ (by decide), openedBare_told, report_episodes, hfull]

theorem openEpisode_notFull (hf : s.episodes.lowestFree = none) : (openEpisode s).cond .episodeTableFull =
    s.cond .episodeTableFull := by
  rw [openEpisode_eq s h]
  dsimp only
  rw [if_neg (by simp [hf]), cond_report_ne _ _ _ (by decide), openedBare_cond]

theorem openEpisode_others {i : Source} (ho : i ≠ .overflowActive) (hi : i ≠ .episodeTableFull) :
    (openEpisode s).cond i = s.cond i := by
  rw [openEpisode_eq s h]
  dsimp only
  split
  · rw [reportFull, cond_report_ne _ _ _ hi, cond_report_ne _ _ _ ho, openedBare_cond]
  · rw [cond_report_ne _ _ _ ho, openedBare_cond]

end

/-- The table once the episode is opened in a slot. -/
theorem tableOpened_slot {i : Fin 16} (p : Accumulation) (h : s.episodes.lowestFree = some i) : tableOpened s p =
    { s.episodes.serialTaken.setSlot i
        (some ⟨serialOf s.episodes, .opened, p.start, none, p.tally, 0, s.rain.storm⟩) with inProgress := .slot i } := by
  unfold tableOpened; rw [h]

/-- The table once the episode is opened in the accumulator. -/
theorem tableOpened_accumulator (p : Accumulation) (h : s.episodes.lowestFree = none) : tableOpened s p =
    { s.episodes.serialTaken with acc := s.episodes.acc.take (serialOf s.episodes) p, inProgress := .accumulator } := by
  unfold tableOpened; rw [h]; rfl

/-- What an opening leaves of the table wherever the episode goes. -/
theorem tableOpened_frame (p : Accumulation) : tableOpened s p = { s.episodes.serialTaken with
    slots := (tableOpened s p).slots, acc := (tableOpened s p).acc, inProgress := (tableOpened s p).inProgress } := by
  unfold tableOpened
  cases s.episodes.lowestFree <;> rfl

theorem tableOpened_full {i : Fin 16} (p : Accumulation) (h : s.episodes.lowestFree = some i) :
    (tableOpened s p).full = decide (∀ j : Fin 16, j ≠ i → s.episodes.slots.get j ≠ none) := by
  rw [Bool.eq_iff_iff, full_iff, decide_eq_true_iff, tableOpened_slot s p h]
  simp only [Option.isSome_iff_ne_none]
  refine ⟨fun hall j hj => ?_, fun hall j => ?_⟩
  · have := hall j
    rwa [setSlot_get_ne _ _ hj] at this
  · by_cases hj : j = i
    · subst hj; rw [setSlot_get_self]; simp
    · rw [setSlot_get_ne _ _ hj]; exact hall j hj

/-! ## The settlement (R152) -/

@[simp] theorem settled_mergeTimer (t : EpisodeTable) : t.settled.mergeTimer = none := by
  unfold EpisodeTable.settled; dsimp only; split <;> rfl

@[simp] theorem settled_inProgress (t : EpisodeTable) : t.settled.inProgress = .none := by
  unfold EpisodeTable.settled
  dsimp only
  split
  · assumption
  all_goals rfl

theorem settleEpisode_eq : settleEpisode s = setRain (rainAfter s) (s.setEpisodes s.episodes.settled) := by
  rw [settleEpisode, episodeEnded_eq]; rfl

/-! ## The commands -/

theorem exec_qualifyTimerExpiry {s : State} (hp : s.power = .on) (h : s.episodes.qualifyTimer.isSome = true) :
    exec .qualifyTimerExpiry s = .next (settle (openEpisode s)) := by
  rw [show exec .qualifyTimerExpiry s = execQualifyTimerExpiry s from rfl, execQualifyTimerExpiry, powered_on _ _ hp, if_pos h]

theorem exec_mergeTimerExpiry {s : State} (hp : s.power = .on) (h : s.episodes.mergeTimer.isSome = true) :
    exec .mergeTimerExpiry s = .next (settle (settleEpisode s)) := by
  rw [show exec .mergeTimerExpiry s = execMergeTimerExpiry s from rfl, execMergeTimerExpiry, powered_on _ _ hp, if_pos h]

end Sys2Proof.Machine

open Sys2Proof Sys2Proof.Machine

/-- Settles O38: the table with the episode opened, the Rainfall Unit's record replaced, and the two sources reported. -/
theorem qualifyExpiryOpensTheEpisode : Obligations.QualifyExpiryOpensTheEpisode := by
  intro p s hp hq ha serial tally
  have hframe := (openEpisode_frame s ha).trans
    (congrArg (fun v : State => { v with conditions := (openEpisode s).conditions }) (openedBare_frame s p))
  have hspill : (settle (openEpisode s)).spill = { s.spill with accumulation := none } := by
    rw [settle_spill, hframe]
  have hrain : (settle (openEpisode s)).rain = rainOpened s := by rw [settle_rain, hframe]
  have hepisodes : (settle (openEpisode s)).episodes =
      { tableOpened s (opening s p) with attn := episodeAttn (tableOpened s (opening s p)) } := by
    rw [settle_episodes, hframe]
  have hplant : (settle (openEpisode s)).plant = _ := (settle_plant _).trans (congrArg State.plant hframe)
  have hscreens := openedBare_screens s p
  refine ⟨_, _, exec_qualifyTimerExpiry hp hq, rfl, hspill, hrain, ?_, ?_, ?_, ?_, fun i hi hlow => ?_, fun hall => ?_, ?_, ?_,
    ?_, ?_, openEpisode_overflow ha, fun i hi hlow => ?_, fun hall => openEpisode_notFull ha (lowestFree_full hall),
    fun i ho hi => openEpisode_others ha ho hi⟩
  · rw [hspill, hrain, hepisodes, hplant]; rfl
  · rw [hepisodes, tableOpened_frame]; rfl
  · rw [hepisodes, tableOpened_frame]; rfl
  · rw [hepisodes, tableOpened_frame]; rfl
  · rw [hepisodes, tableOpened_slot s _ (lowestFree_of_free hi hlow)]
    exact ⟨rfl, setSlot_get_self _ _ _, fun j hj => setSlot_get_ne _ _ hj, rfl⟩
  · rw [hepisodes, tableOpened_accumulator s _ (lowestFree_full hall)]
    exact ⟨rfl, rfl, take_eq _ _ _⟩
  · rw [hepisodes, tableOpened_frame]; rfl
  · rw [hepisodes]; rfl
  · rw [hspill, hrain, hepisodes]
    exact hframe.trans (by rw [openEpisode_frame s ha])
  · split at hscreens
    · rw [if_pos ‹_›, openEpisode_frame s ha]; exact hscreens
    · rw [if_neg ‹_›]
      exact stormPasses_congr hscreens rfl rfl rfl (by rw [openEpisode_frame s ha])
  · rw [← tableOpened_full s (opening s p) (lowestFree_of_free hi hlow)]
    exact openEpisode_full ha (by rw [lowestFree_of_free hi hlow]; rfl)

/-- Settles O40: the table settled, and the Rainfall Unit's record replaced by the notice that the episode has ended. -/
theorem mergeExpirySettlesTheEpisode : Obligations.MergeExpirySettlesTheEpisode := by
  intro s hp hm
  have hepisodes : (settle (settleEpisode s)).episodes =
      { s.episodes.settled with attn := episodeAttn s.episodes.settled } := by
    rw [settle_episodes, settleEpisode_eq, setRain_episodes]; rfl
  have hrain : (settle (settleEpisode s)).rain = Spec.rainAfter s := by rw [settle_rain, settleEpisode_eq, setRain_rain]
  have hscreens := setRain_screens (s.setEpisodes s.episodes.settled) (Spec.rainAfter s)
  refine ⟨_, _, exec_mergeTimerExpiry hp hm, rfl, ?_, ?_, hrain, ?_, fun i e hi he => ?_, fun q f hi hq hf => ?_, ?_, ?_⟩
  · rw [hepisodes]; exact settled_mergeTimer _
  · rw [hepisodes]; exact settled_inProgress _
  · rw [hrain, hepisodes, settle_plant, settleEpisode_eq, setRain_plant]; rfl
  · rw [hepisodes, settled_slot hi he]
    exact ⟨setSlot_get_self _ _ _, fun j hj => setSlot_get_ne _ _ hj, rfl⟩
  · rw [hepisodes, settled_accumulator hi hq hf]
    exact ⟨rfl, rfl⟩
  · rw [hrain, hepisodes, settleEpisode_eq]
    exact setRain_frame _ _
  · rw [hrain, settleEpisode_eq]
    split at hscreens
    · rw [if_pos (by assumption)]; exact hscreens
    · rw [if_neg (by assumption)]; exact stormPasses_congr hscreens rfl rfl rfl rfl
end

section
/-! PROOFS. What an input's owner leaves alone (R26), and the storm law (R31, R34): what of it each command reads and writes. -/

namespace Sys2Proof.Machine

/-! ## What no owner of an input moves -/

/-- The blocks that no owner of a contact input writes when it hears of a change. -/
structure Still where
  store : Store
  clock : Clock
  contacts : Contacts
  channels : Channels
  rain : Rain
  episodes : EpisodeTable
  line : Line

/-- What no owner of an input moves. -/
def Plant.still (p : Plant) : Still := ⟨p.store, p.clock, p.contacts, p.channels, p.rain, p.episodes, p.line⟩

section
variable (s : State)

@[simp] theorem withSupply_still (x : Supply) : ({ s with supply := x } : State).plant.still = s.plant.still := rfl
@[simp] theorem withSpill_still (x : Spill) : ({ s with spill := x } : State).plant.still = s.plant.still := rfl
@[simp] theorem withConditions_still (x : Conditions) : ({ s with conditions := x } : State).plant.still = s.plant.still := rfl
@[simp] theorem setAuthority_still (a : Authority) : (s.setAuthority a).plant.still = s.plant.still := rfl
@[simp] theorem acknowledgeAll_still : (acknowledgeAll s).plant.still = s.plant.still := rfl

/-! The Supply Monitor -/

@[simp] theorem recomputeLimit_still : (recomputeLimit s).plant.still = s.plant.still := by
  unfold recomputeLimit; dsimp only; split <;> [simp; (split <;> simp)]
@[simp] theorem enterNone_still : (enterNone s).plant.still = s.plant.still := by simp [enterNone]
@[simp] theorem changeSupply_still (n : SupplyState) : (changeSupply n s).plant.still = s.plant.still := by
  unfold changeSupply; dsimp only; split <;> simp
@[simp] theorem decideSupply_still : (decideSupply s).plant.still = s.plant.still := by
  unfold decideSupply; dsimp only; split <;> simp
@[simp] theorem mainsChange_still (on : Bool) : (mainsChange on s).plant.still = s.plant.still := by simp [mainsChange]
@[simp] theorem generatorChange_still (on : Bool) : (generatorChange on s).plant.still = s.plant.still := by
  simp [generatorChange]
@[simp] theorem restoreExpired_still : (restoreExpired s).plant.still = s.plant.still := by simp [restoreExpired]
@[simp] theorem limitWritten_still : (limitWritten s).plant.still = s.plant.still := by
  unfold limitWritten; dsimp only; split <;> simp

/-! The Authority Monitor -/

@[simp] theorem dropAuthority_still : (dropAuthority s).plant.still = s.plant.still := rfl
@[simp] theorem forScreens_inhibitOff_plant : (forScreens inhibitOff s).plant = s.plant :=
  forScreens_view s State.plant _ fun x t => inhibitOff_plant t x
@[simp] theorem lapse_plant : (lapse s).plant = s.plant := by
  have h := (forScreens_inhibitOff_plant (cancelForced s)).trans (cancelForced_plant s)
  unfold lapse
  generalize forScreens inhibitOff (cancelForced s) = t at h ⊢
  exact h
@[simp] theorem permitChange_still (on : Bool) : (permitChange on s).plant.still = s.plant.still := by
  unfold permitChange; dsimp only; split <;> split <;> simp

/-! The inputs -/

/-- An input's owner moves none of it. -/
@[simp] theorem handSwitch_still (w : Switch) (v : Bool) : (handSwitch w v s).plant.still = s.plant.still := by
  cases w <;> simp only [handSwitch] <;> (try split) <;> simp

end

end Sys2Proof.Machine
end

section
/-! PROOFS. The storm law kept by every step (R31, R34). -/

namespace Sys2Proof.Machine

/-! ## What the storm law reads -/

/-- What the storm law reads of a state: the Rainfall Unit's record, and where the episode in progress stands. -/
def Plant.weather (p : Plant) : Rain × InProgress := (p.rain, p.episodes.inProgress)

theorem weather_of_still {s t : State} (h : t.plant.still = s.plant.still) : t.plant.weather = s.plant.weather :=
  congrArg (fun v : Still => (v.rain, v.episodes.inProgress)) h

/-- A Rainfall Unit's record as the storm law has it beside an episode in progress (R31, R34). -/
def Rain.Lawful (r : Rain) (place : InProgress) : Prop :=
  r.episodeFlag = (place != .none) ∧ (r.episodeFlag = true → r.storm = .storm) ∧ r.closedBins.length = 60

/-- The storm law is a law of what it reads. -/
theorem State.StormLawful.of_weather {s t : State} (hs : s.StormLawful) (h : t.plant.weather = s.plant.weather) :
    t.StormLawful := by
  obtain ⟨hr, hi⟩ : t.rain = s.rain ∧ t.episodes.inProgress = s.episodes.inProgress := Prod.mk.inj h
  unfold State.StormLawful
  rw [hr, hi]
  exact hs

/-- A record replaced is all the storm law asks of. -/
theorem stormLawful_setRain {r : Rain} {s : State} (h : r.Lawful s.episodes.inProgress) : (setRain r s).StormLawful := by
  unfold State.StormLawful
  rw [setRain_rain, setRain_episodes]
  exact h

section
variable (s : State)

/-! ## The blocks' own operations -/

@[simp] theorem withSpill_weather (x : Spill) : ({ s with spill := x } : State).plant.weather = s.plant.weather := rfl
@[simp] theorem setLine_weather (l : Line) : (s.setLine l).plant.weather = s.plant.weather := rfl
@[simp] theorem modPending_weather (f : Tally → Tally) : (s.modPending f).plant.weather = s.plant.weather := rfl
@[simp] theorem modCond_weather (i : Source) (f : CondRec → CondRec) : (s.modCond i f).plant.weather = s.plant.weather := rfl

@[simp] theorem modProgress_inProgress (t : EpisodeTable) (f : Tally → Tally) :
    (t.modProgress f).inProgress = t.inProgress := by
  unfold EpisodeTable.modProgress; split <;> rfl
@[simp] theorem setProgress_inProgress (t : EpisodeTable) (closing : Bool) (finish : Option Nat) :
    (t.setProgress closing finish).inProgress = t.inProgress := by
  unfold EpisodeTable.setProgress; split <;> rfl
@[simp] theorem countMerge_inProgress (t : EpisodeTable) : t.countMerge.inProgress = t.inProgress := by
  unfold EpisodeTable.countMerge; split <;> rfl

/-- The Episode Table written with the episode in progress where it was. -/
theorem setEpisodes_weather {t : EpisodeTable} (h : t.inProgress = s.episodes.inProgress) :
    (s.setEpisodes t).plant.weather = s.plant.weather := congrArg (Prod.mk s.rain) h

@[simp] theorem modProgress_weather (f : Tally → Tally) : (s.modProgress f).plant.weather = s.plant.weather :=
  setEpisodes_weather s (modProgress_inProgress _ f)
@[simp] theorem episodeTip_inProgress : (episodeTip s).episodes.inProgress = s.episodes.inProgress := by
  unfold episodeTip; split <;> [rfl; exact modProgress_inProgress _ _]
@[simp] theorem beginQualification_weather : (beginQualification s).plant.weather = s.plant.weather := rfl
@[simp] theorem discardQualification_weather : (discardQualification s).plant.weather = s.plant.weather := rfl
@[simp] theorem resumeEpisode_weather : (resumeEpisode s).plant.weather = s.plant.weather := by
  unfold resumeEpisode
  dsimp only
  rw [reportOverflow_plant, post_plant]
  exact setEpisodes_weather s (by simp)
@[simp] theorem takeSpill_weather : (takeSpill s).1.plant.weather = s.plant.weather := by
  unfold takeSpill; split
  · rfl
  · split <;> simp

end

/-! ## Tips, the bin close and the dry timer -/

/-- The judgement of the storm state ends STORM with no episode in progress alone (R36). -/
theorem stormJudged_lawful {s : State} {place : InProgress} (h : s.rain.Lawful place) : (stormJudged s).Lawful place := by
  have hrain := h
  obtain ⟨hflag, hstorm, hbins⟩ := h
  cases hst : s.rain.storm with
  | dry => rw [stormJudged_dry s hst]; exact hrain
  | wet =>
    rw [stormJudged_wet s hst]
    split
    · exact ⟨hflag, fun _ => rfl, hbins⟩
    · exact hrain
  | storm =>
    rw [stormJudged_storm s hst]
    generalize (if s.rain.intensity < s.itemNat 2 3 then min 255 (s.rain.quiet + 1) else 0) = quiet
    dsimp only
    split
    · rename_i hexit
      exact ⟨hflag, fun hf => absurd (hexit.2.symm.trans hf) (by decide), hbins⟩
    · exact ⟨hflag, hstorm, hbins⟩

section
variable {s : State} (hs : s.StormLawful)
include hs

theorem countTip_stormLawful : (countTip s).StormLawful := by
  obtain ⟨hflag, hstorm, hbins⟩ := hs
  rw [countTip_eq]
  refine stormLawful_setRain ⟨by rw [episodeTip_inProgress]; exact hflag, fun h => ?_, hbins⟩
  show (if s.rain.storm = .dry then StormState.wet else s.rain.storm) = .storm
  rw [if_neg (by rw [hstorm h]; decide), hstorm h]

theorem closeBin_stormLawful : (closeBin s).StormLawful := by
  obtain ⟨hflag, hstorm, hbins⟩ := hs
  rw [closeBin_eq]
  exact stormLawful_setRain (stormJudged_lawful ⟨hflag, hstorm, by simp [binClosed, hbins]⟩)

theorem dryOut_stormLawful : (dryOut s).StormLawful := by
  obtain ⟨hflag, hstorm, hbins⟩ := hs
  rw [dryOut_eq]
  refine stormLawful_setRain ⟨hflag, fun h => ?_, hbins⟩
  show (if s.rain.storm = .wet then StormState.dry else s.rain.storm) = .storm
  rw [if_neg (by rw [hstorm h]; decide), hstorm h]

/-! ## Episodes -/

theorem settleEpisode_stormLawful : (settleEpisode s).StormLawful := by
  rw [settleEpisode_eq]
  refine stormLawful_setRain ⟨?_, fun h => ?_, hs.2.2⟩
  · rw [setEpisodes_inProgress, settled_inProgress]; rfl
  · exact absurd (show false = true from h) (by decide)

theorem openEpisode_stormLawful : (openEpisode s).StormLawful := by
  cases hp : s.spill.accumulation with
  | none => unfold openEpisode; rw [hp]; exact hs
  | some p =>
    have hbare : (openedBare s p).StormLawful := by
      refine State.StormLawful.of_weather (stormLawful_setRain ?_) (congrArg Plant.weather (post_plant _ _))
      refine ⟨?_, fun _ => rfl, hs.2.2⟩
      show true = ((tableOpened s (opening s p)).inProgress != .none)
      unfold tableOpened
      cases s.episodes.lowestFree <;> rfl
    rw [openEpisode_frame s hp]
    exact hbare.of_weather rfl

theorem closeEpisode_stormLawful : (closeEpisode s).StormLawful := by
  have hclosing : (s.setEpisodes (s.episodes.setProgress true (some s.clock.time))).StormLawful :=
    hs.of_weather (setEpisodes_weather s (setProgress_inProgress _ _ _))
  unfold closeEpisode
  dsimp only
  refine State.StormLawful.of_weather (s := if s.itemNat 6 37 = 0 then settleEpisode _ else State.setEpisodes _ _) ?_
    (congrArg Plant.weather ((reportOverflow_plant _).trans (post_plant _ _)))
  split
  · exact settleEpisode_stormLawful hclosing
  · exact hclosing.of_weather (setEpisodes_weather _ rfl)

theorem takeEnded_stormLawful : (takeEnded s).StormLawful := by
  unfold takeEnded
  split
  · exact hs.of_weather (discardQualification_weather s)
  · split
    · exact closeEpisode_stormLawful hs
    · exact hs

theorem takeSecond_stormLawful (r : SpillSecond) : (takeSecond r s).StormLawful := by
  have hspill : (takeSpill s).1.StormLawful := hs.of_weather (takeSpill_weather s)
  unfold takeSecond
  dsimp only
  split
  · split <;> rename_i heq <;> rw [heq] at hspill
    · exact hspill.of_weather (modPending_weather _ _)
    · exact hspill.of_weather (modProgress_weather _ _)
    · exact hspill
  · have hended : (if r.before then takeEnded s else s).StormLawful := by
      split
      · exact takeEnded_stormLawful hs
      · exact hs
    split
    · exact hended.of_weather (modProgress_weather _ _)
    · exact hended

theorem integrate_stormLawful : (integrate s).StormLawful := by
  have hspill (m : Spill) : ({ s with spill := m } : State).StormLawful := hs.of_weather (withSpill_weather s m)
  unfold integrate
  dsimp only
  split
  · exact takeSecond_stormLawful (hspill _) _
  · exact (takeSecond_stormLawful (hspill _) _).of_weather (congrArg Plant.weather (report_plant _ _ _ _))

end

/-- A restart brings the law whatever stood before (R42, R158, R159). -/
theorem restart_stormLawful (cause : RestartCause) (s : State) : (restart cause s).StormLawful := by
  unfold State.StormLawful
  rw [restart_rain_eq]
  refine ⟨rfl, fun h => ?_, List.length_replicate⟩
  exact if_neg (by simpa using h)

end Sys2Proof.Machine
end

section
/-! PROOFS. The storm law at the owners of the requests, and over a step (R31, R34). -/

namespace Sys2Proof.Machine

/-! ## The owners' answers -/

/-- An owner whose answer leaves the rain and the place of the episode in progress alone. -/
def LeavesWeather (act : State → Answer) : Prop := ∀ s, (act s).state.plant.weather = s.plant.weather

theorem privileged_leavesWeather (ans : Nat) {act : State → Answer} (h : LeavesWeather act) :
    LeavesWeather (privileged ans act) := by
  have hgrant (s : State) : (grantAuthority s).plant.weather = s.plant.weather := rfl
  have hlapse (s : State) : (lapse (countFailure s)).plant.weather = s.plant.weather := by rw [lapse_plant]; rfl
  intro s
  unfold privileged
  split
  · rfl
  · rfl
  · split
    · exact (h _).trans (hgrant s)
    · exact hlapse s
  · rfl

theorem readRecords_leavesWeather (size : Nat) (record : State → Nat → List Byte) (start count : Nat) :
    LeavesWeather fun s => readRecords size (record s) start count s := by
  intro s; unfold readRecords; dsimp only; repeat' split
  all_goals rfl

theorem readSettings_leavesWeather (table start count : Nat) : LeavesWeather (readSettings table start count) := by
  intro s; unfold readSettings; split
  · rfl
  · exact readRecords_leavesWeather _ (fun s i => signed (s.item table i)) start count s

theorem ackCondition_leavesWeather (i n : Nat) : LeavesWeather (ackCondition i n) := by
  intro s; unfold ackCondition; split <;> [rfl; (split <;> rfl)]

theorem shelve_leavesWeather (i m : Nat) : LeavesWeather (shelve i m) := by
  intro s; unfold shelve; repeat' split
  all_goals rfl

theorem unshelve_leavesWeather (i : Nat) : LeavesWeather (unshelve i) := by
  intro s; unfold unshelve; split <;> rfl

theorem pumpService_leavesWeather (b v : Nat) : LeavesWeather (pumpService b v) := by
  intro s; unfold pumpService; repeat' split
  all_goals simp [Answer.refuse, Answer.done]

theorem pumpForce_leavesWeather (b m : Nat) : LeavesWeather (pumpForce b m) := by
  intro s; unfold pumpForce; repeat' split
  all_goals simp [Answer.refuse, Answer.done]

theorem pumpReset_leavesWeather (b : Nat) : LeavesWeather (pumpReset b) := by
  intro s; unfold pumpReset; repeat' split
  all_goals simp [Answer.refuse, Answer.done]

theorem screenRake_leavesWeather (x : Nat) : LeavesWeather (screenRake x) := by
  intro s; unfold screenRake; repeat' split
  all_goals simp [Answer.refuse]

theorem screenInhibit_leavesWeather (x v : Nat) : LeavesWeather (screenInhibit x v) := by
  intro s; unfold screenInhibit; repeat' split
  all_goals simp [Answer.refuse, Answer.done]

theorem screenReset_leavesWeather (x : Nat) : LeavesWeather (screenReset x) := by
  intro s; unfold screenReset; repeat' split
  all_goals simp [Answer.refuse, Answer.done]

theorem retireEpisode_leavesWeather (i n : Nat) : LeavesWeather (retireEpisode i n) := by
  intro s; unfold retireEpisode; repeat' split
  all_goals rfl

theorem retireAccumulator_leavesWeather (n : Nat) : LeavesWeather (retireAccumulator n) := by
  intro s; unfold retireAccumulator; repeat' split
  all_goals rfl

theorem openAuthority_leavesWeather : LeavesWeather openAuthority := by
  intro s; unfold openAuthority; repeat' split
  all_goals rfl

theorem answerChallenge_leavesWeather (v : Nat) : LeavesWeather (answerChallenge v) := by
  intro s; unfold answerChallenge; repeat' split
  all_goals first | rfl | (rw [Answer.refuse, lapse_plant]; rfl)

theorem releaseAuthority_leavesWeather : LeavesWeather releaseAuthority := by
  intro s; unfold releaseAuthority; repeat' split
  all_goals first | rfl | (rw [Answer.done, lapse_plant]; rfl)

theorem restartRequest_leavesWeather : LeavesWeather restartRequest := by
  intro s; unfold restartRequest; split <;> rfl

theorem commitSettings_leavesWeather : LeavesWeather commitSettings := by
  intro s; unfold commitSettings; split <;> rfl

theorem clearChannel_leavesWeather (i : Nat) : LeavesWeather (clearChannel i) := by
  intro s; unfold clearChannel; split <;> [rfl; (split <;> rfl)]

theorem writeEffects_weather (table item : Nat) (s : State) :
    (writeEffects table item s).plant.weather = s.plant.weather := by
  unfold writeEffects
  split
  · split <;> rfl
  · split
    · exact weather_of_still (limitWritten_still s)
    · rfl

theorem writeSetting_leavesWeather (table item : Nat) (value : Int) : LeavesWeather (writeSetting table item value) := by
  intro s
  unfold writeSetting writeItem
  dsimp only
  repeat' split
  all_goals first | rfl | exact writeEffects_weather _ _ _

/-- CLEAR_RAIN writes no part of the record that the storm law reads (R39). -/
theorem clearRain_stormLawful {s : State} (hs : s.StormLawful) : (clearRain s).state.StormLawful := hs

theorem LeavesWeather.lawful {act : State → Answer} (h : LeavesWeather act) {s : State} (hs : s.StormLawful) :
    (act s).state.StormLawful := hs.of_weather (h s)

/-- Every owner's answer keeps the storm law. -/
theorem ownerAnswer_stormLawful (i : Instr) (s : State) (hs : s.StormLawful) : (ownerAnswer i s).state.StormLawful := by
  cases i with
  | clearRain => exact clearRain_stormLawful hs
  | readChannels st c => exact (readRecords_leavesWeather 4 channelChars st c).lawful hs
  | readConditions st c => exact (readRecords_leavesWeather 25 conditionChars st c).lawful hs
  | readPumps st c => exact (readRecords_leavesWeather 4 pumpChars st c).lawful hs
  | readScreens st c => exact (readRecords_leavesWeather 2 screenChars st c).lawful hs
  | readEpisodes st c => exact (readRecords_leavesWeather 16 episodeChars st c).lawful hs
  | readSettings t st c => exact (readSettings_leavesWeather t st c).lawful hs
  | ackCondition i n => exact (ackCondition_leavesWeather i n).lawful hs
  | screenRake x => exact (screenRake_leavesWeather x).lawful hs
  | retireEpisode i n => exact (retireEpisode_leavesWeather i n).lawful hs
  | retireAccumulator n => exact (retireAccumulator_leavesWeather n).lawful hs
  | openAuthority => exact openAuthority_leavesWeather.lawful hs
  | answer v => exact (answerChallenge_leavesWeather v).lawful hs
  | releaseAuthority => exact releaseAuthority_leavesWeather.lawful hs
  | shelve a i m => exact (privileged_leavesWeather a (shelve_leavesWeather i m)).lawful hs
  | unshelve a i => exact (privileged_leavesWeather a (unshelve_leavesWeather i)).lawful hs
  | pumpService a b v => exact (privileged_leavesWeather a (pumpService_leavesWeather b v)).lawful hs
  | pumpForce a b m => exact (privileged_leavesWeather a (pumpForce_leavesWeather b m)).lawful hs
  | pumpReset a b => exact (privileged_leavesWeather a (pumpReset_leavesWeather b)).lawful hs
  | screenInhibit a x v => exact (privileged_leavesWeather a (screenInhibit_leavesWeather x v)).lawful hs
  | screenReset a x => exact (privileged_leavesWeather a (screenReset_leavesWeather x)).lawful hs
  | restart a => exact (privileged_leavesWeather a restartRequest_leavesWeather).lawful hs
  | writeSetting a t i v => exact (privileged_leavesWeather a (writeSetting_leavesWeather t i v)).lawful hs
  | commitSettings a => exact (privileged_leavesWeather a commitSettings_leavesWeather).lawful hs
  | clearChannel a i => exact (privileged_leavesWeather a (clearChannel_leavesWeather i)).lawful hs
  | _ => exact hs.of_weather rfl

/-! ## The step -/

theorem settle_stormLawful {s : State} (hs : s.StormLawful) : (settle s).StormLawful :=
  hs.of_weather (congrArg Plant.weather (settle_plant s))

theorem stormLawful_keptOnLine : KeptOnLine State.StormLawful where
  line _ _ hs := hs
  linkLost _ _ hs := hs
  clock _ _ hs := hs
  settle _ hs := settle_stormLawful hs
  restart _ _ := restart_stormLawful _ _
  owner := ownerAnswer_stormLawful

theorem filterExpires_weather (i : Input) (s : State) : (filterExpires i s).plant.weather = s.plant.weather := by
  unfold filterExpires
  split <;> split
  · rfl
  · rw [settle_plant]; exact (weather_of_still (handSwitch_still _ _ _)).trans rfl
  · rfl
  · rw [settle_plant, selectorChange_plant]; rfl

theorem loseSupply_weather (s : State) : (loseSupply s).plant.weather = s.plant.weather := by
  unfold loseSupply cutCommit
  split
  · rfl
  · split <;> rfl

theorem sampleArrives_weather (s : State) (c : Channel) (i : Nat) :
    (sampleArrives c i s).plant.weather = s.plant.weather := by rw [sampleArrives_plant]; rfl

theorem restoreExpired_weather (s : State) : (restoreExpired s).plant.weather = s.plant.weather :=
  weather_of_still (restoreExpired_still s)

/-- A command that is no request keeps the storm law. -/
theorem event_stormLawful {c : Instr} (hc : c.request = none) {s t : State} (hs : s.StormLawful)
    (h : exec c s = .next t) : t.StormLawful := by
  have timed {p : State → Prop} [DecidablePred p] {f g : State → State}
      (h : powered (fun s => if p s then f s else g s) s = .next t) (hf : (f s).StormLawful) (hg : (g s).StormLawful) :
      t.StormLawful := by
    refine powered_keeps (fun _ => ?_) hs h
    split <;> assumption
  have still {f : State → State} (h : powered f s = .next t) (hf : (f s).plant.weather = s.plant.weather) :
      t.StormLawful := powered_keeps (fun _ => hs.of_weather hf) hs h
  cases c with
  | coldStart => cases h; exact restart_stormLawful _ _
  | warmSupplyRestart => cases h; exact restart_stormLawful _ _
  | supplyLoss => cases h; exact hs.of_weather (loseSupply_weather s)
  | rawContactChange c v => cases c <;> (cases h; exact hs)
  | filterTimerExpiry i => exact still h (filterExpires_weather i s)
  | tipArrival =>
    unfold exec execTipArrival at h
    exact timed h hs (settle_stormLawful (countTip_stormLawful hs))
  | bounceTimerExpiry => cases h; split <;> exact hs
  | binClose =>
    unfold exec execBinClose at h
    exact timed h (settle_stormLawful (closeBin_stormLawful hs)) hs
  | dryTimerExpiry =>
    unfold exec execDryTimerExpiry at h
    refine timed h hs ?_
    split
    · exact hs
    · exact settle_stormLawful (dryOut_stormLawful hs)
  | integrationTimerExpiry =>
    unfold exec execIntegrationTimerExpiry at h
    exact timed h (settle_stormLawful (integrate_stormLawful hs)) hs
  | qualifyTimerExpiry =>
    unfold exec execQualifyTimerExpiry at h
    exact timed h (settle_stormLawful (openEpisode_stormLawful hs)) hs
  | mergeTimerExpiry =>
    unfold exec execMergeTimerExpiry at h
    exact timed h (settle_stormLawful (settleEpisode_stormLawful hs)) hs
  | replySent =>
    unfold exec execReplySent at h
    exact timed h (stormLawful_keptOnLine.replyEnds hs) hs
  | receiveCharacter c => exact powered_keeps (stormLawful_keptOnLine.receive c) hs h
  | lineBreak => exact powered_keeps stormLawful_keptOnLine.lineError hs h
  | sampleArrival c i => exact still h (by split <;> [exact sampleArrives_weather s c i; rfl])
  | restoreTimerExpiry =>
    exact still h (by split <;> [(rw [settle_plant]; exact restoreExpired_weather s); rfl])
  | commitCompletion | clockSecondExpiry | turnaroundTimerExpiry | gapLimitExpiry => exact still h (by split <;> rfl)
  | stopConfirmTimerExpiry _ => exact still h (by split <;> [(split <;> simp); rfl])
  | rosterSecondTimerExpiry | rampTimerExpiry | gapTimerExpiry | feedbackLossTimerExpiry _ | minRunTimerExpiry _
  | minRestTimerExpiry _ | restartHoldExpiry | changeoverTimerExpiry _ | intervalTimerExpiry _ | strokeTimerExpiry _
  | clearTimerExpiry _ | shelveTimerExpiry _ | linkTimerExpiry => exact still h (by split <;> simp)
  | answerWindowExpiry => exact still h (by split <;> rfl)
  | supervisionTimerExpiry =>
    exact still h (by split <;> [(rw [settle_plant, lapse_plant]; rfl); rfl])
  | _ => simp [Instr.request] at hc

/-- The passing of a millisecond keeps the storm law. -/
theorem passMillisecond_stormLawful {s : State} (hs : s.StormLawful) : (passMillisecond s).StormLawful := hs

end Sys2Proof.Machine

open Sys2Proof.Machine

/-- Settles O13, by the law of what each command leaves of the rain and of the episode in progress: an exit from STORM is made
with no episode in progress, an opening and a settlement set the flag with the Episode Table, and a restart sets both anew. -/
theorem stormLawIsKept : Obligations.StormLawIsKept := by
  intro s t hs h
  unfold step at h
  split at h
  · exact powered_keeps passMillisecond_stormLawful hs h
  · rename_i rest _
    have hs' : ({ s with pending := rest } : State).StormLawful := hs
    exact stormLawful_keptOnLine.exec (fun hc => event_stormLawful hc hs') hs' h
end

section
/-! PROOFS. The filter of a contact input at a change of its raw value (R24, R25). -/

namespace Sys2Proof.Machine

/-- The filter of an input as the part has supply (R25). -/
theorem Filtered.move_on {α : Type} [DecidableEq α] (time : Nat) (v : α) (r : Filtered α) :
    r.move .on time v = if r.raw = v then r else Spec.filtering time v r := by
  unfold Filtered.move Filtered.change Spec.filtering
  split
  · rfl
  · dsimp only; split <;> rfl

/-- The filter time of an input's group (R23, R41). -/
theorem filterTime_eq (s : State) (w : Switch) : Spec.filterTime s w = s.itemNat 2 w.filterItem := by
  cases w <;> rfl

/-- The position of a bay selector (R24). -/
theorem decodeSelector_eq (h a : Bool) :
    decodeSelector h a = if h && !a then .hand else if a && !h then .auto else .off := by
  cases h <;> cases a <;> rfl

end Sys2Proof.Machine

open Sys2Proof.Machine

/-- Settles O9: the filter of an input that has supply, and the position its bay's two contacts make. -/
theorem rawChangeRunsTheFilter : Obligations.RawChangeRunsTheFilter := by
  refine ⟨fun w v s hp hv => ?_, fun b v s hp => ⟨?_, ?_⟩⟩
  · rw [show exec (.rawContactChange (.switch w) v) s = execRawContactChange (.switch w) v s from rfl,
      execRawContactChange, hp, Filtered.move_on, if_neg hv, filterTime_eq]
  · rw [show exec (.rawContactChange (.selectorH b) v) s = execRawContactChange (.selectorH b) v s from rfl,
      execRawContactChange, moveSelector]
    simp only [PerBay.get_put_self, decodeSelector_eq, hp, Filtered.move_on]
    rfl
  · rw [show exec (.rawContactChange (.selectorA b) v) s = execRawContactChange (.selectorA b) v s from rfl,
      execRawContactChange, moveSelector]
    simp only [PerBay.get_put_self, decodeSelector_eq, hp, Filtered.move_on]
    rfl
end

section
/-! PROOFS. The single records of the line (R40, R156, R180, R186). -/

namespace Sys2Proof.Machine

section
open Sys2Proof.Spec

/-! ## The codes of the status record (R186) -/

theorem causeCode (c : RestartCause) : 1 + codeIn [.cold, .warmRequest, .warmSupply] c = c.code := by cases c <;> rfl
theorem supplyCode (st : SupplyState) : codeIn [.none, .mains, .generator] st = st.code := by cases st <;> rfl
theorem profileCode (p : Profile) : codeIn [.normal, .storm] p = p.code := by cases p <;> rfl
theorem starterCode (st : StarterState) : codeIn [.idle, .ramping, .gap, .faulted] st = st.code := by cases st <;> rfl

theorem heldCode (b : Option Bay) : number 1 (codeIn [none, some .b1, some .b2, some .b3, some .b4] b) = [heldChar b] := by
  rw [number_one]
  rcases b with - | b
  · rfl
  · cases b <;> rfl

theorem bayList_eq (l : List Bay) : bayList l = bayNumbers l := rfl

theorem bayNumbers_length (l : List Bay) : (bayNumbers l).length = 4 := by simp [bayNumbers]

theorem slots_toList {α : Type} (v : Vector α 16) : v.toList = slotNumbers.map v.get := by
  rw [show slotNumbers = List.finRange 16 by decide]
  exact List.ext_getElem (by simp) fun i h _ => by simp [Vector.get]

theorem occupied_eq (t : EpisodeTable) : (t.slots.toList.filter Option.isSome).length = t.occupied := by
  rw [slots_toList, List.filter_map, List.length_map]; rfl

/-- Where the episode in progress stands, in the code of R186. -/
theorem inProgress_char (p : InProgress) : p.char = byte (match p with
    | .none => 255
    | .slot i => i
    | .accumulator => 16) := by
  cases p <;> rfl

/-- The state of the episode in progress, in the code of R186. -/
theorem progressState_char (t : EpisodeTable) : progressChar t.progressState = byte (match t.inProgress with
    | .none => 0
    | .slot i => match t.slots.get i with
      | none => 0
      | some e => codeIn [.closed, .opened, .closing] e.state
    | .accumulator => match t.acc.current with
      | none => 0
      | some p => if p.closing = true then 2 else 1) := by
  have hstate (st : EpisodeState) : progressChar (some st) = byte (codeIn [.closed, .opened, .closing] st) := by
    cases st <;> rfl
  rw [EpisodeTable.progressState]
  cases t.inProgress with
  | none => rfl
  | slot i =>
    cases hi : t.slots.get i with
    | none => simp only [hi]; rfl
    | some e => simp only [hi]; exact hstate e.state
  | accumulator =>
    cases t.acc.current with
    | none => rfl
    | some p => cases hp : p.closing <;> simp [hp, progressChar]

/-! ## The records (R40, R156, R186) -/

theorem statusChars_eq (s : State) : statusChars s = statusRecord s s.presentFlow := by
  have hprobe : decide (s.spill.basis = .probe) = (s.spill.basis == .probe) := rfl
  unfold statusRecord statusChars
  simp only [flags_eq, causeCode, supplyCode, profileCode, starterCode, stormCode, healthCode, heldCode, occupied_eq,
    signedNumber_eq, hprobe, bayList_eq]
  simp only [number_one, number_two, number_four, List.append_assoc, List.cons_append, List.nil_append]
  congr
  · exact inProgress_char _
  · exact progressState_char _

theorem presentFlow_length (s : State) : s.presentFlow.length = 2 := by
  unfold State.presentFlow; split <;> [(split <;> rfl); rfl]

theorem statusRecord_length (s : State) {flow : List Byte} (h : flow.length = 2) : (statusRecord s flow).length = 51 := by
  unfold statusRecord
  simp only [List.length_append, number_length, signedNumber_length, bayNumbers_length, h]
  cases s.spill.accumulation <;> simp only [List.length_append, number_length]

theorem accumulatorChars_eq (a : Accumulator) : accumulatorChars a = accumulatorRecord a := by
  simp only [accumulatorRecord, causeFlags, recordFlags, number_flags, signedNumber_eq]
  simp only [number_one, number_two, number_four, List.append_assoc, List.cons_append, List.nil_append]
  cases hc : a.current <;>
    simp only [accumulatorChars, progressChars, hc, List.append_assoc, List.cons_append, List.nil_append] <;> rfl

theorem accumulatorRecord_length (a : Accumulator) : (accumulatorRecord a).length = 45 := by
  cases hc : a.current <;>
    simp only [accumulatorRecord, hc, List.length_append, number_length, signedNumber_length]

theorem rainChars_eq (r : Rain) :
    rainChars r = number 4 r.total ++ number 4 r.clearedAt ++ number 2 r.intensity ++
      number 1 (codeIn stormCodes r.storm) ++ number 1 r.quiet ++ number 1 r.openBin ++
      r.closedBins.map fun n => BitVec.ofNat 8 n := by
  simp only [number_one, number_two, number_four, stormCode]
  simp only [rainChars, List.append_assoc, List.cons_append, List.nil_append]
  rfl

/-! ## The answers -/

/-- A request whose owner leaves no notice is replied to from the state the owner leaves. -/
theorem addressed_quiet {s : State} (h : s.ready) (code : Nat) (act : State → Answer)
    (hq : (act s.heard).state.inbox = []) :
    addressed code act s =
      .next ((act s.heard).state.replying code (act s.heard).status (act s.heard).payload) := by
  rw [addressed_ready s code act h, enterTurnaround_quiet _ _ hq]

theorem State.ready.inbox_eq {s : State} (h : s.ready) : s.heard.inbox = [] := h.1.2

end

end Sys2Proof.Machine

open Sys2Proof Sys2Proof.Machine

/-- Settles O49, record by record: the model's characters are the record's as R186 lays it out, and each read is answered from
the state heard. -/
theorem singleRecordsAreAnswered : Obligations.SingleRecordsAreAnswered := by
  refine ⟨fun s hs => ?_, fun s => ⟨s.presentFlow, presentFlow_length s, statusChars_eq s, ?_, fun h => ?_, fun q h hq => ?_⟩,
    fun s hs => ⟨?_, accumulatorRecord_length _⟩, fun s hs => ⟨?_, ?_⟩⟩
  · exact addressed_quiet hs 0x01 readStatus hs.inbox_eq
  · rw [statusChars_eq]; exact statusRecord_length s (presentFlow_length s)
  · rw [State.presentFlow, h, number_two]; rfl
  · rw [State.presentFlow, h, hq, number_two]; rfl
  · rw [← accumulatorChars_eq]; exact addressed_quiet hs 0x12 readAccumulator hs.inbox_eq
  · rw [number_four]; exact addressed_quiet hs 0x15 clearRain hs.inbox_eq
  · rw [← rainChars_eq]; exact addressed_quiet hs 0x14 readRain hs.inbox_eq
end

section
/-! PROOFS. The contacts of a screen at the Screen Controller (R114, R115, R118). -/

namespace Sys2Proof.Machine

open Sys2Proof.Spec

/-- A screen brought home reads its own record alone of the screens. -/
theorem homed_setScreen (t : State) (x : Screen) (q r : ScreenRec) : homed (t.setScreen x q) x r = homed t x r :=
  SameRake.homed ⟨rfl, rfl, rfl, rfl, rfl⟩ x r

/-- A return to rest reads its own record alone of the screens. -/
theorem atRest_setScreen (t : State) (x : Screen) (q r : ScreenRec) : atRest (t.setScreen x q) x r = atRest t x r := by
  have hrake : SameRake t (t.setScreen x q) := ⟨rfl, rfl, rfl, rfl, rfl⟩
  unfold atRest
  simp only [hrake.free, hrake.begun]

/-- A jam cleared (R118): the screen brought home, and its source reported inactive. -/
theorem clearJam_eq (x : Screen) (s : State) : clearJam x s =
    { s.setScreen x (homed s x { s.screen x with jam := none, resetMark := false }) with
      conditions := (s.report (jamSource x) false).conditions } := by
  have hrake : SameRake s ((s.modScreen x fun r => { r with jam := none, resetMark := false }).report (jamSource x) false) :=
    ⟨rfl, rfl, rfl, rfl, rfl⟩
  rw [clearJam, enterHoming_eq, hrake.homed]
  simp only [screen_report, screen_modScreen_self]
  cases x <;> rfl

/-- The selector of a screen (R118). -/
theorem screenSelectorChange_effect (x : Screen) (auto : Bool) (t : State) :
    ScreenSelectorEffect x auto t (screenSelectorChange x auto t) := by
  have htrip (r : ScreenRec) : (t.setScreen x r).rakeTripped x = !(t.contacts.rakeOverload.get x).filtered := rfl
  unfold ScreenSelectorEffect screenSelectorChange
  simp only [modScreen_eq, screen_setScreen_self, htrip]
  refine ⟨fun hu => if_neg (by simp [hu]), fun hu ha => ?_, fun hu ha => ?_⟩ <;> subst ha <;> rw [if_pos hu]
  · cases (t.screen x).state <;> simp only [Bool.false_eq_true, if_false, setScreen_setScreen] <;> rfl
  rw [if_pos rfl]
  refine ⟨fun hs => ?_, fun hs hm => ⟨fun ho => ?_, fun ho => ?_⟩, fun hs hm => ?_⟩
  · simp only [hs, enterHoming_eq, homed_setScreen, screen_setScreen_self, setScreen_setScreen]
    rfl
  · simp only [hs, hm, ho, Bool.not_false, if_true, setScreen_setScreen]
    rfl
  · simp only [hs, hm, ho, Bool.not_true, Bool.false_eq_true, if_true, if_false, clearJam_eq, homed_setScreen,
      screen_setScreen_self, setScreen_setScreen]
    exact ⟨rfl, cond_report_self (t.setScreen x _) _ _ _, fun i hi => cond_report_ne (t.setScreen x _) _ _ hi⟩
  · cases hst : (t.screen x).state with
    | off => exact absurd hst hs
    | jammed => simp only [show (t.screen x).resetMark = false by simpa [hst] using hm]; rfl
    | _ => rfl

/-- The TOP limit of a screen (R115). -/
theorem topLimit_effect (x : Screen) (made : Bool) (t : State) :
    TopEffect x made t (handSwitch (.topLimit x) made t) := by
  unfold TopEffect handSwitch topMade
  cases made with
  | false => simp
  | true =>
    simp only [if_true, true_and]
    split <;> rfl

/-- HOME made (R115). -/
theorem homeMade_effect (x : Screen) (t : State) : HomeEffect x true t (homeMade x t) := by
  unfold HomeEffect homeMade
  by_cases hu : (t.screen x).inUse = true
  · rw [if_pos hu]
    cases hst : (t.screen x).state <;>
      simp only [returnToRest_eq, modScreen_eq, screen_setScreen_self, setScreen_setScreen, atRest_setScreen, hu, hst,
        true_and, reduceCtorEq, if_true, if_false] <;> rfl
  · simp [hu]

/-- The HOME limit of a screen (R115). -/
theorem homeLimit_effect (x : Screen) (made : Bool) (t : State) :
    HomeEffect x made t (handSwitch (.homeLimit x) made t) := by
  cases made with
  | false => unfold HomeEffect; simp [handSwitch]
  | true => exact homeMade_effect x t

/-- The detail of a source reported active with one (R163). -/
theorem told_detail (s : State) (i : Source) (d : Detail) : (told s i true (some d)).detail = some d := by
  simp [told, CondRec.takeReport]

/-- A screen that jams (R116). -/
theorem jamScreen_jams (x : Screen) (why : JamReason) (t : State) : Jams t (jamScreen x why t) x why := by
  refine ⟨?_, ?_, fun i hi => cond_report_ne _ _ _ hi, rfl⟩ <;> rw [jamScreen, cond_report_self]
  · exact CondRec.takeReport_active _ _ _ _
  · exact told_detail _ _ _

/-- The rake overload of a screen (R114). -/
theorem rakeOverload_effect (x : Screen) (healthy : Bool) (t : State) :
    RakeOverloadEffect x healthy t (handSwitch (.rakeOverload x) healthy t) := by
  unfold RakeOverloadEffect handSwitch rakeTrip
  refine ⟨fun ⟨hh, hacts⟩ hseen => ?_, fun ⟨hh, hacts⟩ hseen => ?_, fun hacts => ?_⟩
  · subst hh
    simp only [Bool.false_eq_true, if_false]
    rw [if_pos hacts, overloadInRising, if_pos hseen]
    exact jamScreen_jams x .overloadTwice t
  · subst hh
    simp only [Bool.false_eq_true, if_false]
    rw [if_pos hacts, overloadInRising, if_neg (by simp [hseen])]
    rfl
  · cases healthy with
    | true => rfl
    | false =>
      simp only [Bool.false_eq_true, if_false]
      rw [if_neg fun h => hacts ⟨rfl, h⟩]

end Sys2Proof.Machine
end

section
/-! PROOFS. The Authority Monitor at a change of REMOTE PERMIT (R192), and what a lapse leaves (R193). -/

namespace Sys2Proof.Machine

open Sys2Proof.Spec

/-- A cycle start leaves the inhibit of its screen. -/
theorem begun_inhibit (s : State) (x : Screen) (r : ScreenRec) : (begun s x r).inhibit = r.inhibit := by
  unfold begun
  split <;> [rfl; (split <;> rfl)]

/-- Inhibit off writes its screen's record alone (R119). -/
theorem inhibitOff_writes (x : Screen) (s : State) : ∃ r, inhibitOff x s = s.setScreen x r ∧ r.inhibit = false := by
  unfold inhibitOff
  simp only [modScreen_eq, screen_setScreen_self, setScreen_setScreen, startTest_eq]
  split
  · split
    · refine ⟨_, rfl, ?_⟩
      split
      · rw [begun_inhibit]; rfl
      · rfl
    · exact ⟨_, rfl, rfl⟩
  · exact ⟨_, rfl, rfl⟩

/-- After a lapse no screen is inhibited (R193). -/
theorem forScreens_inhibitOff_inhibit (s : State) (x : Screen) : ((forScreens inhibitOff s).screen x).inhibit = false := by
  obtain ⟨q, ha, hq⟩ := inhibitOff_writes .a s
  obtain ⟨r, hb, hr⟩ := inhibitOff_writes .b (inhibitOff .a s)
  have hboth : forScreens inhibitOff s = (s.setScreen .a q).setScreen .b r := by rw [forScreens, hb, ha]
  rw [hboth]
  cases x
  · rw [screen_setScreen_ne _ _ (by decide), screen_setScreen_self]; exact hq
  · rw [screen_setScreen_self]; exact hr

/-- The screens' part of a lapse leaves the Roster. -/
theorem forScreens_inhibitOff_roster (s : State) : (forScreens inhibitOff s).roster = s.roster := by
  refine forScreens_view s State.roster _ fun x t => ?_
  obtain ⟨r, h, -⟩ := inhibitOff_writes x t
  rw [h]; rfl

/-- After a lapse no pump is forced (R64, R193). -/
theorem cancelForced_forced (s : State) (b : Bay) : ((cancelForced s).pump b).forced = .none := by
  unfold cancelForced
  dsimp only
  split
  · rename_i h
    have hb : (s.roster.pumps.map (·.forced)).get b = .none := by rw [h]; cases b <;> rfl
    rw [PerBay.get_map] at hb
    exact hb
  · rw [pump_post, State.pump, PerBay.get_map]; rfl

/-- A record taken out of SHELVED is not SHELVED (R167). -/
theorem unshelve_state (now : Nat) (r : CondRec) : (r.unshelve now).state ≠ .shelved := by
  rw [unshelve_eq]
  split
  · dsimp only; split <;> decide
  · assumption

/-- A lapse's screens and bays, beside the records taken out of SHELVED (R193). -/
theorem lapse_eq (s : State) : lapse s = { forScreens inhibitOff (cancelForced s) with
    conditions := (forScreens inhibitOff (cancelForced s)).conditions.modifyAll
      (·.unshelve (forScreens inhibitOff (cancelForced s)).clock.time) } := rfl

/-- What a lapse leaves (R193). -/
theorem lapse_lapsed (s : State) : Lapsed (lapse s) := by
  have hroster := forScreens_inhibitOff_roster (cancelForced s)
  have hinhibit := forScreens_inhibitOff_inhibit (cancelForced s)
  rw [lapse_eq]
  generalize forScreens inhibitOff (cancelForced s) = t at hroster hinhibit ⊢
  refine ⟨fun b => ?_, hinhibit, fun i => ?_⟩
  · have hpump : t.pump b = (cancelForced s).pump b := congrArg (fun k : Roster => k.pumps.get b) hroster
    exact (congrArg PumpRec.forced hpump).trans (cancelForced_forced s b)
  · have hcond : ({ t with conditions := t.conditions.modifyAll (·.unshelve t.clock.time) } : State).cond i =
        (t.cond i).unshelve t.clock.time := Vector.getElem_map (xs := t.conditions.recs) _ i.index.isLt
    rw [hcond]
    exact unshelve_state _ _

/-- The REMOTE PERMIT keyswitch (R192). -/
theorem permitChange_effect (on : Bool) (t : State) : PermitEffect on t (permitChange on t) := by
  unfold PermitEffect permitChange
  refine ⟨fun hon => ?_, fun hon hs => ?_, fun hon hs => ?_, fun hon hs => ?_⟩ <;> subst hon
  · cases hs : t.authority.state <;> simp only [setAuthority_authority, if_true, hs, reduceCtorEq, if_false] <;> rfl
  · simp only [setAuthority_authority, Bool.false_eq_true, if_false, hs]; rfl
  · simp only [setAuthority_authority, Bool.false_eq_true, if_false, hs]
    exact ⟨lapse_lapsed _, lapse_plant _⟩
  · rcases hs with hs | hs <;> simp only [setAuthority_authority, Bool.false_eq_true, if_false, hs] <;> rfl

end Sys2Proof.Machine
end

section
/-! PROOFS. A pump's record replaced as it goes from a state to another (R45 to R53, R56, R60, R93): the bay's record, the
Arbiter and the screens as a departure leaves them, the Condition Table, and the notices. -/

namespace Sys2Proof.Machine

open Sys2Proof.Spec

/-! ## The ramp that ends (R89, R111) -/

/-- The state with the Arbiter's ramp over at the screens, their triggers not yet tested. -/
def rampOff (s : State) : State := { s with screens := { s.screens with ramping := false } }

/-- The screens as the Arbiter leaves RAMPING. -/
def rampOver (s : State) : Screens :=
  { (rampOff s).screens with recs := ⟨retried (rampOff s) .a (s.screen .a), retried (rampOff s) .b (s.screen .b)⟩ }

theorem SameRake.retried {s t : State} (h : SameRake s t) (x : Screen) (r : ScreenRec) : retried t x r = retried s x r := by
  unfold Spec.retried
  simp only [h.free, h.begun]

theorem screensRamping_eq (s : State) : screensRamping false s = { s with screens := rampOver s } := by
  unfold screensRamping
  simp only [Bool.false_eq_true, if_false]
  rw [forScreens_eq _ (fun x t => retest_eq t x) SameRake.retried]
  rfl

/-- The screens read the contacts, the settings and themselves as a ramp ends. -/
theorem rampOver_congr {s t : State} (hscreens : t.screens = s.screens) (hcontacts : t.contacts = s.contacts)
    (hstore : t.store = s.store) : rampOver t = rampOver s := by
  have hoff : (rampOff t).screens = (rampOff s).screens := by rw [rampOff, rampOff, hscreens]
  have hrake : SameRake (rampOff s) (rampOff t) := ⟨hcontacts, hstore, by rw [hoff], by rw [hoff], by rw [hoff]⟩
  have hscreen (x : Screen) : t.screen x = s.screen x := congrArg (fun k : Screens => k.recs.get x) hscreens
  unfold rampOver
  simp only [hrake.retried, hscreen, hoff]

theorem rampEnds_of_screens {s u : State} (h : u.screens = rampOver s) : RampEnds s u := by
  refine ⟨by rw [h]; rfl, fun x => ?_⟩
  rw [State.screen, h]
  cases x <;> rfl

/-! ## A departure (R50, R53, R93) -/

/-- A bay's pump is the one on the Arbiter's ramp. -/
def OnRamp (s : State) (b : Bay) : Prop :=
  (s.pump b).state = .starting ∧ s.arbiter.state = .ramping ∧ s.arbiter.held = some b

theorem depart_onRamp {s : State} {b : Bay} (h : OnRamp s b) :
    depart b s = { s with arbiter := gapped s, screens := rampOver s } := by
  obtain ⟨hstate, hramp⟩ := h
  rw [depart, hstate]
  show abortRamp b s = _
  rw [abortRamp, if_pos hramp, screensRamping_eq, rampOver_congr (s := s) rfl rfl rfl]
  rfl

theorem depart_offRamp {s : State} {b : Bay} (h : ¬ OnRamp s b) : depart b s = { s with
    arbiter := if (s.pump b).state = .queued then { s.arbiter with queue := s.arbiter.queue.erase b } else s.arbiter } := by
  rw [depart]
  cases hst : (s.pump b).state
  case queued => rw [if_pos rfl]; rfl
  case starting => rw [if_neg (by decide)]; exact if_neg fun hramp => h ⟨hst, hramp⟩
  all_goals rw [if_neg (by decide)]

/-- A pump that neither waits in the start queue nor starts leaves nothing behind. -/
theorem depart_still {s : State} {b : Bay} (hq : (s.pump b).state ≠ .queued) (hs : (s.pump b).state ≠ .starting) :
    depart b s = s := by
  rw [depart_offRamp fun h => hs h.1, if_neg hq]

theorem depart_contacts (b : Bay) (s : State) : (depart b s).contacts = s.contacts :=
  congrArg Plant.contacts (depart_plant s b)

theorem depart_clock (b : Bay) (s : State) : (depart b s).clock = s.clock := congrArg Plant.clock (depart_plant s b)

theorem depart_roster (b : Bay) (s : State) : (depart b s).roster = s.roster := by
  by_cases h : OnRamp s b
  · rw [depart_onRamp h]
  · rw [depart_offRamp h]

/-! ## A record replaced, and what goes with it -/

/-- A bay's record is another, and but for the Condition Table and the notices, which are given, nothing else has moved. -/
def Moved (s u : State) (b : Bay) (p : PumpRec) (c : Conditions) (i : List Notice) : Prop :=
  u = { s with roster := rosterWith s b p, conditions := c, inbox := i }

theorem PerBay.put_put {α : Type} (v : PerBay α) (b : Bay) (x y : α) : (v.put b x).put b y = v.put b y := by
  cases b <;> rfl

theorem PerBay.put_get_self {α : Type} (v : PerBay α) (b : Bay) : v.put b (v.get b) = v := by
  cases b <;> rfl

theorem Moved.refl (s : State) (b : Bay) : Moved s s b (s.pump b) s.conditions s.inbox := by
  rw [Moved, rosterWith, State.pump, PerBay.put_get_self]

/-- The notices that a pump's change of state makes: the queue test, if it frees or offers a place, and the change (R49, R70). -/
def stateNotices (b : Bay) (was st : PumpState) : List Notice :=
  (if was.committed = true ∨ st = .idle then [.queueTest] else []) ++ [.pump b was st]

theorem mem_stateNotices (b : Bay) (was st : PumpState) : .pump b was st ∈ stateNotices b was st :=
  List.mem_append_right _ (List.mem_singleton.2 rfl)

section
variable {s u : State} {b : Bay} {p : PumpRec} {c : Conditions} {i : List Notice} (h : Moved s u b p c i)
include h

theorem Moved.pump : u.pump b = p := by
  rw [h]; exact PerBay.get_put_self _ _ _

theorem Moved.pump_ne {d : Bay} (hd : d ≠ b) : u.pump d = s.pump d := by
  rw [h]; exact PerBay.get_put_ne _ _ hd

theorem Moved.feedback : u.feedback b = s.feedback b := by
  rw [h]; rfl

theorem Moved.modPump (f : PumpRec → PumpRec) : Moved s (u.modPump b f) b (f p) c i := by
  rw [State.modPump, h.pump, State.setPump, h]
  simp only [Moved, rosterWith, PerBay.put_put]

theorem Moved.post (n : Notice) : Moved s (u.post n) b p c (i ++ [n]) := by
  rw [State.post, h]; rfl

theorem Moved.report {v : State} (hc : v.conditions = c) (ht : v.clock = s.clock) (j : Source) (a : Bool)
    (d : Option Detail) : Moved s (u.report j a d) b p (v.report j a d).conditions i := by
  rw [State.report, State.report, hc, ht, h]; rfl

theorem Moved.setForced (f : Forced) :
    Moved s (setForced b f u) b { p with forced := f } c (i ++ if p.forced = f then [] else [.forced b p.forced f]) := by
  unfold Machine.setForced
  dsimp only
  rw [h.pump]
  split
  · rename_i hf
    rw [List.append_nil, ← hf]
    exact h
  · exact (h.modPump _).post _

theorem Moved.handChange (was : Bool) : Moved s (handChange b was u) b p c
    (i ++ if (p.selector == .hand && s.feedback b) = was ∨ p.state = .absent then [] else [.hand b]) := by
  unfold Machine.handChange State.runsInHand
  rw [h.pump, h.feedback]
  split
  · rw [List.append_nil]; exact h
  · exact h.post _

theorem Moved.enterState {st : PumpState} (hne : p.state ≠ st) :
    Moved s (enterState b st u) b (p.enter st) c (i ++ stateNotices b p.state st) := by
  unfold Machine.enterState stateNotices
  dsimp only
  rw [h.pump, if_neg hne]
  split
  · rw [← List.append_assoc]; exact ((h.modPump _).post _).post _
  · exact (h.modPump _).post _

/-- A pump departs after its record has been written: the Arbiter and the screens as it had not. -/
theorem Moved.depart (hstate : p.state = (s.pump b).state) : Moved (depart b s) (depart b u) b p c i := by
  have hpump : (u.pump b).state = (s.pump b).state := by rw [h.pump, hstate]
  have harbiter : u.arbiter = s.arbiter := by rw [h]
  have hover : rampOver u = rampOver s := rampOver_congr (by rw [h]) (by rw [h]) (by rw [h])
  by_cases hramp : OnRamp s b
  · have hramp' : OnRamp u b := ⟨hpump.trans hramp.1, by rw [harbiter]; exact hramp.2⟩
    rw [depart_onRamp hramp, depart_onRamp hramp', hover, h]
    rfl
  · have hramp' : ¬ OnRamp u b := fun k => hramp ⟨hpump.symm.trans k.1, harbiter ▸ k.2⟩
    rw [depart_offRamp hramp, depart_offRamp hramp', hpump, h]
    rfl

/-- A record replaced twice is the second one. -/
theorem Moved.rebase : Moved (s.setPump b p) u b p c i := by
  rw [Moved, rosterWith, State.setPump, h]
  simp only [rosterWith, PerBay.put_put]

theorem Moved.frame : u = { s with roster := rosterWith s b p, conditions := u.conditions, inbox := u.inbox } := by
  rw [h]

theorem Moved.cond {v : State} (hc : c = v.conditions) (j : Source) : u.cond j = v.cond j := by
  rw [h, hc]; rfl

theorem Moved.becomes (hc : c = s.conditions) : Becomes s u b p := by
  rw [h, hc]

end

/-! ## The changes of state -/

/-- An outputless state entered (R45, R48, log 12). -/
theorem enter_rested {st : PumpState} (hs : st ≠ .starting) (hr : st ≠ .running) (p : PumpRec) : p.enter st = rested st p := by
  cases st <;> first | rfl | contradiction

/-- A pump that goes elsewhere (R50, R53, R93). -/
theorem departs_of_moved {s u : State} {b : Bay} {p : PumpRec} {c : Conditions} {i : List Notice}
    (h : Moved (depart b s) u b p c i) (hi : .pump b (s.pump b).state p.state ∈ i) : Departs s u b p := by
  have hinbox : u.inbox = i := by rw [h]
  refine ⟨fun hramp => ?_, fun hramp => ?_, hinbox ▸ hi⟩
  · rw [Moved, depart_onRamp hramp] at h
    exact ⟨rampEnds_of_screens (by rw [h]), by rw [h]; rfl⟩
  · rw [Moved, depart_offRamp hramp] at h
    rw [h]; rfl

section
variable {s u : State} {b : Bay} {p : PumpRec} {c : Conditions} {i : List Notice} (h : Moved s u b p c i)
  (hstate : p.state = (s.pump b).state)
include h hstate

/-- A pump goes to a state with no output (R45). -/
theorem Moved.leaves {st : PumpState} (hne : p.state ≠ st) (hs : st ≠ .starting) (hr : st ≠ .running) :
    Moved (Machine.depart b s) (Machine.enterState b st (Machine.depart b u)) b (rested st p) c
      (i ++ stateNotices b p.state st) := by
  rw [← enter_rested hs hr]
  exact (h.depart hstate).enterState hne

theorem Moved.goUnavailable (hne : p.state ≠ .unavailable) : Moved (Machine.depart b s) (goUnavailable b u) b
    (rested .unavailable p) c (i ++ stateNotices b p.state .unavailable) :=
  h.leaves hstate hne (by decide) (by decide)

theorem Moved.goIdle (hne : p.state ≠ .idle) :
    Moved (Machine.depart b s) (goIdle b u) b (rested .idle p) c (i ++ stateNotices b p.state .idle) :=
  h.leaves hstate hne (by decide) (by decide)

theorem Moved.goResting (hne : p.state ≠ .resting) : Moved (Machine.depart b s) (goResting b u) b
    { rested .resting p with minRest := some (s.itemNat 3 2 * 1000) } c (i ++ stateNotices b p.state .resting) := by
  have hitem : u.itemNat 3 2 = s.itemNat 3 2 := by rw [h]; rfl
  rw [Machine.goResting, hitem]
  exact (h.leaves hstate hne (by decide) (by decide)).modPump _

/-- Entry to LOCKED_OUT (R60). -/
theorem Moved.lockOut (why : LockoutReason) (hne : p.state ≠ .lockedOut) (hc : c = s.conditions) :
    Moved (Machine.depart b s) (lockOut b why u) b (locked why p)
      (s.report (lockoutSource b) true (some (.lockout why))).conditions (i ++ stateNotices b p.state .lockedOut) :=
  ((h.leaves hstate hne (by decide) (by decide)).modPump _).report hc.symm (depart_clock b s).symm _ _ _

end

theorem locks_of_moved {s u : State} {b : Bay} {p : PumpRec} {why : LockoutReason} {i : List Notice} (hp : s.pump b = p)
    (h : Moved (depart b s) u b (locked why p) (s.report (lockoutSource b) true (some (.lockout why))).conditions i)
    (hi : .pump b p.state .lockedOut ∈ i) : Locks s u b why := by
  subst hp
  have hcond := h.cond rfl
  exact ⟨departs_of_moved h hi, by rw [hcond, cond_report_self], fun j hj => by rw [hcond, cond_report_ne _ _ _ hj]⟩

end Sys2Proof.Machine
end

section
/-! PROOFS. The contacts of a bay at the Pump Roster (R46, R47, R55 to R57, R60, R61, R63). -/

namespace Sys2Proof.Machine

open Sys2Proof.Spec

/-! ## The overload (R60) -/

/-- A lockout from any other state (R60). -/
theorem lockOut_locks {t : State} {b : Bay} (why : LockoutReason) (hne : (t.pump b).state ≠ .lockedOut) :
    Locks t (lockOut b why t) b why :=
  locks_of_moved rfl ((Moved.refl t b).lockOut rfl why hne rfl) (List.mem_append_right _ (mem_stateNotices _ _ _))

/-- An overload trip in LOCKED_OUT changes the reason alone (R60). -/
theorem overloadTrip_lockedOut {t : State} {b : Bay} (hst : (t.pump b).state = .lockedOut) : overloadTrip b t =
    (t.modPump b fun p => { p with reason := some .overload }).report (lockoutSource b) true
      (some (.lockout .overload)) := by
  rw [overloadTrip, hst]

/-- An overload trip of a bay that is there and not locked out (R60). -/
theorem overloadTrip_locks {t : State} {b : Bay} (ha : (t.pump b).state ≠ .absent) (hu : (t.pump b).state ≠ .unavailable)
    (hl : (t.pump b).state ≠ .lockedOut) : overloadTrip b t = lockOut b .overload t := by
  rw [overloadTrip]
  cases hst : (t.pump b).state <;> first | rfl | contradiction

/-- The overload input of a bay (R60). -/
theorem overload_effect (b : Bay) (healthy : Bool) (t : State) :
    OverloadEffect b healthy t (handSwitch (.overload b) healthy t) := by
  cases healthy with
  | true => exact ⟨fun _ => rfl, fun hh => absurd hh (by decide), fun hh => absurd hh (by decide)⟩
  | false =>
    show OverloadEffect b false t (overloadTrip b t)
    refine ⟨fun hst => ?_, fun _ hst => ?_, fun _ ha hu hl => ?_⟩
    · rcases hst with hst | hst | hst
      · exact absurd hst (by decide)
      · rw [overloadTrip, hst]
      · rw [overloadTrip, hst]
    · rw [overloadTrip_lockedOut hst]
      exact ⟨rfl, cond_report_self (t.modPump b _) _ _ _, fun i hi => cond_report_ne (t.modPump b _) _ _ hi⟩
    · rw [overloadTrip_locks ha hu hl]
      exact lockOut_locks .overload hl

/-! ## The seal leak (R63) -/

/-- The seal leak input of a bay (R63). -/
theorem sealChange_effect (b : Bay) (leak : Bool) {t : State} (hq : t.inbox = []) :
    SealEffect b leak t (sealChange b leak t) := by
  unfold SealEffect sealChange
  refine ⟨fun h => if_pos h, fun ha hd => ?_⟩
  rw [if_neg (not_or.2 ⟨ha, hd⟩)]
  refine ⟨?_, cond_report_self (t.modPump b _) _ _ _, fun i hi => cond_report_ne (t.modPump b _) _ _ hi⟩
  simp only [State.post, report_inbox, modPump_inbox, hq]
  rfl

/-! ## Run feedback (R55 to R57) -/

/-- What run feedback does at a bay, before a change of running in HAND is handed on (R55 to R57). -/
def feedbackActs (b : Bay) (on : Bool) (s : State) : State :=
  match on, (s.pump b).state with
  | true, .idle | true, .queued | true, .resting => lockOut b .failToStop s
  | _, .running => s.modPump b fun p => { p with feedbackLoss := if on = true then none else some 2000 }
  | false, .stopping => stopConfirmed b s
  | _, _ => s

theorem feedbackChange_eq (b : Bay) (on : Bool) (s : State) :
    feedbackChange b on s = handChange b ((s.pump b).selector == .hand && !on) (feedbackActs b on s) := by
  unfold feedbackChange feedbackActs
  dsimp only
  cases on <;> cases (s.pump b).state <;> rfl

/-- A STOPPING pump's feedback has dropped (R56). -/
theorem stopConfirmed_moved {t : State} {b : Bay} (hst : (t.pump b).state = .stopping) :
    Moved t (stopConfirmed b t) b
      (if (t.pump b).selector = .auto ∧ (t.pump b).inService = true then
        { rested .resting (t.pump b) with minRest := some (t.itemNat 3 2 * 1000) } else rested .unavailable (t.pump b))
      t.conditions (t.inbox ++ stateNotices b .stopping
        (if (t.pump b).selector = .auto ∧ (t.pump b).inService = true then .resting else .unavailable)) := by
  have hstill : depart b t = t := depart_still (by rw [hst]; decide) (by rw [hst]; decide)
  unfold stopConfirmed
  split
  · have h := (Moved.refl t b).goResting rfl (by rw [hst]; decide)
    rwa [hstill, hst] at h
  · have h := (Moved.refl t b).goUnavailable rfl (by rw [hst]; decide)
    rwa [hstill, hst] at h

/-- What run feedback leaves of the bay's record: its selector, and that it is not ABSENT. -/
theorem feedbackActs_moved (b : Bay) (on : Bool) (t : State) : ∃ r p c i, Moved r (feedbackActs b on t) b p c i ∧
    r.contacts = t.contacts ∧ p.selector = (t.pump b).selector ∧ ((t.pump b).state ≠ .absent → p.state ≠ .absent) := by
  have locks (hne : (t.pump b).state ≠ .lockedOut) : ∃ r p c i, Moved r (lockOut b .failToStop t) b p c i ∧
      r.contacts = t.contacts ∧ p.selector = (t.pump b).selector ∧ ((t.pump b).state ≠ .absent → p.state ≠ .absent) :=
    ⟨_, _, _, _, (Moved.refl t b).lockOut rfl .failToStop hne rfl, depart_contacts b t, rfl, fun _ => nofun⟩
  unfold feedbackActs
  split
  case h_1 hst => exact locks (by rw [hst]; decide)
  case h_2 hst => exact locks (by rw [hst]; decide)
  case h_3 hst => exact locks (by rw [hst]; decide)
  case h_4 => exact ⟨_, _, _, _, (Moved.refl t b).modPump _, rfl, rfl, id⟩
  case h_5 hst =>
    refine ⟨_, _, _, _, stopConfirmed_moved hst, rfl, ?_, fun _ => ?_⟩ <;> split <;> first | rfl | exact nofun
  case h_6 => exact ⟨_, _, _, _, Moved.refl t b, rfl, rfl, id⟩

/-- Run feedback at a bay, its filtered state taken (R46, R55 to R57). -/
theorem feedbackChange_effect {b : Bay} {on : Bool} {t : State} (hfb : (t.contacts.runFeedback.get b).filtered = on) :
    FeedbackEffect b on t (feedbackChange b on t) := by
  unfold FeedbackEffect
  rw [feedbackChange_eq]
  refine ⟨fun hon hready => ?_, fun hst => ?_, fun hon hst => ?_, fun hr hl hs => ?_, fun hsel ha => ?_⟩
  · have hne : (t.pump b).state ≠ .lockedOut := by rcases hready with h | h | h <;> rw [h] <;> decide
    have hacts : feedbackActs b on t = lockOut b .failToStop t := by
      subst hon; rcases hready with h | h | h <;> simp only [feedbackActs, h]
    rw [hacts]
    exact locks_of_moved rfl (((Moved.refl t b).lockOut rfl .failToStop hne rfl).handChange _)
      (List.mem_append_left _ (List.mem_append_right _ (mem_stateNotices _ _ _)))
  · have hacts : feedbackActs b on t =
        t.modPump b fun p => { p with feedbackLoss := if on = true then none else some 2000 } := by
      cases on <;> simp only [feedbackActs, hst]
    rw [hacts]
    exact (((Moved.refl t b).modPump _).handChange _).becomes rfl
  · have hacts : feedbackActs b on t = stopConfirmed b t := by subst hon; simp only [feedbackActs, hst]
    rw [hacts]
    exact ((stopConfirmed_moved hst).handChange _).becomes rfl
  · have hacts : feedbackActs b on t = t := by
      unfold feedbackActs
      split <;> first | rfl | simp_all
    rw [hacts]
    exact ((Moved.refl t b).handChange _).becomes rfl
  · obtain ⟨r, p, c, i, hmoved, hcontacts, hselector, habsent⟩ := feedbackActs_moved b on t
    have hr : r.feedback b = on := by rw [← hfb]; exact congrArg (fun k : Contacts => (k.runFeedback.get b).filtered) hcontacts
    have hinbox := congrArg State.inbox (hmoved.handChange ((t.pump b).selector == .hand && !on))
    have hnot : ¬ ((p.selector == .hand && r.feedback b) = ((t.pump b).selector == .hand && !on) ∨ p.state = .absent) := by
      rw [hr, hselector, hsel]
      exact not_or.2 ⟨by cases on <;> decide, habsent ha⟩
    rw [hinbox, if_neg hnot]
    exact List.mem_append_right _ (List.mem_singleton.2 rfl)

end Sys2Proof.Machine
end

section
/-! PROOFS. The starter's inputs at the Arbiter (R95 to R97). -/

namespace Sys2Proof.Machine

open Sys2Proof.Spec

theorem judgedHealth_eq (s : State) : s.judgedHealth = healthOf s := by
  have hfault : s.closed .starterFault = s.contacts.starterFault.filtered := rfl
  have hready : s.closed .starterReady = s.contacts.starterReady.filtered := rfl
  unfold State.judgedHealth healthOf
  rw [hfault, hready]
  cases s.contacts.starterFault.filtered <;> cases s.contacts.starterReady.filtered <;> cases s.arbiter.gateSupply <;>
    cases s.arbiter.gateRestore <;> rfl

/-- The pump on the ramp goes back to IDLE as the Arbiter is FAULTED (R53, R95). -/
def heldFreed (held : Option Bay) (s : State) : State :=
  match held with
  | some b => if (s.pump b).state = .starting then enterState b .idle s else s
  | none => s

theorem heldFreed_starting {s : State} {b : Bay} (hst : (s.pump b).state = .starting) :
    heldFreed (some b) s = { s with
      roster := rosterWith s b (rested .idle (s.pump b)), inbox := s.inbox ++ [.queueTest, .pump b .starting .idle] } := by
  have h : Moved s _ b _ _ _ := (Moved.refl s b).enterState (st := .idle) (by rw [hst]; decide)
  rw [enter_rested (by decide) (by decide), hst] at h
  rw [heldFreed, if_pos hst, h]
  rfl

theorem heldFreed_same {s : State} {held : Option Bay} (h : ∀ b, held = some b → (s.pump b).state ≠ .starting) :
    heldFreed held s = s := by
  cases held with
  | none => rfl
  | some b => exact if_neg (h b rfl)

/-- What is freed is the pump alone. -/
theorem heldFreed_frame (held : Option Bay) (s : State) :
    heldFreed held s = { s with roster := (heldFreed held s).roster, inbox := (heldFreed held s).inbox } := by
  by_cases h : ∀ b, held = some b → (s.pump b).state ≠ .starting
  · rw [heldFreed_same h]
  · obtain ⟨b, hb, hst⟩ : ∃ b, held = some b ∧ (s.pump b).state = .starting := by simpa using h
    rw [hb, heldFreed_starting hst]

/-- The Arbiter FAULTED, with its health (R95). -/
def faultedBy (h : StarterHealth) (t : State) : State := { t with
  arbiter := { t.arbiter with
    state := .faulted, held := none, rampTimer := none, gapTimer := none, runOutput := false, health := h } }

/-- The Arbiter FAULTED, its pump freed and its ramp over, before STARTER_FAULT is reported (R53, R89, R95). -/
def faultedOver (h : StarterHealth) (t : State) : State :=
  { heldFreed t.arbiter.held (faultedBy h t) with
    screens := if t.arbiter.state = .ramping then rampOver t else t.screens }

/-- HEALTHY lost (R95, R97). -/
theorem enterFaulted_eq (h : StarterHealth) (t : State) :
    enterFaulted { t with arbiter := { t.arbiter with health := h } } =
      (faultedOver h t).report .starterFault true (some (.health h)) := by
  have hfreed := heldFreed_frame t.arbiter.held (faultedBy h t)
  have hramp : rampOver (heldFreed t.arbiter.held (faultedBy h t)) = rampOver t :=
    rampOver_congr (by rw [hfreed]; rfl) (by rw [hfreed]; rfl) (by rw [hfreed]; rfl)
  have hover : (if (t.arbiter.state == .ramping) = true then
      screensRamping false (heldFreed t.arbiter.held (faultedBy h t)) else heldFreed t.arbiter.held (faultedBy h t)) =
      faultedOver h t := by
    rw [faultedOver]
    by_cases hr : t.arbiter.state = .ramping
    · rw [if_pos (by simp [hr]), if_pos hr, screensRamping_eq, hramp]
    · rw [if_neg (by simp [hr]), if_neg hr, hfreed]; rfl
  have harbiter : (faultedOver h t).arbiter = (faultedBy h t).arbiter := by rw [faultedOver, hfreed]
  unfold enterFaulted
  show reportStarter (if (t.arbiter.state == .ramping) = true then
    screensRamping false (heldFreed t.arbiter.held (faultedBy h t)) else heldFreed t.arbiter.held (faultedBy h t)) = _
  rw [hover, reportStarter, harbiter]
  rfl

/-- What the Arbiter's FAULTED moves (R95). -/
theorem faultedOver_frame (h : StarterHealth) (t : State) : faultedOver h t = { faultedBy h t with
    roster := (faultedOver h t).roster, screens := (faultedOver h t).screens, inbox := (faultedOver h t).inbox } := by
  unfold faultedOver
  rw [heldFreed_frame]

/-- HEALTHY again (R96, R97). -/
theorem leaveFaulted_eq (t : State) : leaveFaulted { t with arbiter := { t.arbiter with health := .healthy } } =
    State.post (State.report { t with
      arbiter := if t.arbiter.gateSupply = .none then
          { t.arbiter with state := .idle, held := none, rampTimer := none, runOutput := false, health := .healthy }
        else { gapped t with health := .healthy } } .starterFault false) .queueTest := by
  unfold leaveFaulted
  dsimp only
  split <;> rfl

/-- The starter's inputs (R95 to R97). -/
theorem judgeStarter_effect (t : State) : StarterEffect t (judgeStarter t) := by
  unfold StarterEffect
  refine ⟨fun h => ?_, fun hwas hnow => ?_, fun hwas hnow => ?_, fun hwas hnow hne => ?_⟩
  · rw [judgeStarter, judgedHealth_eq, h]
    exact if_pos rfl
  · have heq : judgeStarter t = (faultedOver (healthOf t) t).report .starterFault true (some (.health (healthOf t))) := by
      rw [← enterFaulted_eq, judgeStarter, judgedHealth_eq]
      dsimp only
      rw [if_neg (by rw [hwas]; exact Ne.symm hnow), if_pos hwas]
    have hframe := faultedOver_frame (healthOf t) t
    have hcond (i : Source) : (faultedOver (healthOf t) t).cond i = t.cond i := by rw [hframe]; rfl
    rw [heq]
    refine ⟨?_, fun b hb hst => ?_, fun hst => ?_, fun hr => rampEnds_of_screens (if_pos hr), fun hr => if_neg hr, ?_,
      fun i hi => ?_⟩
    · rw [hframe]; rfl
    · have hfreed := heldFreed_starting (s := faultedBy (healthOf t) t) hst
      rw [← hb] at hfreed
      exact ⟨(congrArg State.roster hfreed :), (congrArg State.inbox hfreed :)⟩
    · have hfreed := heldFreed_same (s := faultedBy (healthOf t) t) hst
      exact ⟨(congrArg State.roster hfreed :), (congrArg State.inbox hfreed :)⟩
    · rw [cond_report_self, told, hcond, hframe]; rfl
    · rw [cond_report_ne _ _ _ hi, hcond]
  · have heq : judgeStarter t = leaveFaulted { t with arbiter := { t.arbiter with health := .healthy } } := by
      rw [judgeStarter, judgedHealth_eq, hnow]
      dsimp only
      rw [if_neg hwas, if_neg hwas, if_pos rfl]
    rw [heq, leaveFaulted_eq]
    exact ⟨rfl, cond_report_self { t with arbiter := _ } _ _ _, fun i hi => cond_report_ne { t with arbiter := _ } _ _ hi⟩
  · have heq : judgeStarter t = reportStarter { t with arbiter := { t.arbiter with health := healthOf t } } := by
      rw [judgeStarter, judgedHealth_eq]
      dsimp only
      rw [if_neg (Ne.symm hne), if_neg hwas, if_neg hnow]
    rw [heq, reportStarter]
    refine ⟨?_, fun i hi => ?_, fun hst => ?_⟩
    · split <;> rfl
    · split <;> exact cond_report_ne _ _ _ hi
    · rw [if_pos hst]; exact cond_report_self _ _ _ _

end Sys2Proof.Machine
end

section
/-! PROOFS. The selector of a bay at the Pump Roster (R46, R47, R61). -/

namespace Sys2Proof.Machine

open Sys2Proof.Spec

/-! ## The position and the forced mode written (R46) -/

/-- The bay's record with the position written, the forced mode NONE out of AUTO. -/
def selected (b : Bay) (pos : Selector) (t : State) : PumpRec :=
  { t.pump b with selector := pos, forced := if pos = .auto then (t.pump b).forced else .none }

/-- The notice of a forced mode that the selector ends. -/
def forcedNotices (b : Bay) (pos : Selector) (t : State) : List Notice :=
  if (t.pump b).forced = (selected b pos t).forced then [] else [.forced b (t.pump b).forced (selected b pos t).forced]

/-- The state with the position and the forced mode of a bay written. -/
def selectorWritten (b : Bay) (pos : Selector) (t : State) : State :=
  if pos = .auto then t.modPump b fun p => { p with selector := pos }
  else setForced b .none (t.modPump b fun p => { p with selector := pos })

theorem selectorWritten_moved (b : Bay) (pos : Selector) (t : State) : Moved t (selectorWritten b pos t) b
    (selected b pos t) t.conditions (t.inbox ++ forcedNotices b pos t) := by
  have h := (Moved.refl t b).modPump fun p => { p with selector := pos }
  unfold selectorWritten forcedNotices selected
  by_cases hpos : pos = .auto
  · simp only [hpos, if_true, List.append_nil] at h ⊢
    exact h
  · simp only [hpos, if_false]
    exact h.setForced .none

/-- What the bay's new position does to its pump. -/
def selectorActs (b : Bay) (pos : Selector) (s : State) : State :=
  if pos = .auto then selectorToAuto b s else selectorOffAuto b pos s

theorem selectorChange_absent {b : Bay} {t : State} (pos : Selector) (ha : (t.pump b).state = .absent) :
    selectorChange b pos t = t.modPump b fun p => { p with selector := pos } := by
  unfold selectorChange
  dsimp only
  rw [pump_modPump_self, if_pos ha]

theorem selectorChange_eq {b : Bay} {t : State} (pos : Selector) (ha : (t.pump b).state ≠ .absent) :
    selectorChange b pos t =
      handChange b (t.runsInHand b) ((selectorActs b pos (selectorWritten b pos t)).post (.roster b)) := by
  unfold selectorChange selectorActs selectorWritten
  dsimp only
  rw [pump_modPump_self, if_neg ha]

/-! ## The pump, by its state (R46, R47, R61) -/

section
variable {t s : State} {b : Bay} {q : PumpRec} {i : List Notice} (h : Moved t s b q t.conditions i)
  (hstate : q.state = (t.pump b).state)
include h

theorem selectorOffAuto_unavailable (hst : q.state = .unavailable) (pos : Selector) : selectorOffAuto b pos s = s := by
  rw [selectorOffAuto, h.pump, hst]

theorem selectorOffAuto_lockedOut (hst : q.state = .lockedOut) (pos : Selector) : Moved t (selectorOffAuto b pos s) b
    { q with resetMark := decide (pos = .off) || q.resetMark } t.conditions i := by
  have heq : selectorOffAuto b pos s = if pos = .off then s.modPump b fun p => { p with resetMark := true } else s := by
    rw [selectorOffAuto, h.pump, hst]
  rw [heq]
  by_cases hpos : pos = .off
  · simp only [hpos, if_true, decide_true, Bool.true_or]
    exact h.modPump _
  · simp only [hpos, if_false, decide_false, Bool.false_or]
    exact h

include hstate in
theorem selectorOffAuto_goes (ha : q.state ≠ .absent) (hu : q.state ≠ .unavailable) (hl : q.state ≠ .lockedOut)
    (pos : Selector) : Moved (depart b t) (selectorOffAuto b pos s) b (rested .unavailable q) t.conditions
      (i ++ stateNotices b q.state .unavailable) := by
  have heq : selectorOffAuto b pos s = goUnavailable b s := by
    rw [selectorOffAuto, h.pump]
    cases hst : q.state <;> first | rfl | contradiction
  rw [heq]
  exact h.goUnavailable hstate hu

theorem selectorToAuto_stays (hu : ¬ (q.state = .unavailable ∧ q.inService = true))
    (hl : ¬ (q.state = .lockedOut ∧ q.resetMark = true)) : selectorToAuto b s = s := by
  rw [selectorToAuto, h.pump]
  cases hst : q.state with
  | unavailable => exact if_neg fun hs => hu ⟨hst, hs⟩
  | lockedOut => exact if_neg fun hm => hl ⟨hst, hm⟩
  | _ => rfl

theorem overloadTripped_moved : s.overloadTripped b = !(t.contacts.overload.get b).filtered := by
  rw [h]; rfl

include hstate in
/-- A return to AUTO with the overload tripped (R47). -/
theorem selectorToAuto_locks (hst : q.state = .unavailable) (hs : q.inService = true)
    (hfree : (t.contacts.overload.get b).filtered = false) : Moved (depart b t) (selectorToAuto b s) b
      (locked .overload q) (t.report (lockoutSource b) true (some (.lockout .overload))).conditions
      (i ++ stateNotices b q.state .lockedOut) := by
  have heq : selectorToAuto b s = lockOut b .overload s := by
    rw [selectorToAuto, h.pump, hst]
    simp only [hs, if_true, leaveUnavailable, overloadTripped_moved h, hfree, Bool.not_false]
  rw [heq]
  exact h.lockOut hstate .overload (by rw [hst]; decide) rfl

include hstate in
/-- A return to AUTO with run feedback on (R47). -/
theorem selectorToAuto_stops (hst : q.state = .unavailable) (hs : q.inService = true)
    (hfree : (t.contacts.overload.get b).filtered = true) (hfb : t.feedback b = true) :
    Moved t (selectorToAuto b s) b { rested .stopping q with stopConfirm := some (t.itemNat 3 4 * 1000) } t.conditions
      (i ++ stateNotices b q.state .stopping) := by
  have hstill : depart b t = t := depart_still (by rw [← hstate, hst]; decide) (by rw [← hstate, hst]; decide)
  have hleft := h.leaves hstate (st := .stopping) (by rw [hst]; decide) (by decide) (by decide)
  rw [hstill] at hleft
  have hmoved := hleft.modPump fun p => { p with stopConfirm := some (seconds (t.itemNat 3 4)) }
  have hitem : s.itemNat 3 4 = t.itemNat 3 4 := by rw [h]; rfl
  have heq : selectorToAuto b s = (enterState b .stopping (depart b s)).modPump b fun p =>
      { p with stopConfirm := some (seconds (t.itemNat 3 4)) } := by
    rw [selectorToAuto, h.pump, hst]
    simp only [hs, if_true, leaveUnavailable, overloadTripped_moved h, hfree, Bool.not_true, Bool.false_eq_true, if_false,
      h.feedback, goStopping, hitem, hmoved.feedback, hfb]
  rw [heq]
  exact hmoved

include hstate in
/-- A return to AUTO with the bay at rest (R47). -/
theorem selectorToAuto_idles (hst : q.state = .unavailable) (hs : q.inService = true)
    (hfree : (t.contacts.overload.get b).filtered = true) (hfb : t.feedback b = false) :
    Moved t (selectorToAuto b s) b (rested .idle q) t.conditions (i ++ stateNotices b q.state .idle) := by
  have hstill : depart b t = t := depart_still (by rw [← hstate, hst]; decide) (by rw [← hstate, hst]; decide)
  have heq : selectorToAuto b s = goIdle b s := by
    rw [selectorToAuto, h.pump, hst]
    simp only [hs, if_true, leaveUnavailable, overloadTripped_moved h, hfree, Bool.not_true, Bool.false_eq_true, if_false,
      h.feedback, hfb]
  have hmoved := h.goIdle hstate (by rw [hst]; decide)
  rw [hstill] at hmoved
  rw [heq]
  exact hmoved

/-- A return to AUTO of a marked lockout with the overload tripped drops the mark (R61, log 13). -/
theorem selectorToAuto_unmarks (hst : q.state = .lockedOut) (hm : q.resetMark = true)
    (hfree : (t.contacts.overload.get b).filtered = false) :
    Moved t (selectorToAuto b s) b { q with resetMark := false } t.conditions i := by
  have heq : selectorToAuto b s = s.modPump b fun p => { p with resetMark := false } := by
    rw [selectorToAuto, h.pump, hst]
    simp only [hm, if_true, overloadTripped_moved h, hfree, Bool.not_false]
  rw [heq]
  exact h.modPump _

include hstate in
/-- A return to AUTO of a marked lockout clears it (R61). -/
theorem selectorToAuto_releases (hst : q.state = .lockedOut) (hm : q.resetMark = true)
    (hfree : (t.contacts.overload.get b).filtered = true) : Moved t (selectorToAuto b s) b
      (if q.inService = true then
        { rested .resting { q with reason := none, resetMark := false } with minRest := some (t.itemNat 3 2 * 1000) }
      else rested .unavailable { q with reason := none, resetMark := false })
      (t.report (lockoutSource b) false).conditions
      (i ++ stateNotices b .lockedOut (if q.inService = true then .resting else .unavailable)) := by
  have hstill : depart b t = t := depart_still (by rw [← hstate, hst]; decide) (by rw [← hstate, hst]; decide)
  have hclear := (h.modPump fun p => { p with reason := none, resetMark := false }).report (v := t) rfl rfl
    (lockoutSource b) false none
  have heq : selectorToAuto b s = releaseLockout b s := by
    rw [selectorToAuto, h.pump, hst]
    simp only [hm, if_true, overloadTripped_moved h, hfree, Bool.not_true, Bool.false_eq_true, if_false]
  rw [heq, releaseLockout]
  dsimp only
  rw [hclear.pump]
  dsimp only
  split
  · have hrest := hclear.goResting hstate (by dsimp only; rw [hst]; decide)
    rw [hstill] at hrest
    dsimp only at hrest
    rwa [hst] at hrest
  · have hrest := hclear.goUnavailable hstate (by dsimp only; rw [hst]; decide)
    rw [hstill] at hrest
    dsimp only at hrest
    rwa [hst] at hrest

end

end Sys2Proof.Machine
end

section
/-! PROOFS. A filter timer's expiry, input by input (R26). -/

namespace Sys2Proof.Machine

open Sys2Proof.Spec

/-- What the bay's new position leaves of its record: its selector, and that it is not ABSENT; and no other bay moves, and no notice is lost. -/
theorem selectorActs_moved {t s : State} {b : Bay} {q : PumpRec} {i : List Notice} (h : Moved t s b q t.conditions i)
    (hstate : q.state = (t.pump b).state) (ha : q.state ≠ .absent) (pos : Selector) :
    ∃ r p c j, Moved r (selectorActs b pos s) b p c j ∧ r.contacts = t.contacts ∧ r.roster = t.roster ∧ p.selector = q.selector ∧
      p.state ≠ .absent ∧ ∀ n ∈ i, n ∈ j := by
  have more (l : List Notice) : ∀ n ∈ i, n ∈ i ++ l := fun n hn => List.mem_append_left l hn
  unfold selectorActs
  split
  · by_cases hu : q.state = .unavailable ∧ q.inService = true
    · obtain ⟨hst, hs⟩ := hu
      cases hfree : (t.contacts.overload.get b).filtered with
      | false =>
        exact ⟨_, _, _, _, selectorToAuto_locks h hstate hst hs hfree, depart_contacts b t, depart_roster b t, rfl, nofun, more _⟩
      | true =>
        cases hfb : t.feedback b with
        | true => exact ⟨_, _, _, _, selectorToAuto_stops h hstate hst hs hfree hfb, rfl, rfl, rfl, nofun, more _⟩
        | false => exact ⟨_, _, _, _, selectorToAuto_idles h hstate hst hs hfree hfb, rfl, rfl, rfl, nofun, more _⟩
    · by_cases hl : q.state = .lockedOut ∧ q.resetMark = true
      · obtain ⟨hst, hm⟩ := hl
        cases hfree : (t.contacts.overload.get b).filtered with
        | false => exact ⟨_, _, _, _, selectorToAuto_unmarks h hst hm hfree, rfl, rfl, rfl, ha, fun _ hn => hn⟩
        | true =>
          refine ⟨_, _, _, _, selectorToAuto_releases h hstate hst hm hfree, rfl, rfl, ?_, ?_, more _⟩ <;>
            split <;> first | rfl | exact nofun
      · rw [selectorToAuto_stays h hu hl]
        exact ⟨_, _, _, _, h, rfl, rfl, rfl, ha, fun _ hn => hn⟩
  · by_cases hu : q.state = .unavailable
    · rw [selectorOffAuto_unavailable h hu]
      exact ⟨_, _, _, _, h, rfl, rfl, rfl, ha, fun _ hn => hn⟩
    · by_cases hl : q.state = .lockedOut
      · exact ⟨_, _, _, _, selectorOffAuto_lockedOut h hl pos, rfl, rfl, rfl, ha, fun _ hn => hn⟩
      · exact ⟨_, _, _, _, selectorOffAuto_goes h hstate ha hu hl pos, depart_contacts b t, depart_roster b t, rfl, nofun, more _⟩

/-- The hand-over of a selector's change (R46): the bay, the forced mode it ends, and a change of running in HAND. -/
theorem selectorChange_handed {b : Bay} {pos : Selector} {t : State} (ha : (t.pump b).state ≠ .absent) :
    .roster b ∈ (selectorChange b pos t).inbox ∧ (∀ n ∈ forcedNotices b pos t, n ∈ (selectorChange b pos t).inbox) ∧
      (t.feedback b = true → (pos = .hand ↔ (t.pump b).selector ≠ .hand) → .hand b ∈ (selectorChange b pos t).inbox) := by
  obtain ⟨r, p, c, j, hmoved, hcontacts, -, hsel, habsent, hmem⟩ :=
    selectorActs_moved (selectorWritten_moved b pos t) rfl ha pos
  have hinbox := congrArg State.inbox ((hmoved.post (.roster b)).handChange (t.runsInHand b))
  rw [← selectorChange_eq pos ha] at hinbox
  rw [hinbox]
  refine ⟨List.mem_append_left _ (List.mem_append_right _ (List.mem_singleton.2 rfl)),
    fun n hn => List.mem_append_left _ (List.mem_append_left _ (hmem n (List.mem_append_right _ hn))), fun hfb hand => ?_⟩
  have hr : r.feedback b = true := by
    rw [← hfb]; exact congrArg (fun k : Contacts => (k.runFeedback.get b).filtered) hcontacts
  have hchange : ¬ ((p.selector == .hand && r.feedback b) = t.runsInHand b) := by
    rw [hr, hsel, State.runsInHand, hfb, Bool.and_true, Bool.and_true, Bool.eq_iff_iff]
    simp only [beq_iff_eq]
    exact fun hiff => iff_not_self (hiff.symm.trans hand)
  refine List.mem_append_right _ ?_
  rw [if_neg (not_or.2 ⟨hchange, habsent⟩)]
  exact List.mem_singleton.2 rfl

theorem mem_forcedNotices {b : Bay} {pos : Selector} {t : State} (h : (t.pump b).forced ≠ (selected b pos t).forced) :
    .forced b (t.pump b).forced (selected b pos t).forced ∈ forcedNotices b pos t := by
  rw [forcedNotices, if_neg h]
  exact List.mem_singleton.2 rfl

/-- A selector out of AUTO (R46). -/
theorem selectorChange_off {b : Bay} {pos : Selector} (hpos : pos ≠ .auto) (t : State) :
    ((t.pump b).state = .unavailable → Becomes t (selectorChange b pos t) b (selected b pos t)) ∧
    ((t.pump b).state = .lockedOut → Becomes t (selectorChange b pos t) b
      { selected b pos t with resetMark := decide (pos = .off) || (selected b pos t).resetMark }) ∧
    ((t.pump b).state ≠ .absent → (t.pump b).state ≠ .unavailable → (t.pump b).state ≠ .lockedOut →
      Departs t (selectorChange b pos t) b (rested .unavailable (selected b pos t)) ∧
        (selectorChange b pos t).conditions = t.conditions) := by
  have h := selectorWritten_moved b pos t
  have hacts (s : State) : selectorActs b pos s = selectorOffAuto b pos s := if_neg hpos
  refine ⟨fun hst => ?_, fun hst => ?_, fun ha hu hl => ?_⟩
  · rw [selectorChange_eq pos (by rw [hst]; decide), hacts, selectorOffAuto_unavailable h hst]
    exact ((h.post _).handChange _).becomes rfl
  · rw [selectorChange_eq pos (by rw [hst]; decide), hacts]
    exact (((selectorOffAuto_lockedOut h hst pos).post _).handChange _).becomes rfl
  · have hmoved := ((selectorOffAuto_goes h rfl ha hu hl pos).post (.roster b)).handChange (t.runsInHand b)
    rw [selectorChange_eq pos ha, hacts]
    exact ⟨departs_of_moved hmoved (List.mem_append_left _ (List.mem_append_left _
      (List.mem_append_right _ (mem_stateNotices _ _ _)))), (congrArg State.conditions hmoved :)⟩

/-- A selector that comes to AUTO at a pump UNAVAILABLE and IN_SERVICE (R47). -/
theorem selectorChange_available {b : Bay} {t : State} (hst : (t.pump b).state = .unavailable)
    (hs : (t.pump b).inService = true) :
    ((t.contacts.overload.get b).filtered = false →
      Locks (t.setPump b (selected b .auto t)) (selectorChange b .auto t) b .overload) ∧
    ((t.contacts.overload.get b).filtered = true → t.feedback b = true → Becomes t (selectorChange b .auto t) b
      { rested .stopping (selected b .auto t) with stopConfirm := some (t.itemNat 3 4 * 1000) }) ∧
    ((t.contacts.overload.get b).filtered = true → t.feedback b = false →
      Becomes t (selectorChange b .auto t) b (rested .idle (selected b .auto t))) := by
  have h := selectorWritten_moved b .auto t
  rw [selectorChange_eq .auto (by rw [hst]; decide)]
  show (_ → Locks _ (handChange b _ (State.post (selectorToAuto b _) _)) b _) ∧ _
  refine ⟨fun hfree => ?_, fun hfree hfb => ?_, fun hfree hfb => ?_⟩
  · have hp : (t.setPump b (selected b .auto t)).pump b = selected b .auto t := pump_setPump_self _ _ _
    have hmoved := selectorToAuto_locks h.rebase (by rw [hp]) hst hs hfree
    exact locks_of_moved hp ((hmoved.post _).handChange _) (List.mem_append_left _ (List.mem_append_left _
      (List.mem_append_right _ (mem_stateNotices _ _ _))))
  · exact (((selectorToAuto_stops h rfl hst hs hfree hfb).post _).handChange _).becomes rfl
  · exact (((selectorToAuto_idles h rfl hst hs hfree hfb).post _).handChange _).becomes rfl

/-- The selector of a bay (R46, R47, R61). -/
theorem selectorChange_effect (b : Bay) (pos : Selector) (t : State) : SelectorEffect b pos t (selectorChange b pos t) := by
  have h := selectorWritten_moved b pos t
  unfold SelectorEffect
  refine ⟨fun ha => selectorChange_absent pos ha, selectorChange_off (t := t), fun hpos => ?_, fun ha => ?_⟩
  · subst hpos
    refine ⟨fun ha hu hl => ?_, fun hst hs => selectorChange_available hst hs, fun hst hm => ⟨fun hfree => ?_, fun hfree => ?_⟩⟩
    · rw [selectorChange_eq .auto ha]
      show Becomes t (handChange b _ (State.post (selectorToAuto b _) _)) b (selected b .auto t)
      rw [selectorToAuto_stays h hu hl]
      exact ((h.post _).handChange _).becomes rfl
    · rw [selectorChange_eq .auto (by rw [show (t.pump b).state = _ from hst]; decide)]
      exact (((selectorToAuto_unmarks h hst hm hfree).post _).handChange _).becomes rfl
    · have hmoved := ((selectorToAuto_releases h rfl hst hm hfree).post (.roster b)).handChange (t.runsInHand b)
      have hcond := hmoved.cond rfl
      rw [selectorChange_eq .auto (by rw [show (t.pump b).state = _ from hst]; decide)]
      exact ⟨hmoved.frame, (hcond _).trans (cond_report_self t _ _ _), fun i hi =>
        (hcond i).trans (cond_report_ne t _ _ hi)⟩
  · obtain ⟨hroster, hforced, hhand⟩ := selectorChange_handed (pos := pos) ha
    exact ⟨hroster, fun hne => hforced _ (mem_forcedNotices hne),
      hhand⟩

/-- A selector's change writes its bay's position, and no other bay (R46). -/
theorem selectorChange_pumps (b : Bay) (pos : Selector) (t : State) :
    ((selectorChange b pos t).pump b).selector = pos ∧ ∀ c, c ≠ b → (selectorChange b pos t).pump c = t.pump c := by
  by_cases ha : (t.pump b).state = .absent
  · rw [selectorChange_absent pos ha]
    exact ⟨by rw [pump_modPump_self], fun c hc => pump_modPump_ne _ _ hc⟩
  · obtain ⟨r, p, c, j, hmoved, -, hroster, hsel, -, -⟩ :=
      selectorActs_moved (selectorWritten_moved b pos t) rfl ha pos
    have hchange := (hmoved.post (.roster b)).handChange (t.runsInHand b)
    rw [selectorChange_eq pos ha]
    refine ⟨by rw [hchange.pump, hsel]; rfl, fun c hc => ?_⟩
    rw [hchange.pump_ne hc, State.pump, hroster]
    rfl

/-! ## The expiry (R26) -/

theorem Contacts.get_put_self (k : Contacts) (w : Switch) (r : Filtered Bool) : (k.put w r).get w = r := by
  cases w <;> simp only [Contacts.put, Contacts.get, PerBay.get_put_self, PerScreen.get_put_self]

/-- An input with its filter timer running has its pending state taken (R26). -/
theorem Filtered.expire_pending {α : Type} {r : Filtered α} {v : α} (ht : r.timer.isSome = true)
    (hv : r.pendingState = some v) : r.expire = some (v, ⟨r.raw, v, none, none⟩) := by
  rw [Filtered.expire, if_pos ht, hv]; rfl

theorem exec_filterTimerExpiry_switch {s : State} {w : Switch} {v : Bool} (hp : s.power = .on)
    (ht : (s.contacts.get w).timer.isSome = true) (hv : (s.contacts.get w).pendingState = some v) :
    exec (.filterTimerExpiry (.switch w)) s = .next (settle (handSwitch w v (Spec.taken s w v))) := by
  rw [show exec (.filterTimerExpiry (.switch w)) s = execFilterTimerExpiry (.switch w) s from rfl, execFilterTimerExpiry,
    powered_on _ _ hp, filterExpires, Filtered.expire_pending ht hv]
  rfl

theorem exec_filterTimerExpiry_selector {s : State} {b : Bay} {p : Selector} (hp : s.power = .on)
    (ht : (s.contacts.selector.get b).timer.isSome = true) (hv : (s.contacts.selector.get b).pendingState = some p) :
    exec (.filterTimerExpiry (.selector b)) s = .next (settle (selectorChange b p { s with
      contacts := { s.contacts with
        selector := s.contacts.selector.put b ⟨(s.contacts.selector.get b).raw, p, none, none⟩ } })) := by
  rw [show exec (.filterTimerExpiry (.selector b)) s = execFilterTimerExpiry (.selector b) s from rfl,
    execFilterTimerExpiry, powered_on _ _ hp, filterExpires, Filtered.expire_pending ht hv]

/-- Run feedback as it has been taken. -/
theorem taken_feedback (s : State) (b : Bay) (v : Bool) :
    ((Spec.taken s (.runFeedback b) v).contacts.runFeedback.get b).filtered = v :=
  congrArg Filtered.filtered (Contacts.get_put_self s.contacts (.runFeedback b) ⟨_, v, none, none⟩)

end Sys2Proof.Machine

open Sys2Proof Sys2Proof.Machine

/-- Settles O10, input by input: each owner's effect is its own lemma, and what no owner moves is said once for all inputs. -/
theorem filterExpiryTakesThePendingState : Obligations.FilterExpiryTakesThePendingState := by
  intro s hs
  obtain ⟨hp, hq⟩ := hs
  refine ⟨fun w v ht hv => ?_, fun b p ht hv => ?_⟩
  · have hstill := handSwitch_still (Spec.taken s w v) w v
    have hcontacts : (handSwitch w v (Spec.taken s w v)).contacts = _ := congrArg Still.contacts hstill
    refine ⟨_, exec_filterTimerExpiry_switch hp ht hv, hcontacts, congrArg Still.rain hstill,
      congrArg Still.channels hstill, congrArg Still.episodes hstill, congrArg Still.line hstill, congrArg Still.clock hstill,
      congrArg Still.store hstill, ?_, ?_, ?_, ?_, ?_, ?_, ?_, ?_, ?_, ?_, ?_, ?_, ?_⟩
    · rintro rfl; rfl
    · rintro rfl; rw [hcontacts, handSwitch, State.post, show (Spec.taken s .lf v).inbox = [] from hq]; rfl
    · rintro rfl
      rw [hcontacts, handSwitch, State.post, report_inbox, show (Spec.taken s .hf v).inbox = [] from hq]; rfl
    · rintro rfl; cases v <;> rfl
    · rintro b rfl; exact feedbackChange_effect (taken_feedback s b v)
    · rintro b rfl; exact overload_effect b v _
    · rintro b rfl; exact sealChange_effect b v hq
    · rintro x rfl; exact screenSelectorChange_effect x v _
    · rintro x rfl; exact topLimit_effect x v _
    · rintro x rfl; exact homeLimit_effect x v _
    · rintro x rfl; exact rakeOverload_effect x v _
    · rintro (rfl | rfl) <;> exact judgeStarter_effect _
    · rintro rfl; exact permitChange_effect v _
  · refine ⟨_, exec_filterTimerExpiry_selector hp ht hv, ?_⟩
    generalize hk : ({ s.contacts with
      selector := s.contacts.selector.put b ⟨(s.contacts.selector.get b).raw, p, none, none⟩ } : Contacts) = k
    have hplant := selectorChange_plant { s with contacts := k } b p
    have hcontacts : (selectorChange b p { s with contacts := k }).contacts = k := congrArg Plant.contacts hplant
    obtain ⟨hsel, hothers⟩ := selectorChange_pumps b p { s with contacts := k }
    rw [hcontacts]
    exact ⟨rfl, hsel, hothers, hplant, selectorChange_effect b p _⟩
end

section
/-! PROOFS. What every operation of the blocks keeps of the outputs (R45, R89, R109), of the reply that stands (R174) and of the
pumps that the cutoff holds (R58, R75): one relation between the state before and after, and one lemma per operation. -/

namespace Sys2Proof.Machine

open Sys2Proof.Spec

set_option Elab.async false

/-! ## The relation -/

/-- R45: a pump's two outputs follow its state. -/
def PumpRec.Follows (p : PumpRec) : Prop :=
  p.starterSelect = (p.state == .starting) ∧ p.runContactor = (p.state == .running)

/-- R109: a rake's two outputs follow its screen's state. -/
def ScreenRec.Follows (r : ScreenRec) : Prop :=
  r.forward = (r.state == .rising) ∧
    r.reverse = (r.state == .lowering || r.state == .clearing || r.state == .homing)

/-- R89: the starter run output follows the Arbiter's state. -/
def Arbiter.Follows (a : Arbiter) : Prop := a.runOutput = (a.state == .ramping)

/-- What no operation but the Duty Controller's own and the line's moves: outputs that followed still follow, the reply and
what the Duty Controller holds stand, and under the cutoff no pump has come to be QUEUED, STARTING or RUNNING. -/
structure Keeps (s t : State) : Prop where
  pump : ∀ b, (s.pump b).Follows → (t.pump b).Follows
  screen : ∀ x, (s.screen x).Follows → (t.screen x).Follows
  arbiter : s.arbiter.Follows → t.arbiter.Follows
  reply : t.line.reply = s.line.reply
  duty : t.duty = s.duty
  committed : s.duty.cutoff = true → ∀ b, (t.pump b).state.committed = true → (s.pump b).state.committed = true

/-- What the relation reads of a state. -/
def State.watched (s : State) :
    PerBay PumpRec × PerScreen ScreenRec × StarterState × Bool × Option (List Character) × Duty :=
  (s.roster.pumps, s.screens.recs, s.arbiter.state, s.arbiter.runOutput, s.line.reply, s.duty)

theorem Keeps.of_watched {s t : State} (h : t.watched = s.watched := by rfl) : Keeps s t := by
  obtain ⟨hp, hx, ha, ho, hl, hd⟩ : t.roster.pumps = s.roster.pumps ∧ t.screens.recs = s.screens.recs ∧
      t.arbiter.state = s.arbiter.state ∧ t.arbiter.runOutput = s.arbiter.runOutput ∧ t.line.reply = s.line.reply ∧
      t.duty = s.duty := by simpa [State.watched] using h
  refine ⟨fun b => ?_, fun x => ?_, ?_, hl, hd, fun _ b => ?_⟩
  · rw [State.pump, State.pump, hp]; exact id
  · rw [State.screen, State.screen, hx]; exact id
  · rw [Arbiter.Follows, Arbiter.Follows, ha, ho]; exact id
  · rw [State.pump, State.pump, hp]; exact id

theorem Keeps.refl (s : State) : Keeps s s := .of_watched

theorem Keeps.trans {s t u : State} (h : Keeps s t) (k : Keeps t u) : Keeps s u where
  pump b hb := k.pump b (h.pump b hb)
  screen x hx := k.screen x (h.screen x hx)
  arbiter ha := k.arbiter (h.arbiter ha)
  reply := k.reply.trans h.reply
  duty := k.duty.trans h.duty
  committed hc b hb := h.committed hc b (k.committed (h.duty ▸ hc) b hb)

/-- The last operation first. -/
theorem Keeps.after {s t u : State} (k : Keeps t u) (h : Keeps s t) : Keeps s u := h.trans k

theorem Keeps.ite {p : Prop} [Decidable p] {s t u : State} (ht : p → Keeps s t) (hu : ¬ p → Keeps s u) :
    Keeps s (if p then t else u) := by
  split
  · exact ht ‹_›
  · exact hu ‹_›

theorem keeps_foldl {α : Type} {f : State → α → State} (h : ∀ s a, Keeps s (f s a)) (l : List α) :
    ∀ s, Keeps s (l.foldl f s) := by
  induction l with
  | nil => exact Keeps.refl
  | cons a l ih => exact fun s => (h s a).trans (ih _)

theorem keeps_forBays {f : Bay → State → State} (h : ∀ s b, Keeps s (f b s)) (s : State) : Keeps s (forBays f s) :=
  keeps_foldl (fun s b => h s b) _ s

theorem keeps_forScreens {f : Screen → State → State} (h : ∀ s x, Keeps s (f x s)) (s : State) :
    Keeps s (forScreens f s) := (h s .a).trans (h _ .b)

variable (s : State)

/-! ## Named updates -/

theorem keeps_post (n : Notice) : Keeps s (s.post n) := .of_watched

theorem keeps_report (i : Source) (a : Bool) (d : Option Detail) : Keeps s (s.report i a d) := .of_watched

theorem keeps_setAuthority (a : Authority) : Keeps s (s.setAuthority a) := .of_watched

theorem keeps_setPump {b : Bay} {p : PumpRec} (hf : (s.pump b).Follows → p.Follows)
    (hc : s.duty.cutoff = true → p.state.committed = true → (s.pump b).state.committed = true) :
    Keeps s (s.setPump b p) where
  pump c hc' := by
    by_cases h : c = b
    · subst h; rw [pump_setPump_self]; exact hf hc'
    · rwa [pump_setPump_ne _ _ h]
  screen _ := id
  arbiter := id
  reply := rfl
  duty := rfl
  committed hcut c := by
    by_cases h : c = b
    · subst h; rw [pump_setPump_self]; exact hc hcut
    · rw [pump_setPump_ne _ _ h]; exact id

/-- A pump's record changed where its state and its outputs do not show. -/
theorem keeps_modPump {b : Bay} {f : PumpRec → PumpRec} (h : ∀ p, (f p).state = p.state ∧
    (f p).starterSelect = p.starterSelect ∧ (f p).runContactor = p.runContactor := by exact fun _ => ⟨rfl, rfl, rfl⟩) :
    Keeps s (s.modPump b f) := by
  obtain ⟨hstate, hselect, hrun⟩ := h (s.pump b)
  refine keeps_setPump s (fun hf => ?_) fun _ hc => hstate ▸ hc
  rwa [PumpRec.Follows, hstate, hselect, hrun]

theorem keeps_setScreen {x : Screen} {r : ScreenRec} (hf : (s.screen x).Follows → r.Follows) : Keeps s (s.setScreen x r) where
  pump _ := id
  screen z hz := by
    by_cases h : z = x
    · subst h; rw [screen_setScreen_self]; exact hf hz
    · rwa [screen_setScreen_ne _ _ h]
  arbiter := id
  reply := rfl
  duty := rfl
  committed _ _ := id

theorem keeps_arbiter {a : Arbiter} (h : s.arbiter.Follows → a.Follows := by exact fun _ => rfl) :
    Keeps s { s with arbiter := a } where
  pump _ := id
  screen _ := id
  arbiter := h
  reply := rfl
  duty := rfl
  committed _ _ := id

/-! ## The Screen Controller (R109) -/

/-- A record that has entered a state has the outputs of that state. -/
theorem ScreenRec.enter_follows (st : ScreenState) (r : ScreenRec) : (r.enter st).Follows := ⟨rfl, rfl⟩

theorem keeps_enterScreen {x : Screen} (st : ScreenState) (f : ScreenRec → ScreenRec) :
    Keeps s (s.modScreen x fun r => (f r).enter st) := keeps_setScreen s fun _ => ScreenRec.enter_follows st _

/-- A screen's record changed where its state and its outputs do not show. -/
theorem keeps_modScreen {x : Screen} {f : ScreenRec → ScreenRec} (h : ∀ r, (f r).state = r.state ∧
    (f r).forward = r.forward ∧ (f r).reverse = r.reverse := by exact fun _ => ⟨rfl, rfl, rfl⟩) :
    Keeps s (s.modScreen x f) := by
  obtain ⟨hstate, hforward, hreverse⟩ := h (s.screen x)
  refine keeps_setScreen s fun hf => ?_
  rwa [ScreenRec.Follows, hstate, hforward, hreverse]

theorem begun_follows (x : Screen) (r : ScreenRec) : (begun s x r).Follows := by
  unfold begun
  split <;> [exact ⟨rfl, rfl⟩; (split <;> exact ⟨rfl, rfl⟩)]

theorem triggered_follows (x : Screen) {r : ScreenRec} (h : r.Follows) : (triggered s x r).Follows := by
  unfold triggered
  split <;> [exact begun_follows s x r; exact h]

theorem atRest_follows (x : Screen) (r : ScreenRec) : (atRest s x r).Follows := by
  unfold atRest
  dsimp only
  split
  · exact begun_follows s x _
  · unfold ScreenRec.Follows; dsimp only; split <;> exact ⟨rfl, rfl⟩

theorem homed_follows (x : Screen) (r : ScreenRec) : (homed s x r).Follows := by
  unfold homed
  split <;> [exact ⟨rfl, rfl⟩; (split <;> [exact atRest_follows s x r; exact ⟨rfl, rfl⟩])]

theorem retried_follows (x : Screen) {r : ScreenRec} (h : r.Follows) : (retried s x r).Follows := by
  unfold retried
  split <;> [exact begun_follows s x r; exact h]

theorem reread_follows (x : Screen) {r : ScreenRec} (h : r.Follows) : (reread s x r).Follows := by
  unfold reread
  dsimp only
  generalize (if s.screens.storm = .storm then s.itemNat 5 6 else s.itemNat 5 5) = m
  split
  · exact h
  · split
    · exact h
    · split <;> [exact h; (split <;> [exact begun_follows s x _; exact h])]

theorem keeps_startTest (x : Screen) : Keeps s (startTest x s) := by
  rw [startTest_eq]
  refine keeps_setScreen s fun h => ?_
  split <;> [exact begun_follows s x _; exact h]

theorem keeps_trigger (x : Screen) : Keeps s (trigger x s) := by
  by_cases h : (s.screen x).inUse = true
  · rw [trigger_eq s x h]; exact keeps_setScreen s (triggered_follows s x)
  · rw [trigger, if_neg h]; exact .refl s

theorem keeps_returnToRest (x : Screen) : Keeps s (returnToRest x s) := by
  rw [returnToRest_eq]; exact keeps_setScreen s fun _ => atRest_follows s x _

theorem keeps_enterHoming (x : Screen) : Keeps s (enterHoming x s) := by
  rw [enterHoming_eq]; exact keeps_setScreen s fun _ => homed_follows s x _

theorem keeps_retest (x : Screen) : Keeps s (retest x s) := by
  rw [retest_eq]; exact keeps_setScreen s (retried_follows s x)

theorem keeps_rereadInterval (x : Screen) : Keeps s (rereadInterval x s) := by
  rw [rereadInterval_eq]; exact keeps_setScreen s (reread_follows s x)

theorem keeps_jamScreen (x : Screen) (why : JamReason) : Keeps s (jamScreen x why s) :=
  (keeps_enterScreen s .jammed _).trans (keeps_report _ _ _ _)

theorem keeps_overloadInRising (x : Screen) : Keeps s (overloadInRising x s) :=
  .ite (fun _ => keeps_jamScreen s x _) fun _ => keeps_enterScreen s .clearing _

theorem keeps_topReached (x : Screen) : Keeps s (topReached x s) := keeps_enterScreen s .lowering _

theorem keeps_judgeRise (x : Screen) : Keeps s (judgeRise x s) :=
  .ite (fun _ => keeps_overloadInRising s x) fun _ => .ite (fun _ => keeps_topReached s x) fun _ => .refl s

theorem keeps_clearJam (x : Screen) : Keeps s (clearJam x s) :=
  (keeps_enterHoming _ x).after ((keeps_report _ _ _ _).after (keeps_modScreen s))

theorem keeps_topMade (x : Screen) : Keeps s (topMade x s) := .ite (fun _ => keeps_topReached s x) fun _ => .refl s

theorem keeps_homeMade (x : Screen) : Keeps s (homeMade x s) := by
  unfold homeMade
  refine .ite (fun _ => ?_) fun _ => .refl s
  split
  · exact (keeps_returnToRest _ x).after (keeps_modScreen s)
  · exact keeps_returnToRest s x
  all_goals exact .refl s

theorem keeps_rakeTrip (x : Screen) : Keeps s (rakeTrip x s) := .ite (fun _ => keeps_overloadInRising s x) fun _ => .refl s

theorem keeps_strokeExpired (x : Screen) : Keeps s (strokeExpired x s) := by
  have hstop : Keeps s (s.modScreen x fun r => { r with strokeTimer := none }) := keeps_modScreen s
  unfold strokeExpired
  dsimp only
  split
  · exact hstop.trans (keeps_jamScreen _ x _)
  · exact hstop.trans (keeps_jamScreen _ x _)
  · exact hstop.trans (keeps_jamScreen _ x _)
  all_goals exact hstop

theorem keeps_clearExpired (x : Screen) : Keeps s (clearExpired x s) :=
  (keeps_modScreen s (f := fun r => { r with clearTimer := none })).trans
    (.ite (fun _ => (keeps_enterScreen _ .rising _).trans (keeps_judgeRise _ x)) fun _ => .refl _)

theorem keeps_intervalExpired (x : Screen) : Keeps s (intervalExpired x s) :=
  (keeps_trigger _ x).after (keeps_modScreen s)

theorem keeps_stallScreen (x : Screen) : Keeps s (stallScreen x s) :=
  .ite (fun _ => keeps_enterScreen s .stalled _) fun _ => .refl s

theorem keeps_homeStalled (x : Screen) : Keeps s (homeStalled x s) :=
  .ite (fun _ => keeps_enterHoming s x) fun _ => .refl s

theorem keeps_screensLoseSupply : Keeps s (screensLoseSupply s) :=
  (keeps_forScreens keeps_stallScreen _).after (.of_watched)

theorem keeps_screensGainSupply (new : SupplyState) : Keeps s (screensGainSupply new s) :=
  (Keeps.of_watched (s := s) (t := { s with screens := { s.screens with supply := new } })).trans
    ((Keeps.ite (fun _ => keeps_forScreens keeps_homeStalled _) fun _ => .refl _).trans
      (.ite (fun _ => keeps_forScreens keeps_retest _) fun _ => .refl _))

theorem keeps_screensRamping (on : Bool) : Keeps s (screensRamping on s) :=
  (Keeps.of_watched (s := s) (t := { s with screens := { s.screens with ramping := on } })).trans
    (.ite (fun _ => .refl _) fun _ => keeps_forScreens keeps_retest _)

theorem keeps_screensStorm (new : StormState) : Keeps s (screensStorm new s) :=
  (Keeps.of_watched (s := s) (t := { s with screens := { s.screens with storm := new } })).trans
    (.ite (fun _ => keeps_forScreens keeps_rereadInterval _) fun _ => .refl _)

theorem keeps_screenSelectorChange (x : Screen) (auto : Bool) : Keeps s (screenSelectorChange x auto s) := by
  have hwrite : Keeps s (s.modScreen x fun r => { r with selectorAuto := auto }) := keeps_modScreen s
  have hmark (t : State) (m : Bool) : Keeps t (t.modScreen x fun r => { r with resetMark := m }) :=
    keeps_modScreen t
  refine hwrite.trans (.ite (fun _ => .ite (fun _ => ?_) fun _ => ?_) fun _ => .refl _)
  · split
    · exact .ite (fun _ => .ite (fun _ => hmark _ _) fun _ => keeps_clearJam _ x) fun _ => .refl _
    · exact keeps_enterHoming _ x
    all_goals exact .refl _
  · split
    · exact hmark _ _
    · exact .refl _
    all_goals exact keeps_enterScreen _ .off _

theorem keeps_sight (x : Screen) (d : Option Int) : Keeps s (sight x d s) := by
  have hwrite : Keeps s (s.setScreen x (sighted s x d)) := keeps_setScreen s fun h => h
  exact .ite (fun _ => hwrite) fun _ => (keeps_report _ _ _ _).after hwrite

theorem keeps_updateDifferential (accepted : Bool) (x : Screen) : Keeps s (updateDifferential accepted x s) := by
  by_cases h : (s.screen x).inUse = true
  · rw [updateDifferential_sight accepted h]
    split
    · exact keeps_sight s x _
    · exact .ite (fun _ => (keeps_trigger _ x).after (keeps_sight s x _)) fun _ => keeps_sight s x _
  · rw [updateDifferential, if_neg h]; exact .refl s

theorem keeps_screensReport (c : Channel) (r : ChannelReport) : Keeps s (screensReport c r s) := by
  cases c with
  | ww => exact .refl s
  | inlet =>
    exact (Keeps.of_watched (s := s) (t := { s with screens := { s.screens with inReport := r } })).trans
      (keeps_forScreens (fun s x => keeps_updateDifferential s _ x) _)
  | sa =>
    exact (Keeps.of_watched (s := s) (t := { s with screens := { s.screens with saReport := r } })).trans
      (keeps_updateDifferential _ _ _)
  | sb =>
    exact (Keeps.of_watched (s := s) (t := { s with screens := { s.screens with sbReport := r } })).trans
      (keeps_updateDifferential _ _ _)

theorem keeps_inhibitOn (x : Screen) : Keeps s (inhibitOn x s) := by
  refine keeps_setScreen s fun h => ?_
  dsimp only
  split <;> [exact ScreenRec.enter_follows _ _; exact h]

theorem keeps_inhibitOff (x : Screen) : Keeps s (inhibitOff x s) :=
  (keeps_modScreen s (f := fun r => { r with inhibit := false })).trans
    (.ite (fun _ => (keeps_enterScreen _ .idle fun r => r).trans
      (.ite (fun _ => keeps_startTest _ x) fun _ => .refl _)) fun _ => .refl _)

end Sys2Proof.Machine
end

section
/-! PROOFS. What the Roster, the Arbiter and the Supply Monitor keep of the outputs and of the pumps that the cutoff holds. -/

namespace Sys2Proof.Machine

open Sys2Proof.Spec

set_option Elab.async false

variable (s : State)

/-! ## A pump's change of state (R45) -/

/-- A record that has entered a state has the outputs of that state. -/
theorem PumpRec.enter_follows (st : PumpState) (p : PumpRec) : (p.enter st).Follows := ⟨rfl, rfl⟩

/-- A pump enters a state that the cutoff allows it. -/
theorem keeps_enterState {b : Bay} {st : PumpState}
    (h : s.duty.cutoff = true → st.committed = true → (s.pump b).state.committed = true) : Keeps s (enterState b st s) := by
  have henter : Keeps s (s.modPump b (·.enter st)) := keeps_setPump s (fun _ => PumpRec.enter_follows st _) h
  exact .ite (fun _ => .refl s) fun _ => (keeps_post _ _).after
    ((Keeps.ite (fun _ => keeps_post _ _) fun _ => .refl _).after henter)

/-- A pump goes to a state that is not QUEUED, STARTING or RUNNING. -/
theorem keeps_enterUncommitted (b : Bay) {st : PumpState} (h : st.committed = false := by rfl) : Keeps s (enterState b st s) :=
  keeps_enterState s fun _ hc => absurd hc (by simp [h])

theorem keeps_letGo {st : StarterState} (h : st ≠ .ramping) : Keeps s (letGo st s) :=
  keeps_arbiter s fun _ => (beq_eq_false_iff_ne.2 h).symm

theorem keeps_enterGap : Keeps s (enterGap s) := keeps_arbiter s

theorem keeps_abortRamp (b : Bay) : Keeps s (abortRamp b s) :=
  .ite (fun _ => (keeps_screensRamping _ false).after (keeps_enterGap s)) fun _ => .refl s

theorem keeps_depart (b : Bay) : Keeps s (depart b s) := by
  unfold depart
  split
  · exact .of_watched
  · exact keeps_abortRamp s b
  all_goals exact .refl s

/-- A pump goes elsewhere, to a state that is not QUEUED, STARTING or RUNNING. -/
theorem keeps_leave (b : Bay) {st : PumpState} (h : st.committed = false := by rfl) : Keeps s (enterState b st (depart b s)) :=
  (keeps_enterUncommitted _ b h).after (keeps_depart s b)

theorem keeps_goResting (b : Bay) : Keeps s (goResting b s) :=
  (keeps_modPump _).after (keeps_leave s b)

theorem keeps_goIdle (b : Bay) : Keeps s (goIdle b s) := keeps_leave s b

theorem keeps_goUnavailable (b : Bay) : Keeps s (goUnavailable b s) := keeps_leave s b

theorem keeps_stopConfirmed (b : Bay) : Keeps s (stopConfirmed b s) :=
  .ite (fun _ => keeps_goResting s b) fun _ => keeps_goUnavailable s b

theorem keeps_goStopping (b : Bay) : Keeps s (goStopping b s) := by
  have hstop : Keeps s ((enterState b .stopping (depart b s)).modPump b fun p =>
      { p with stopConfirm := some (seconds (s.itemNat 3 4)) }) :=
    (keeps_modPump _).after (keeps_leave s b)
  exact .ite (fun _ => hstop) fun _ => (keeps_stopConfirmed _ b).after hstop

theorem keeps_lockOut (b : Bay) (why : LockoutReason) : Keeps s (lockOut b why s) :=
  (keeps_report _ _ _ _).after ((keeps_modPump _).after (keeps_leave s b))

theorem keeps_releaseLockout (b : Bay) : Keeps s (releaseLockout b s) := by
  have hclear : Keeps s ((s.modPump b fun p => { p with reason := none, resetMark := false }).report (lockoutSource b) false) :=
    (keeps_report _ _ _ _).after (keeps_modPump s)
  exact .ite (fun _ => (keeps_goResting _ b).after hclear) fun _ => (keeps_goUnavailable _ b).after hclear

theorem keeps_setStartLimited (b : Bay) (on : Bool) : Keeps s (setStartLimited b on s) :=
  .ite (fun _ => .refl s) fun _ => (keeps_post _ _).after
    ((Keeps.ite (fun _ => .refl _) fun _ => keeps_post _ _).after
      (keeps_modPump s (b := b) (f := fun p => { p with startLimited := on })))

theorem keeps_judgeStartLimited (b : Bay) : Keeps s (judgeStartLimited b s) := keeps_setStartLimited s b _

/-! ## Grants (R49, R51, R91) -/

/-- A grant is taken by a pump that was QUEUED. -/
theorem keeps_takeGrant {b : Bay} (rest : List Bay) (hq : (s.pump b).state = .queued) : Keeps s (takeGrant b rest s) :=
  (keeps_screensRamping _ true).after ((keeps_arbiter _).after
    ((keeps_modPump _).after (keeps_enterState s fun _ _ => by rw [hq]; rfl)))

theorem keeps_declineGrant (b : Bay) (rest : List Bay) : Keeps s (declineGrant b rest s) :=
  (keeps_setStartLimited _ b true).after ((keeps_enterUncommitted _ b).after (.of_watched))

theorem keeps_grantFrom (q : List Bay) : ∀ s, Keeps s (grantFrom q s) := by
  induction q with
  | nil => exact Keeps.refl
  | cons b rest ih =>
    exact fun s => .ite (fun _ => .ite (fun hq => .ite (fun _ => (ih _).after (keeps_declineGrant s b rest))
      fun _ => keeps_takeGrant s rest hq) fun _ => (ih _).after (.of_watched)) fun _ => .refl s

theorem keeps_grantTest : Keeps s (grantTest s) := keeps_grantFrom _ s

/-- No pump is QUEUED under the cutoff (R49). -/
theorem cutoff_of_mayQueue {b : Bay} (h : s.mayQueue b = true) : s.duty.cutoff = false := by
  simp only [State.mayQueue, Bool.and_eq_true, Bool.not_eq_true'] at h
  exact h.1.1.2

theorem keeps_queueOne (b : Bay) : Keeps s (queueOne b s) := by
  refine .ite (fun hq => .ite (fun _ => keeps_setStartLimited s b true) fun _ => ?_) fun _ => .refl s
  have hcutoff : s.duty.cutoff = true → (PumpState.queued).committed = true → (s.pump b).state.committed = true :=
    fun hc => absurd hc (by rw [cutoff_of_mayQueue s hq]; decide)
  have hjoin : Keeps (enterState b .queued s) { enterState b .queued s with
      arbiter := { (enterState b .queued s).arbiter with queue := (enterState b .queued s).arbiter.queue ++ [b] } } :=
    .of_watched
  exact (keeps_grantTest _).after (hjoin.after (keeps_enterState s hcutoff))

theorem keeps_queueTest : Keeps s (queueTest s) := keeps_foldl (fun s b => keeps_queueOne s b) _ s

/-! ## The starter's health (R95 to R97) -/

theorem keeps_reportStarter : Keeps s (reportStarter s) := .ite (fun _ => keeps_report _ _ _ _) fun _ => keeps_report _ _ _ _

theorem keeps_heldFreed (held : Option Bay) : Keeps s (heldFreed held s) := by
  unfold heldFreed
  split
  · exact .ite (fun _ => keeps_enterUncommitted s _) fun _ => .refl s
  · exact .refl s

theorem keeps_enterFaulted : Keeps s (enterFaulted s) := by
  have hlet : Keeps s (letGo .faulted { s with arbiter := { s.arbiter with gapTimer := none } }) :=
    (keeps_letGo _ (by decide)).after (.of_watched)
  have hfreed := (keeps_heldFreed _ s.arbiter.held).after hlet
  exact (keeps_reportStarter _).after (.ite (fun _ => (keeps_screensRamping _ false).after hfreed) fun _ => hfreed)

theorem keeps_leaveFaulted : Keeps s (leaveFaulted s) :=
  (keeps_post _ _).after ((keeps_reportStarter _).after
    (.ite (fun _ => keeps_letGo s (by decide)) fun _ => keeps_enterGap s))

theorem keeps_judgeStarter : Keeps s (judgeStarter s) := by
  have hwrite : Keeps s { s with arbiter := { s.arbiter with health := s.judgedHealth } } := .of_watched
  exact .ite (fun _ => hwrite) fun _ => .ite (fun _ => (keeps_enterFaulted _).after hwrite) fun _ =>
    .ite (fun _ => (keeps_leaveFaulted _).after hwrite) fun _ => (keeps_reportStarter _).after hwrite

theorem keeps_arbiterGate (st : SupplyState) (restore : Bool) : Keeps s (arbiterGate st restore s) :=
  (keeps_grantTest _).after ((keeps_judgeStarter _).after (.of_watched))

theorem keeps_arbiterLosesSupply : Keeps s (arbiterLosesSupply s) := by
  have hlost (st : StarterState) (h : StarterHealth) (hst : st ≠ .ramping) : Keeps s { letGo st s with
      arbiter := { (letGo st s).arbiter with
        gapTimer := none, queue := [], gateSupply := .none, gateRestore := false, health := h } } :=
    .after (.of_watched) (keeps_letGo s hst)
  have hlet := hlost (if s.closed .starterFault then .faulted else .idle)
    (if s.closed .starterFault then .faultInput else .healthy) (by split <;> decide)
  have htold := Keeps.ite (p := (s.arbiter.state == .ramping) = true)
    (fun _ => (keeps_screensRamping _ false).after hlet) fun _ => hlet
  have hreported := Keeps.ite (p := (s.arbiter.state == .faulted || s.closed .starterFault) = true)
    (fun _ => (keeps_reportStarter _).after htold) fun _ => htold
  exact .ite (fun _ => (keeps_post _ _).after hreported) fun _ => hreported

/-! ## Contacts of a bay (R46, R47, R55 to R57, R60, R61, R63) -/

theorem keeps_leaveUnavailable (b : Bay) : Keeps s (leaveUnavailable b s) :=
  .ite (fun _ => keeps_lockOut s b _) fun _ => .ite (fun _ => keeps_goStopping s b) fun _ => keeps_goIdle s b

theorem keeps_setForced (b : Bay) (f : Forced) : Keeps s (setForced b f s) :=
  .ite (fun _ => .refl s) fun _ => (keeps_post _ _).after (keeps_modPump s)

theorem keeps_handChange (b : Bay) (was : Bool) : Keeps s (handChange b was s) :=
  .ite (fun _ => .refl s) fun _ => keeps_post s _

theorem keeps_selectorOffAuto (b : Bay) (pos : Selector) : Keeps s (selectorOffAuto b pos s) := by
  unfold selectorOffAuto
  split
  · exact .refl s
  · exact .refl s
  · exact .ite (fun _ => keeps_modPump s) fun _ => .refl s
  all_goals exact keeps_goUnavailable s b

theorem keeps_selectorToAuto (b : Bay) : Keeps s (selectorToAuto b s) := by
  unfold selectorToAuto
  dsimp only
  split
  · exact .ite (fun _ => keeps_leaveUnavailable s b) fun _ => .refl s
  · exact .ite (fun _ => .ite (fun _ => keeps_modPump s) fun _ => keeps_releaseLockout s b)
      fun _ => .refl s
  all_goals exact .refl s

theorem keeps_selectorChange (b : Bay) (pos : Selector) : Keeps s (selectorChange b pos s) := by
  by_cases ha : (s.pump b).state = .absent
  · rw [selectorChange_absent pos ha]; exact keeps_modPump s
  · rw [selectorChange_eq pos ha]
    have hpos : Keeps s (s.modPump b fun p => { p with selector := pos }) := keeps_modPump s
    have hwritten : Keeps s (selectorWritten b pos s) := .ite (fun _ => hpos) fun _ => (keeps_setForced _ b _).after hpos
    have hacts : Keeps s (selectorActs b pos (selectorWritten b pos s)) :=
      .ite (fun _ => (keeps_selectorToAuto _ b).after hwritten) fun _ => (keeps_selectorOffAuto _ b pos).after hwritten
    exact (keeps_handChange _ b _).after ((keeps_post _ _).after hacts)

theorem keeps_feedbackActs (b : Bay) (on : Bool) : Keeps s (feedbackActs b on s) := by
  unfold feedbackActs
  split
  · exact keeps_lockOut s b _
  · exact keeps_lockOut s b _
  · exact keeps_lockOut s b _
  · exact keeps_modPump s
  · exact keeps_stopConfirmed s b
  · exact .refl s

theorem keeps_feedbackChange (b : Bay) (on : Bool) : Keeps s (feedbackChange b on s) := by
  rw [feedbackChange_eq]; exact (keeps_handChange _ b _).after (keeps_feedbackActs s b on)

theorem keeps_overloadTrip (b : Bay) : Keeps s (overloadTrip b s) := by
  unfold overloadTrip
  split
  · exact .refl s
  · exact .refl s
  · exact (keeps_report _ _ _ _).after (keeps_modPump s)
  all_goals exact keeps_lockOut s b _

theorem keeps_sealChange (b : Bay) (leak : Bool) : Keeps s (sealChange b leak s) :=
  .ite (fun _ => .refl s) fun _ => (keeps_post _ _).after ((keeps_report _ _ _ _).after
    (keeps_modPump s (b := b) (f := fun p => { p with degraded := leak })))

/-! ## The hand-over, the cutoff, shedding and loss of supply (R50, R53, R54, R58, R59, R101, R102) -/

theorem keeps_unwanted (b : Bay) : Keeps s (unwanted b s) := by
  unfold unwanted
  split
  · exact keeps_goIdle s b
  · exact keeps_goResting s b
  · exact .ite (fun _ => keeps_goStopping s b) fun _ => .refl s
  all_goals exact .refl s

theorem keeps_changeoverStop (b : Bay) : Keeps s (changeoverStop b s) :=
  .ite (fun _ => keeps_goStopping s b) fun _ => .refl s

theorem keeps_cutoffPump (b : Bay) : Keeps s (cutoffPump b s) := by
  unfold cutoffPump
  split
  · exact keeps_goResting s b
  · exact keeps_goResting s b
  · exact keeps_goIdle s b
  all_goals exact .refl s

theorem keeps_shedPump (b : Bay) : Keeps s (shedPump b s) := by
  unfold shedPump
  split
  · exact keeps_goResting s b
  · exact keeps_goResting s b
  all_goals exact .refl s

theorem keeps_losePump (b : Bay) : Keeps s (losePump b s) := by
  have hrest : Keeps s ((enterState b .resting s).modPump b fun p =>
      { p with minRest := some (seconds (s.itemNat 3 2)) }) :=
    (keeps_modPump _).after (keeps_enterUncommitted s b)
  unfold losePump
  dsimp only
  split
  · exact keeps_enterUncommitted s b
  · exact hrest
  · exact hrest
  · exact hrest
  all_goals exact .refl s

theorem keeps_shedToLimit (n : Nat) : ∀ s, Keeps s (shedToLimit n s) := by
  induction n with
  | zero => exact Keeps.refl
  | succ n ih =>
    refine fun s => .ite (fun _ => ?_) fun _ => .refl s
    split
    · exact (ih _).after (keeps_shedPump s _)
    · exact .refl s

theorem keeps_withdrawExcess (n : Nat) : ∀ s, Keeps s (withdrawExcess n s) := by
  induction n with
  | zero => exact Keeps.refl
  | succ n ih =>
    refine fun s => .ite (fun _ => ?_) fun _ => .refl s
    split
    · exact (ih _).after (keeps_goIdle s _)
    · exact .refl s

/-! ## The Supply Monitor (R98 to R104) -/

theorem keeps_supply (x : Supply) : Keeps s { s with supply := x } := .of_watched

theorem keeps_recomputeLimit : Keeps s (recomputeLimit s) := by
  have hshed := (keeps_shedToLimit 4 _).after (keeps_supply s { s.supply with limit := s.limitOf s.supply.state })
  exact .ite (fun _ => keeps_supply s _) fun _ =>
    .ite (fun _ => (keeps_post _ _).after hshed) fun _ => (keeps_withdrawExcess 4 _).after hshed

theorem keeps_enterNone : Keeps s (enterNone s) :=
  (keeps_screensLoseSupply _).after ((keeps_arbiterLosesSupply _).after
    ((keeps_forBays keeps_losePump _).after (keeps_supply s _)))

theorem keeps_changeSupply (new : SupplyState) : Keeps s (changeSupply new s) := by
  have hdecided := keeps_supply s { s.supply with state := new }
  have hlimit := Keeps.ite (p := new = .none) (fun _ => (keeps_enterNone _).after hdecided)
    fun _ => (keeps_recomputeLimit _).after hdecided
  have hgate (x : Supply) (restore : Bool) := (keeps_arbiterGate _ new restore).after ((keeps_supply _ x).after hlimit)
  exact (keeps_report _ _ _ _).after ((keeps_post _ _).after
    (.ite (fun _ => hgate _ _) fun _ => (keeps_screensGainSupply _ new).after (hgate _ _)))

theorem keeps_decideSupply : Keeps s (decideSupply s) := .ite (fun _ => .refl s) fun _ => keeps_changeSupply s _

theorem keeps_mainsChange (present : Bool) : Keeps s (mainsChange present s) :=
  (keeps_decideSupply _).after ((keeps_report _ _ _ _).after (keeps_supply s _))

theorem keeps_generatorChange (running : Bool) : Keeps s (generatorChange running s) :=
  (keeps_decideSupply _).after (keeps_supply s _)

theorem keeps_restoreExpired : Keeps s (restoreExpired s) := (keeps_arbiterGate _ _ _).after (keeps_supply s _)

theorem keeps_limitWritten : Keeps s (limitWritten s) :=
  .ite (fun _ => keeps_recomputeLimit s) fun _ => (keeps_post _ _).after (keeps_recomputeLimit s)

/-! ## The timers of the pumps and of the Arbiter (R48, R52, R54, R57, R68, R92, R94) -/

theorem keeps_bayExpires (b : Bay) : Keeps s (bayExpires b s) :=
  .ite (fun _ => .refl s) fun _ => (keeps_judgeStartLimited _ b).after (keeps_modPump s)

theorem keeps_rosterSecond : Keeps s (rosterSecond s) := (keeps_forBays keeps_bayExpires _).after (.of_watched)

theorem keeps_minRunServed (b : Bay) : Keeps s (minRunServed b s) := by
  have hserved : Keeps s (s.modPump b fun p => { p with minRun := none }) := keeps_modPump s
  exact .ite (fun _ => (keeps_goStopping _ b).after hserved) fun _ => hserved

theorem keeps_minRestServed (b : Bay) : Keeps s (minRestServed b s) := by
  have hserved : Keeps s (s.modPump b fun p => { p with minRest := none }) := keeps_modPump s
  exact .ite (fun _ => (keeps_judgeStartLimited _ b).after ((keeps_goIdle _ b).after hserved)) fun _ => hserved

theorem keeps_holdEnds : Keeps s (holdEnds s) := (keeps_grantTest _).after ((keeps_post _ _).after (.of_watched))

/-- A start settled on the run feedback: the pump was STARTING. -/
theorem keeps_settleStart (b : Bay) : Keeps s (settleStart b s) :=
  .ite (fun hst => .ite (fun _ => (keeps_modPump _).after
    (keeps_enterState s fun _ _ => by rw [hst]; rfl)) fun _ => keeps_lockOut s b _) fun _ => .refl s

theorem keeps_rampExpires : Keeps s (rampExpires s) := by
  refine (keeps_screensRamping _ false).after (.after ?_ (keeps_enterGap s))
  split
  · exact keeps_settleStart _ _
  · exact .refl _

theorem keeps_gapExpires : Keeps s (gapExpires s) := by
  refine .ite (fun hgap => (keeps_grantTest _).after (keeps_arbiter s fun hf => ?_)) fun _ => .of_watched
  rw [Arbiter.Follows, hgap] at hf
  exact hf

end Sys2Proof.Machine
end

section
/-! PROOFS. What the other blocks and the owners of the requests keep of the outputs and of the pumps that the cutoff holds. -/

namespace Sys2Proof.Machine

open Sys2Proof.Spec

set_option Elab.async false

variable (s : State)

/-! ## Storm state and rain (R29 to R38) -/

theorem keeps_setStorm (st : StormState) : Keeps s (setStorm st s) :=
  .ite (fun _ => .refl s) fun _ => (keeps_screensStorm _ st).after ((keeps_post _ _).after .of_watched)

theorem keeps_enterStorm : Keeps s (enterStorm s) := (keeps_setStorm _ _).after .of_watched

theorem keeps_stormExit : Keeps s (stormExit s) := .ite (fun _ => keeps_setStorm s _) fun _ => .refl s

theorem keeps_episodeOpened : Keeps s (episodeOpened s) := by
  have hflag : Keeps s { s with rain := { s.rain with episodeFlag := true } } := .of_watched
  exact .ite (fun _ => hflag) fun _ => (keeps_enterStorm _).after hflag

theorem keeps_episodeEnded : Keeps s (episodeEnded s) := (keeps_stormExit _).after .of_watched

theorem keeps_judgeStorm : Keeps s (judgeStorm s) := by
  unfold judgeStorm
  split
  · exact .refl s
  · exact .ite (fun _ => keeps_enterStorm s) fun _ => .refl s
  · exact (keeps_stormExit _).after .of_watched

theorem keeps_closeBin : Keeps s (closeBin s) := (keeps_judgeStorm _).after .of_watched

theorem keeps_modProgress (f : Tally → Tally) : Keeps s (s.modProgress f) := .of_watched

theorem keeps_modPending (f : Tally → Tally) : Keeps s (s.modPending f) := .of_watched

theorem keeps_episodeTip : Keeps s (episodeTip s) := .ite (fun _ => keeps_modPending s _) fun _ => keeps_modProgress s _

theorem keeps_countTip : Keeps s (countTip s) := by
  have htip := (keeps_episodeTip _).after (.of_watched (s := s) (t := { s with rain := s.rain.countTip (s.itemNat 2 5) }))
  exact .ite (fun _ => (keeps_setStorm _ _).after htip) fun _ => htip

theorem keeps_dryOut : Keeps s (dryOut s) := by
  have hstop : Keeps s { s with rain := { s.rain with dryTimer := none } } := .of_watched
  exact .ite (fun _ => (keeps_setStorm _ _).after hstop) fun _ => hstop

/-! ## Episodes and spills (R126, R143 to R152) -/

theorem keeps_reportOverflow : Keeps s (reportOverflow s) :=
  .ite (fun _ => keeps_report s _ _ _) fun _ => keeps_report s _ _ _

theorem keeps_settleEpisode : Keeps s (settleEpisode s) := (keeps_episodeEnded _).after .of_watched

theorem keeps_openEpisode : Keeps s (openEpisode s) := by
  unfold openEpisode
  split
  · exact .refl s
  · have hopened (u : State) (h : Keeps s u) : Keeps s (reportOverflow ((episodeOpened u).post (.allOut true))) :=
      (keeps_reportOverflow _).after ((keeps_post _ _).after ((keeps_episodeOpened u).after h))
    exact .ite (fun _ => (keeps_report _ _ _ _).after (hopened _ .of_watched)) fun _ => hopened _ .of_watched

theorem keeps_closeEpisode : Keeps s (closeEpisode s) := by
  have hprogress : Keeps s (s.setEpisodes (s.episodes.setProgress true (some s.clock.time))) := .of_watched
  exact (keeps_reportOverflow _).after ((keeps_post _ _).after
    (.ite (fun _ => (keeps_settleEpisode _).after hprogress) fun _ => .of_watched))

theorem keeps_resumeEpisode : Keeps s (resumeEpisode s) :=
  (keeps_reportOverflow _).after ((keeps_post _ _).after .of_watched)

theorem keeps_takeSpill : Keeps s (takeSpill s).1 := by
  unfold takeSpill
  split
  · exact .refl s
  · split
    · exact .refl s
    · exact keeps_resumeEpisode s
    all_goals exact .of_watched

theorem keeps_takeEnded : Keeps s (takeEnded s) :=
  .ite (fun _ => .of_watched) fun _ => .ite (fun _ => keeps_closeEpisode s) fun _ => .refl s

theorem keeps_takeSecond (r : SpillSecond) : Keeps s (takeSecond r s) := by
  have hspill := keeps_takeSpill s
  unfold takeSecond
  refine .ite (fun _ => ?_) fun _ => ?_
  · split
    · rename_i h; rw [h] at hspill; exact (keeps_modPending _ _).after hspill
    · rename_i h; rw [h] at hspill; exact (keeps_modProgress _ _).after hspill
    · rename_i h; rw [h] at hspill; exact hspill
  · have hended : Keeps s (if r.before = true then takeEnded s else s) := .ite (fun _ => keeps_takeEnded s) fun _ => .refl s
    exact .ite (fun _ => (keeps_modProgress _ _).after hended) fun _ => hended

theorem keeps_integrate : Keeps s (integrate s) := by
  have hsecond (m : Spill) (r : SpillSecond) := (keeps_takeSecond _ r).after (.of_watched (s := s) (t := { s with spill := m }))
  exact .ite (fun _ => hsecond _ _) fun _ => (keeps_report _ _ _ _).after (hsecond _ _)

/-! ## Channels (R2, R13, R17, R18) -/

theorem keeps_reportChannel (c : Channel) : Keeps s (reportChannel c s) := by
  refine (keeps_report _ _ _ _).after ?_
  cases c with
  | ww => exact (keeps_report _ _ _ _).after (keeps_report s _ _ _)
  | inlet => exact keeps_report s _ _ _
  | sa => exact .refl s
  | sb => exact .refl s

theorem keeps_handReport (c : Channel) (r : ChannelReport) : Keeps s (handReport c r s) := by
  cases c with
  | ww => exact keeps_post s _
  | inlet => exact (keeps_screensReport _ .inlet r).after .of_watched
  | sa => exact keeps_screensReport s .sa r
  | sb => exact keeps_screensReport s .sb r

/-! ## Authority (R187 to R193) -/

/-- Every forced mode is set to NONE: no output and no state of a pump moves. -/
theorem keeps_cancelForced : Keeps s (cancelForced s) := by
  refine .ite (fun _ => .refl s) fun _ => (keeps_post _ _).after ?_
  have hpump (b : Bay) : ({ s with roster := { s.roster with pumps := s.roster.pumps.map PumpRec.unforced } } : State).pump b =
      (s.pump b).unforced := PerBay.get_map _ _ _
  exact ⟨fun b h => by rw [hpump]; exact h, fun _ => id, id, rfl, rfl, fun _ b => by rw [hpump]; exact id⟩

theorem keeps_lapse : Keeps s (lapse s) := by
  rw [lapse_eq]
  exact .after .of_watched ((keeps_forScreens keeps_inhibitOff _).after (keeps_cancelForced s))

theorem keeps_permitChange (on : Bool) : Keeps s (permitChange on s) := by
  have hpermit : Keeps s (s.setAuthority { s.authority with permit := on }) := keeps_setAuthority s _
  refine .ite (fun _ => ?_) fun _ => ?_
  · split
    · exact (keeps_setAuthority _ _).after hpermit
    all_goals exact hpermit
  · split
    · exact (keeps_setAuthority _ _).after hpermit
    · exact (keeps_lapse _).after ((keeps_setAuthority _ _).after hpermit)
    all_goals exact hpermit

/-! ## Contacts (R26) -/

theorem keeps_handSwitch (w : Switch) (v : Bool) : Keeps s (handSwitch w v s) := by
  cases w with
  | hf => exact (keeps_post _ _).after (keeps_report s _ _ _)
  | lf => exact keeps_post s _
  | sp => exact .of_watched
  | runFeedback b => exact keeps_feedbackChange s b v
  | overload b => exact .ite (fun _ => .refl s) fun _ => keeps_overloadTrip s b
  | sealLeak b => exact keeps_sealChange s b v
  | screenSelector x => exact keeps_screenSelectorChange s x v
  | topLimit x => exact .ite (fun _ => keeps_topMade s x) fun _ => .refl s
  | homeLimit x => exact .ite (fun _ => keeps_homeMade s x) fun _ => .refl s
  | rakeOverload x => exact .ite (fun _ => .refl s) fun _ => keeps_rakeTrip s x
  | starterReady => exact keeps_judgeStarter s
  | starterFault => exact keeps_judgeStarter s
  | mainsPresent => exact keeps_mainsChange s v
  | generatorRunning => exact keeps_generatorChange s v
  | accept => exact .ite (fun _ => .of_watched) fun _ => .refl s
  | remotePermit => exact keeps_permitChange s v

/-! ## The owners' answers (R180) -/

/-- An owner whose answer keeps the outputs and the pumps that the cutoff holds. -/
def AnswerKeeps (act : State → Answer) : Prop := ∀ s, Keeps s (act s).state

theorem privileged_keeps (ans : Nat) {act : State → Answer} (h : AnswerKeeps act) : AnswerKeeps (privileged ans act) := by
  intro s
  unfold privileged
  split
  · exact .refl s
  · exact .refl s
  · split
    · exact (h _).after (keeps_setAuthority s _)
    · exact (keeps_lapse _).after (keeps_setAuthority s _)
  · exact .refl s

theorem readRecords_keeps (size : Nat) (record : State → Nat → List Byte) (start count : Nat) :
    AnswerKeeps fun s => readRecords size (record s) start count s := by
  intro s; unfold readRecords; dsimp only
  split <;> [exact .refl s; (split <;> exact .refl s)]

theorem readSettings_keeps (table start count : Nat) : AnswerKeeps (readSettings table start count) := by
  intro s; unfold readSettings
  split
  · exact .refl s
  · exact readRecords_keeps _ (fun s i => signed (s.item table i)) start count s

theorem ackCondition_keeps (i n : Nat) : AnswerKeeps (ackCondition i n) := by
  intro s; unfold ackCondition
  split <;> [exact .refl s; (split <;> [exact .refl s; exact .of_watched])]

theorem shelve_keeps (i m : Nat) : AnswerKeeps (shelve i m) := by
  intro s; unfold shelve
  split
  · exact .refl s
  · split
    · exact .refl s
    · split <;> [exact .of_watched; exact .refl s]

theorem unshelve_keeps (i : Nat) : AnswerKeeps (unshelve i) := by
  intro s; unfold unshelve
  split <;> [exact .refl s; exact .of_watched]

theorem keeps_outOfService (b : Bay) : Keeps s (outOfService b s) := by
  have hwrite := (keeps_setForced _ b .none).after (keeps_modPump s (b := b) (f := fun p => { p with inService := false }))
  unfold outOfService
  dsimp only
  split
  · exact (keeps_goUnavailable _ b).after hwrite
  · exact (keeps_goUnavailable _ b).after hwrite
  · exact (keeps_goUnavailable _ b).after hwrite
  · exact (keeps_goStopping _ b).after hwrite
  · exact (keeps_goStopping _ b).after hwrite
  all_goals exact hwrite

theorem keeps_intoService (b : Bay) : Keeps s (intoService b s) := by
  have hwrite := keeps_modPump s (b := b) (f := fun p => { p with inService := true })
  exact .ite (fun _ => (keeps_leaveUnavailable _ b).after hwrite) fun _ => hwrite

theorem pumpService_keeps (b v : Nat) : AnswerKeeps (pumpService b v) := by
  intro s; unfold pumpService
  split
  · exact .refl s
  · split
    · exact .refl s
    · split
      · exact .refl s
      · split
        · exact .refl s
        · split <;> [exact keeps_intoService s _; exact keeps_outOfService s _]

theorem pumpForce_keeps (b m : Nat) : AnswerKeeps (pumpForce b m) := by
  intro s; unfold pumpForce
  split
  · exact .refl s
  · split
    · exact .refl s
    · split
      · exact .refl s
      · split <;> [exact .refl s; exact keeps_setForced s _ _]

theorem pumpReset_keeps (b : Nat) : AnswerKeeps (pumpReset b) := by
  intro s; unfold pumpReset
  split
  · exact .refl s
  · split
    · exact .refl s
    · split
      · exact .refl s
      · split <;> [exact .refl s; exact keeps_releaseLockout s _]

theorem screenRake_keeps (x : Nat) : AnswerKeeps (screenRake x) := by
  intro s; unfold screenRake
  split
  · exact .refl s
  · split <;> [exact .refl s; exact keeps_trigger s _]

theorem screenInhibit_keeps (x v : Nat) : AnswerKeeps (screenInhibit x v) := by
  intro s; unfold screenInhibit
  split
  · exact .refl s
  · split
    · exact .refl s
    · split
      · exact .refl s
      · exact .ite (fun _ => keeps_inhibitOn s _) fun _ => keeps_inhibitOff s _

theorem screenReset_keeps (x : Nat) : AnswerKeeps (screenReset x) := by
  intro s; unfold screenReset
  split
  · exact .refl s
  · split
    · exact .refl s
    · split
      · exact .refl s
      · split <;> [exact .refl s; exact keeps_clearJam s _]

theorem retireEpisode_keeps (i n : Nat) : AnswerKeeps (retireEpisode i n) := by
  intro s; unfold retireEpisode
  split
  · exact .refl s
  · split <;> [exact .refl s; (split <;> [exact .refl s; exact .of_watched])]

theorem retireAccumulator_keeps (n : Nat) : AnswerKeeps (retireAccumulator n) := by
  intro s; unfold retireAccumulator
  split <;> [exact .refl s; (split <;> [exact .refl s; exact .of_watched])]

theorem openAuthority_keeps : AnswerKeeps openAuthority := by
  intro s; unfold openAuthority
  split <;> [(split <;> exact .of_watched); exact .refl s]

theorem answerChallenge_keeps (v : Nat) : AnswerKeeps (answerChallenge v) := by
  intro s; unfold answerChallenge
  split
  · exact .refl s
  · split <;> exact .of_watched
  · split <;> [exact .of_watched; exact (keeps_lapse _).after (keeps_setAuthority s _)]
  · exact .refl s

theorem releaseAuthority_keeps : AnswerKeeps releaseAuthority := by
  intro s; unfold releaseAuthority
  split
  · exact .refl s
  · exact .of_watched
  · exact (keeps_lapse _).after (keeps_setAuthority s _)
  · exact .refl s

theorem restartRequest_keeps : AnswerKeeps restartRequest := by
  intro s; unfold restartRequest
  split <;> exact .of_watched

theorem commitSettings_keeps : AnswerKeeps commitSettings := by
  intro s; unfold commitSettings
  split <;> exact .of_watched

theorem clearChannel_keeps (i : Nat) : AnswerKeeps (clearChannel i) := by
  intro s; unfold clearChannel
  split <;> [exact .refl s; (split <;> exact .of_watched)]

theorem writeSetting_keeps (table item : Nat) (value : Int) : AnswerKeeps (writeSetting table item value) := by
  intro s
  have heffects (t : State) : Keeps t (writeEffects table item t) := by
    unfold writeEffects
    split
    · split <;> exact .of_watched
    · exact .ite (fun _ => keeps_limitWritten t) fun _ => .refl t
  unfold writeSetting writeItem
  split
  · exact .refl s
  · split
    · exact .refl s
    · split
      · exact .refl s
      · dsimp only
        split <;> [exact (heffects _).after .of_watched; exact .refl s]

/-- Every owner's answer keeps the outputs and the pumps that the cutoff holds. -/
theorem ownerAnswer_keeps (i : Instr) : AnswerKeeps (ownerAnswer i) := by
  cases i with
  | readChannels st c => exact readRecords_keeps 4 channelChars st c
  | readConditions st c => exact readRecords_keeps 25 conditionChars st c
  | readPumps st c => exact readRecords_keeps 4 pumpChars st c
  | readScreens st c => exact readRecords_keeps 2 screenChars st c
  | readEpisodes st c => exact readRecords_keeps 16 episodeChars st c
  | readSettings t st c => exact readSettings_keeps t st c
  | ackCondition i n => exact ackCondition_keeps i n
  | screenRake x => exact screenRake_keeps x
  | retireEpisode i n => exact retireEpisode_keeps i n
  | retireAccumulator n => exact retireAccumulator_keeps n
  | openAuthority => exact openAuthority_keeps
  | answer v => exact answerChallenge_keeps v
  | releaseAuthority => exact releaseAuthority_keeps
  | shelve a i m => exact privileged_keeps a (shelve_keeps i m)
  | unshelve a i => exact privileged_keeps a (unshelve_keeps i)
  | pumpService a b v => exact privileged_keeps a (pumpService_keeps b v)
  | pumpForce a b m => exact privileged_keeps a (pumpForce_keeps b m)
  | pumpReset a b => exact privileged_keeps a (pumpReset_keeps b)
  | screenInhibit a x v => exact privileged_keeps a (screenInhibit_keeps x v)
  | screenReset a x => exact privileged_keeps a (screenReset_keeps x)
  | restart a => exact privileged_keeps a restartRequest_keeps
  | writeSetting a t i v => exact privileged_keeps a (writeSetting_keeps t i v)
  | commitSettings a => exact privileged_keeps a commitSettings_keeps
  | clearChannel a i => exact privileged_keeps a (clearChannel_keeps i)
  | _ => exact fun _ => .of_watched

end Sys2Proof.Machine
end

section
/-! PROOFS. A change made for each bay, read bay by bay; and the notice that the cutoff is in force (R58). -/

namespace Sys2Proof.Machine

open Sys2Proof.Spec

set_option Elab.async false

/-! ## A change made for each bay -/

/-- Each bay's record after a change made for each bay, where the change at one bay writes that bay's record alone, by what
the changes leave as it was. -/
theorem forBays_pump {f : Bay → State → State} {g : State → Bay → PumpRec → PumpRec}
    (hf : ∀ b s, (f b s).pump b = g s b (s.pump b)) (hne : ∀ b c s, c ≠ b → (f b s).pump c = s.pump c)
    (hg : ∀ b s, g (f b s) = g s) (s : State) (b : Bay) : (forBays f s).pump b = g s b (s.pump b) := by
  have hall : forBays f s = f .b4 (f .b3 (f .b2 (f .b1 s))) := rfl
  rw [hall]
  cases b with
  | b1 => rw [hne _ _ _ (by decide), hne _ _ _ (by decide), hne _ _ _ (by decide), hf]
  | b2 => rw [hne _ _ _ (by decide), hne _ _ _ (by decide), hf, hg, hne _ _ _ (by decide)]
  | b3 => rw [hne _ _ _ (by decide), hf, hg, hg, hne _ _ _ (by decide), hne _ _ _ (by decide)]
  | b4 => rw [hf, hg, hg, hg, hne _ _ _ (by decide), hne _ _ _ (by decide), hne _ _ _ (by decide)]

/-- A setting stands as long as the plant does. -/
theorem itemNat_of_plant {s t : State} (h : t.plant = s.plant) (table i : Nat) : t.itemNat table i = s.itemNat table i := by
  have hstore : t.store = s.store := congrArg Plant.store h
  rw [State.itemNat, State.itemNat, State.item, State.item, hstore]

/-- What has moved is one bay's record, but for the Arbiter, the screens, the Condition Table and the notices. -/
theorem Moved.others {s u : State} {b : Bay} {p : PumpRec} {c : Conditions} {i : List Notice}
    (h : Moved (Machine.depart b s) u b p c i) {d : Bay} (hd : d ≠ b) : u.pump d = s.pump d := by
  rw [h.pump_ne hd, State.pump, depart_roster, State.pump]

/-! ## The cutoff at each pump (R58) -/

/-- R58: where the notice moves the pump: the state, with the min-rest timer's start, that it goes to; none where it stays. -/
theorem cutoffPump_moved (b : Bay) (s : State) :
    ((s.pump b).state.committed = false ∧ cutoffPump b s = s ∧ cutOff (s.itemNat 3 2 * 1000) (s.pump b) = s.pump b) ∨
    ∃ c i, Moved (depart b s) (cutoffPump b s) b (cutOff (s.itemNat 3 2 * 1000) (s.pump b)) c i := by
  have hrefl := Moved.refl s b
  unfold cutoffPump cutOff
  cases hst : (s.pump b).state
  case queued => exact .inr ⟨_, _, hrefl.goIdle rfl (by rw [hst]; decide)⟩
  case starting => exact .inr ⟨_, _, hrefl.goResting rfl (by rw [hst]; decide)⟩
  case running => exact .inr ⟨_, _, hrefl.goResting rfl (by rw [hst]; decide)⟩
  all_goals exact .inl ⟨rfl, rfl, rfl⟩

theorem cutoffPump_pump (b : Bay) (s : State) :
    (cutoffPump b s).pump b = cutOff (s.itemNat 3 2 * 1000) (s.pump b) := by
  obtain ⟨-, hsame, hp⟩ | ⟨c, i, hmoved⟩ := cutoffPump_moved b s
  · rw [hsame, hp]
  · exact hmoved.pump

theorem cutoffPump_pump_ne (b c : Bay) (s : State) (hc : c ≠ b) : (cutoffPump b s).pump c = s.pump c := by
  obtain ⟨-, hsame, -⟩ | ⟨_, _, hmoved⟩ := cutoffPump_moved b s
  · rw [hsame]
  · exact hmoved.others hc

/-- The notice that the cutoff is in force, at every pump (R58). -/
theorem forBays_cutoffPump_pump (s : State) (b : Bay) :
    (forBays cutoffPump s).pump b = cutOff (s.itemNat 3 2 * 1000) (s.pump b) :=
  forBays_pump (g := fun s _ p => cutOff (s.itemNat 3 2 * 1000) p) (fun b s => cutoffPump_pump b s) cutoffPump_pump_ne
    (fun b s => by funext _ p; rw [itemNat_of_plant (cutoffPump_plant s b)]) s b

/-- A pump that the cutoff has reached is not QUEUED, STARTING or RUNNING. -/
theorem cutOff_uncommitted (rest : Nat) (p : PumpRec) : (cutOff rest p).state.committed = false := by
  unfold cutOff
  cases h : p.state <;> first | rfl | (dsimp only; rw [h]; rfl)

end Sys2Proof.Machine
end

section
/-! PROOFS. The Duty Controller's evaluation (R70, R83): its own working parts, the pumps' outputs and states that it leaves
to the Roster, and what of its neighbours it holds. -/

namespace Sys2Proof.Machine

open Sys2Proof.Spec

/-! ## What the evaluation leaves to the Roster -/

/-- The states and outputs of the pumps, the screens, the Arbiter and the line: no part of the Duty Controller's own. -/
def State.driven (s : State) : PerBay (PumpState × Bool × Bool) × Screens × Arbiter × Line :=
  (s.roster.pumps.map fun p => (p.state, p.starterSelect, p.runContactor), s.screens, s.arbiter, s.line)

variable (s : State)

@[simp] theorem setOrder_driven (o : List Bay) : (s.setOrder o).driven = s.driven := rfl
@[simp] theorem setChangeover_driven (b : Bay) (t : Timer) : (setChangeover b t s).driven = s.driven := rfl
@[simp] theorem setReplaced_driven (b : Bay) (on : Bool) : (setReplaced b on s).driven = s.driven := rfl
@[simp] theorem withDuty_driven (d : Duty) : ({ s with duty := d } : State).driven = s.driven := rfl
@[simp] theorem setDue_driven (b : Bay) (on : Bool) : (setDue b on s).driven = s.driven := by cases b <;> rfl
@[simp] theorem dropDue_driven (b : Bay) : (dropDue b s).driven = s.driven := by rw [dropDue]; simp

@[simp] theorem updateMembership_driven (b : Bay) (was now : PumpState) :
    (updateMembership b was now s).driven = s.driven := by
  unfold updateMembership
  split <;> [(split <;> rfl); rfl]

@[simp] theorem enteredRunning_driven (b : Bay) : (enteredRunning b s).driven = s.driven := by
  have hmarks (t : State) : (forBays (fun c s => if (s.pump c).changeoverDue then setReplaced c true s else s) t).driven =
      t.driven := forBays_view t State.driven _ fun c u => by split <;> rfl
  unfold enteredRunning
  dsimp only
  split <;> split <;> simp [hmarks]

@[simp] theorem leftRunning_driven (b : Bay) : (leftRunning b s).driven = s.driven := rfl

@[simp] theorem forcedChanged_driven (b : Bay) (was now : Forced) : (forcedChanged b was now s).driven = s.driven := by
  unfold forcedChanged
  split
  · split
    · simp
    · split <;> rfl
  · rfl

@[simp] theorem reclass_driven (b : Bay) : (reclass b s).driven = s.driven := by unfold reclass; split <;> rfl

/-- An event's own effect at the Duty Controller moves no pump, screen or starter (R70). -/
@[simp] theorem ownEffect_driven (n : Notice) : (ownEffect n s).driven = s.driven := by
  cases n with
  | changeover b =>
    unfold ownEffect
    dsimp only
    split <;> simp
  | pump b was now =>
    unfold ownEffect
    dsimp only
    have hleft : (if was = .running then leftRunning b (updateMembership b was now s) else
        updateMembership b was now s).driven = s.driven := by split <;> simp
    split
    · rw [enteredRunning_driven]; exact hleft
    · split <;> exact hleft
  | forced b was now => exact forcedChanged_driven s b was now
  | lapse was => exact forBays_view s State.driven _ fun b t => forcedChanged_driven t b _ _
  | degraded b => exact reclass_driven s b
  | _ => rfl

@[simp] theorem levelStep_driven (r : ChannelReport) : (levelStep r s).driven = s.driven := by
  unfold levelStep
  split <;> [rfl; (split <;> rfl)]

@[simp] theorem settleStage_driven (n : Notice) (d : Nat) : (settleStage n d s).driven = s.driven := by
  cases n with
  | wwReport r => exact levelStep_driven s r
  | _ => rfl

@[simp] theorem rotate_driven : (rotate s).driven = s.driven := by
  unfold rotate
  split
  · dsimp only; split <;> rfl
  · rfl

/-! ## What the Duty Controller holds -/

/-- What the Duty Controller holds of its neighbours, with the stage and the profile: its own working parts left out. -/
def Duty.heard (d : Duty) : Duty :=
  { d with
    order := [], rotationPending := false, counted := [], uncounted := [], changeoverTimer := .all none
    replaced := .all false }

@[simp] theorem Duty.heard_stage (d : Duty) : d.heard.stage = d.stage := rfl
@[simp] theorem Duty.heard_profile (d : Duty) : d.heard.profile = d.profile := rfl
@[simp] theorem Duty.heard_lfCovered (d : Duty) : d.heard.lfCovered = d.lfCovered := rfl
@[simp] theorem Duty.heard_cutoff (d : Duty) : d.heard.cutoff = d.cutoff := rfl

@[simp] theorem setOrder_heard (o : List Bay) : (s.setOrder o).duty.heard = s.duty.heard := rfl
@[simp] theorem setChangeover_heard (b : Bay) (t : Timer) : (setChangeover b t s).duty.heard = s.duty.heard := rfl
@[simp] theorem setReplaced_heard (b : Bay) (on : Bool) : (setReplaced b on s).duty.heard = s.duty.heard := rfl
@[simp] theorem setDue_heard (b : Bay) (on : Bool) : (setDue b on s).duty.heard = s.duty.heard := rfl
@[simp] theorem dropDue_heard (b : Bay) : (dropDue b s).duty.heard = s.duty.heard := rfl

@[simp] theorem updateMembership_heard (b : Bay) (was now : PumpState) :
    (updateMembership b was now s).duty.heard = s.duty.heard := by
  unfold updateMembership
  split <;> [(split <;> rfl); rfl]

@[simp] theorem enteredRunning_heard (b : Bay) : (enteredRunning b s).duty.heard = s.duty.heard := by
  have hmarks (t : State) : (forBays (fun c s => if (s.pump c).changeoverDue then setReplaced c true s else s) t).duty.heard =
      t.duty.heard := forBays_view t (fun s => s.duty.heard) _ fun c u => by split <;> rfl
  unfold enteredRunning
  dsimp only
  split <;> split <;> simp [hmarks]

@[simp] theorem leftRunning_heard (b : Bay) : (leftRunning b s).duty.heard = s.duty.heard := rfl

@[simp] theorem forcedChanged_heard (b : Bay) (was now : Forced) :
    (forcedChanged b was now s).duty.heard = s.duty.heard := by
  unfold forcedChanged
  split
  · split
    · rfl
    · split <;> rfl
  · rfl

@[simp] theorem reclass_heard (b : Bay) : (reclass b s).duty.heard = s.duty.heard := by unfold reclass; split <;> rfl

@[simp] theorem rotate_heard : (rotate s).duty.heard = s.duty.heard := by
  unfold rotate
  split
  · dsimp only; split <;> rfl
  · rfl

/-- R70: what an event writes of what the Duty Controller holds: the part that it carries. -/
def Duty.takes (n : Notice) (handRunning : Nat) (d : Duty) : Duty :=
  match n with
  | .wwReport r => { d with report := r }
  | .hf covered => { d with hfCovered := covered }
  | .lf covered => { d with lfCovered := covered, cutoff := !covered }
  | .allOut on => { d with allOut := on }
  | .storm st => { d with storm := st }
  | .limit k => { d with limit := k }
  | .hand _ => { d with handCount := handRunning }
  | _ => d

theorem ownEffect_heard (n : Notice) : (ownEffect n s).duty.heard = s.duty.heard.takes n s.handRunning := by
  cases n with
  | changeover b =>
    unfold ownEffect
    dsimp only
    split <;> rfl
  | pump b was now =>
    unfold ownEffect
    dsimp only
    have hleft : (if was = .running then leftRunning b (updateMembership b was now s) else
        updateMembership b was now s).duty.heard = s.duty.heard := by split <;> simp
    split
    · rw [enteredRunning_heard]; exact hleft
    · split <;> exact hleft
  | forced b was now => exact forcedChanged_heard s b was now
  | lapse was => exact forBays_view s (fun s => s.duty.heard) _ fun b t => forcedChanged_heard t b _ _
  | degraded b => exact reclass_heard s b
  | _ => rfl

/-- Stages 2 and 3 write the stage, the profile and rotation pending alone. -/
theorem settleStage_heard (n : Notice) (d : Nat) : (settleStage n d s).duty.heard =
    { s.duty.heard with stage := (settleStage n d s).duty.stage, profile := (settleStage n d s).duty.profile } := by
  cases n with
  | wwReport r =>
    unfold settleStage levelStep
    dsimp only
    split
    · rfl
    · split <;> rfl
  | _ => rfl

/-! ## The hand-over (R83) -/

/-- The wanted set written at the Roster. -/
def wantedWritten (counted uncounted : List Bay) (s : State) : State :=
  { s with duty := { s.duty with counted := counted, uncounted := uncounted } }

@[simp] theorem wantedWritten_driven (counted uncounted : List Bay) :
    (wantedWritten counted uncounted s).driven = s.driven := rfl
@[simp] theorem wantedWritten_heard (counted uncounted : List Bay) :
    (wantedWritten counted uncounted s).duty.heard = s.duty.heard := rfl

/-- The Roster takes a wanted set (R83). -/
theorem keeps_takeWanted (counted uncounted stops : List Bay) :
    Keeps (wantedWritten counted uncounted s) (takeWanted counted uncounted stops s) :=
  (keeps_queueTest _).after ((keeps_forBays (fun s b => .ite (fun _ => .refl s) fun _ => keeps_unwanted s b) _).after
    (keeps_forBays (fun s b => .ite (fun _ => keeps_changeoverStop s b) fun _ => .refl s) _))

/-- The cutoff's notice (R58, R75). -/
theorem keeps_cutoffNotice (n : Notice) : Keeps s (cutoffNotice n s) := by
  cases n with
  | lf covered => exact .ite (fun _ => keeps_queueTest s) fun _ => keeps_forBays keeps_cutoffPump s
  | restart => exact .ite (fun _ => keeps_forBays keeps_cutoffPump s) fun _ => .refl s
  | _ => exact .refl s

/-- The state at the hand-over, the wanted set not yet written: stages 1 to 5, and the flags that case (d) of R85 drops. -/
def evaluated (n : Notice) (s : State) : State :=
  let t := rotate (settleStage n s.duty.stage (ownEffect n s))
  t.wantedSet.drops.foldl (fun t b => dropDue b t) t

/-- The wanted set of an evaluation. -/
def wantedOf (n : Notice) (s : State) : Wanted := (rotate (settleStage n s.duty.stage (ownEffect n s))).wantedSet

theorem evaluate_eq (n : Notice) : evaluate n s = takeWanted (wantedOf n s).counted (wantedOf n s).uncounted
    (wantedOf n s).stops (cutoffNotice n (evaluated n s)) := rfl

@[simp] theorem evaluated_driven (n : Notice) : (evaluated n s).driven = s.driven := by
  unfold evaluated
  rw [foldl_view State.driven _ fun t b => dropDue_driven t b]
  simp

theorem evaluated_heard (n : Notice) : (evaluated n s).duty.heard =
    { s.duty.heard.takes n s.handRunning with
      stage := (settleStage n s.duty.stage (ownEffect n s)).duty.stage
      profile := (settleStage n s.duty.stage (ownEffect n s)).duty.profile } := by
  unfold evaluated
  rw [foldl_view (fun s => s.duty.heard) _ fun t b => dropDue_heard t b, rotate_heard, settleStage_heard, ownEffect_heard]

/-- What the Duty Controller holds after an evaluation. -/
theorem evaluate_duty (n : Notice) : (evaluate n s).duty =
    { (evaluated n s).duty with counted := (wantedOf n s).counted, uncounted := (wantedOf n s).uncounted } := by
  rw [evaluate_eq, (keeps_takeWanted _ _ _ _).duty, wantedWritten, (keeps_cutoffNotice _ n).duty]

theorem evaluate_heard (n : Notice) : (evaluate n s).duty.heard = (evaluated n s).duty.heard := by rw [evaluate_duty]; rfl

end Sys2Proof.Machine
end

section
/-! PROOFS. The outputs and the reply (R45, R89, R109, R174) and the cutoff (R58, R75) over a step: laws that every operation of
the blocks, the settling of the notices and a restart keep. -/

namespace Sys2Proof.Machine

open Sys2Proof.Spec

set_option Elab.async false

/-! ## The laws -/

/-- The outputs of the pumps, the screens and the starter follow the states that drive them (R45, R89, R109). -/
def State.Driven (s : State) : Prop :=
  (∀ b, (s.pump b).Follows) ∧ (∀ x, (s.screen x).Follows) ∧ s.arbiter.Follows

/-- A reply that stands is whole (R174, R186). -/
def State.RepliesWhole (s : State) : Prop := ∀ l, s.line.reply = some l → Sent l

theorem outputsFollow_iff (s : State) : s.OutputsFollow ↔ s.Driven ∧ s.RepliesWhole :=
  ⟨fun ⟨hp, hx, ha, hl⟩ => ⟨⟨hp, hx, ha⟩, hl⟩, fun ⟨⟨hp, hx, ha⟩, hl⟩ => ⟨hp, hx, ha, hl⟩⟩

section
variable {s t : State}

theorem State.Driven.keep (h : s.Driven) (k : Keeps s t) : t.Driven :=
  ⟨fun b => k.pump b (h.1 b), fun x => k.screen x (h.2.1 x), k.arbiter h.2.2⟩

theorem State.RepliesWhole.keep (h : s.RepliesWhole) (k : Keeps s t) : t.RepliesWhole := fun l hl => h l (k.reply ▸ hl)

theorem State.CutoffKeepsDry.keep (h : s.CutoffKeepsDry) (k : Keeps s t) : t.CutoffKeepsDry := by
  refine ⟨by rw [k.duty]; exact h.1, fun hc b => ?_⟩
  rw [k.duty] at hc
  exact Bool.eq_false_iff.2 fun hb => Bool.eq_false_iff.1 (h.2 hc b) (k.committed hc b hb)

/-- What the driven view shows of a pump. -/
theorem driven_pump (h : t.driven = s.driven) (b : Bay) : (t.pump b).state = (s.pump b).state ∧
    (t.pump b).starterSelect = (s.pump b).starterSelect ∧ (t.pump b).runContactor = (s.pump b).runContactor := by
  have hview := congrArg (fun v : PerBay (PumpState × Bool × Bool) × Screens × Arbiter × Line => v.1.get b) h
  simpa [State.driven, State.pump] using hview

theorem driven_screens (h : t.driven = s.driven) : t.screens = s.screens := congrArg (·.2.1) h

theorem driven_arbiter (h : t.driven = s.driven) : t.arbiter = s.arbiter := congrArg (·.2.2.1) h

theorem State.Driven.of_driven (hs : s.Driven) (h : t.driven = s.driven) : t.Driven := by
  obtain ⟨hp, hx, ha⟩ := hs
  refine ⟨fun b => ?_, fun x => ?_, ?_⟩
  · obtain ⟨hstate, hselect, hrun⟩ := driven_pump h b
    rw [PumpRec.Follows, hstate, hselect, hrun]
    exact hp b
  · rw [State.screen, driven_screens h]; exact hx x
  · rw [driven_arbiter h]; exact ha

theorem State.CutoffKeepsDry.of_driven (hs : s.CutoffKeepsDry) (h : t.driven = s.driven)
    (hcutoff : t.duty.cutoff = s.duty.cutoff) (hlf : t.duty.lfCovered = s.duty.lfCovered) : t.CutoffKeepsDry := by
  refine ⟨by rw [hcutoff, hlf]; exact hs.1, fun hc b => ?_⟩
  rw [(driven_pump h b).1]
  exact hs.2 (hcutoff ▸ hc) b

end

/-! ## One notice, and all of them (R70, R83) -/

theorem evaluate_driven {s : State} (n : Notice) (h : s.Driven) : (evaluate n s).Driven := by
  have hnotice := (h.of_driven (evaluated_driven s n)).keep (keeps_cutoffNotice _ n)
  rw [evaluate_eq]
  exact (hnotice.of_driven (wantedWritten_driven _ _ _)).keep (keeps_takeWanted _ _ _ _)

/-- The cutoff and LF, as an event leaves them. -/
theorem evaluated_cutoff (n : Notice) (s : State) :
    (evaluated n s).duty.cutoff = (s.duty.heard.takes n s.handRunning).cutoff ∧
      (evaluated n s).duty.lfCovered = (s.duty.heard.takes n s.handRunning).lfCovered := by
  rw [← Duty.heard_cutoff, ← Duty.heard_lfCovered, evaluated_heard]
  exact ⟨rfl, rfl⟩

/-- LF covered or dry: the cutoff follows it, and at LF dry it reaches every pump (R58, R75). -/
theorem cutoffNotice_lf (s : State) (v : Bool) : (cutoffNotice (.lf v) (evaluated (.lf v) s)).CutoffKeepsDry := by
  obtain ⟨hcutoff, hlf⟩ := evaluated_cutoff (.lf v) s
  dsimp only [Duty.takes] at hcutoff hlf
  have hduty := (keeps_cutoffNotice (evaluated (.lf v) s) (.lf v)).duty
  refine ⟨by rw [hduty, hcutoff, hlf], fun hc b => ?_⟩
  rw [hduty, hcutoff] at hc
  obtain rfl : v = false := by simpa using hc
  show ((forBays cutoffPump (evaluated (.lf false) s)).pump b).state.committed = false
  rw [forBays_cutoffPump_pump]
  exact cutOff_uncommitted _ _

theorem takeWanted_cutoff {s : State} (counted uncounted stops : List Bay) (h : s.CutoffKeepsDry) :
    (takeWanted counted uncounted stops s).CutoffKeepsDry :=
  State.CutoffKeepsDry.keep (s := wantedWritten counted uncounted s) h (keeps_takeWanted s _ _ _)

/-- No other event moves the cutoff and LF. -/
theorem takes_cutoff {n : Notice} (d : Duty) (k : Nat) (h : ∀ v, n ≠ .lf v) :
    (d.takes n k).cutoff = d.cutoff ∧ (d.takes n k).lfCovered = d.lfCovered := by
  cases n with
  | lf v => exact absurd rfl (h v)
  | _ => exact ⟨rfl, rfl⟩

theorem evaluate_cutoff {s : State} (n : Notice) (h : s.CutoffKeepsDry) : (evaluate n s).CutoffKeepsDry := by
  suffices hnotice : (cutoffNotice n (evaluated n s)).CutoffKeepsDry by
    rw [evaluate_eq]
    exact takeWanted_cutoff _ _ _ hnotice
  by_cases hn : ∃ v, n = .lf v
  · obtain ⟨v, rfl⟩ := hn
    exact cutoffNotice_lf s v
  · obtain ⟨hcutoff, hlf⟩ := evaluated_cutoff n s
    obtain ⟨hsame, hsame'⟩ := takes_cutoff s.duty.heard s.handRunning fun v hv => hn ⟨v, hv⟩
    have hevaluated := h.of_driven (evaluated_driven s n) (hcutoff.trans hsame) (hlf.trans hsame')
    exact hevaluated.keep (keeps_cutoffNotice _ n)

/-- A law that the taking of one notice keeps is kept by the settling of a step. -/
theorem settle_law {P : State → Prop} (hinbox : ∀ s i, P s → P { s with inbox := i })
    (hqueue : ∀ s, P s → P (queueTest s)) (hevaluate : ∀ n s, P s → P (evaluate n s)) (s : State) (h : P s) :
    P (settle s) := by
  have hwithin (k : Nat) : ∀ s, P s → P (settleWithin k s) := by
    induction k with
    | zero => exact fun s h => h
    | succ k ih =>
      intro s h
      unfold settleWithin
      split
      · exact h
      · refine ih _ ?_
        unfold deliver
        split
        · exact hqueue _ (hinbox s _ h)
        · exact hevaluate _ _ (hinbox s _ h)
  exact hwithin _ s h

theorem settle_driven (s : State) (h : s.Driven) : (settle s).Driven :=
  settle_law (fun _ _ h => h) (fun _ h => h.keep (keeps_queueTest _)) (fun n _ h => evaluate_driven n h) s h

theorem settle_cutoff (s : State) (h : s.CutoffKeepsDry) : (settle s).CutoffKeepsDry :=
  settle_law (fun _ _ h => h) (fun _ h => h.keep (keeps_queueTest _)) (fun n _ h => evaluate_cutoff n h) s h

/-! ## A restart (R68, R88, R107, R124) -/

theorem bayRestarted_follows (cold : Bool) (s t : State) (b : Bay) :
    (bayRestarted cold s t b).Follows ∧ (bayRestarted cold s t b).state.committed = false := by
  unfold bayRestarted
  dsimp only
  split
  · exact ⟨⟨rfl, rfl⟩, rfl⟩
  · split
    · exact ⟨⟨rfl, rfl⟩, rfl⟩
    · split
      · exact ⟨⟨rfl, rfl⟩, rfl⟩
      · split
        · exact ⟨⟨rfl, rfl⟩, rfl⟩
        · split <;> exact ⟨⟨rfl, rfl⟩, rfl⟩

theorem screenRestarted_follows (cold : Bool) (s t : State) (x : Screen) : (screenRestarted cold s t x).Follows := by
  unfold screenRestarted
  dsimp only
  generalize decide (t.item 5 _ = 1) = inUse
  split
  · exact ⟨rfl, rfl⟩
  · split
    · exact ⟨rfl, rfl⟩
    · split <;> [exact ⟨rfl, rfl⟩; exact homed_follows t x _]

theorem arbiterRestarted_follows (s t : State) : (arbiterRestarted s t).Follows := by
  unfold arbiterRestarted Arbiter.Follows
  dsimp only
  generalize (if s.contacts.starterFault.raw = true then StarterHealth.faultInput else _ : StarterHealth) = health
  cases health <;> rfl

/-- A restart leaves every law kept, whatever came before it. -/
theorem restart_keepsLaws (cause : RestartCause) (s : State) :
    (restart cause s).Driven ∧ (restart cause s).RepliesWhole ∧ (restart cause s).CutoffKeepsDry := by
  obtain ⟨-, -, -, -, -, -, -, -, -, -, -, -, harbiter, hline, -, hpump, -, hduty, hscreen, -⟩ :=
    restartGivesTheRestartValues.1 cause s
  refine ⟨⟨fun b => ?_, fun x => ?_, ?_⟩, fun l hl => ?_, ?_, fun _ b => ?_⟩
  · rw [hpump]; exact (bayRestarted_follows _ _ _ b).1
  · rw [hscreen]; exact screenRestarted_follows _ _ _ x
  · rw [harbiter]; exact arbiterRestarted_follows _ _
  · rw [hline] at hl; exact absurd hl nofun
  · rw [hduty]; exact (Bool.not_not _).symm
  · rw [hpump]; exact (bayRestarted_follows _ _ _ b).2

/-! ## Laws of the blocks -/

/-- A law that the blocks keep: their operations, the settling of the notices, a restart, and the passing of time. -/
structure BlockLaw (P : State → Prop) : Prop where
  keep : ∀ {s t}, Keeps s t → P s → P t
  settle : ∀ s, P s → P (settle s)
  restart : ∀ cause s, P (restart cause s)
  passes : ∀ s, P s → P (passMillisecond s)

theorem passMillisecond_pump (s : State) (b : Bay) : (passMillisecond s).pump b = passPump (s.pump b) := PerBay.get_map _ _ _

theorem passMillisecond_screen (s : State) (x : Screen) : (passMillisecond s).screen x = passScreen (s.screen x) :=
  PerScreen.get_map _ _ _

theorem driven_blockLaw : BlockLaw State.Driven where
  keep k h := h.keep k
  settle := settle_driven
  restart cause s := (restart_keepsLaws cause s).1
  passes s h := ⟨fun b => by rw [passMillisecond_pump]; exact h.1 b, fun x => by rw [passMillisecond_screen]; exact h.2.1 x,
    h.2.2⟩

theorem cutoff_blockLaw : BlockLaw State.CutoffKeepsDry where
  keep k h := h.keep k
  settle := settle_cutoff
  restart cause s := (restart_keepsLaws cause s).2.2
  passes s h := ⟨h.1, fun hc b => by rw [passMillisecond_pump]; exact h.2 hc b⟩

theorem repliesWhole_of_line {s t : State} (h : t.line = s.line) (hs : s.RepliesWhole) : t.RepliesWhole :=
  fun l hl => hs l (by rw [← h]; exact hl)

theorem repliesWhole_blockLaw : BlockLaw State.RepliesWhole where
  keep k h := h.keep k
  settle s h := repliesWhole_of_line (congrArg Plant.line (settle_plant s)) h
  restart cause s := (restart_keepsLaws cause s).2.1
  passes _ h := h

/-! ## The commands -/

section
variable {P : State → Prop} (k : BlockLaw P)
include k

/-- The state of a law after an operation of the blocks and the settling of its notices. -/
theorem BlockLaw.settled {s t : State} (h : P s) (hk : Keeps s t) : P (Machine.settle t) := k.settle _ (k.keep hk h)

theorem BlockLaw.filterExpires (i : Input) {s : State} (h : P s) : P (filterExpires i s) := by
  unfold Machine.filterExpires
  split
  · split
    · exact h
    · exact k.settled h ((keeps_handSwitch _ _ _).after .of_watched)
  · split
    · exact h
    · exact k.settled h ((keeps_selectorChange _ _ _).after .of_watched)

theorem BlockLaw.loseSupply {s : State} (h : P s) : P (loseSupply s) := by
  have hcut : Keeps s (cutCommit s) := by unfold cutCommit; split <;> exact .of_watched
  unfold Machine.loseSupply
  split
  · exact h
  · exact k.keep (hcut.trans (.of_watched (t := { cutCommit s with power := .halted }))) h

theorem BlockLaw.sampleArrives (c : Channel) (current : Nat) {s : State} (h : P s) : P (sampleArrives c current s) :=
  k.settled h ((keeps_handReport _ _ _).after ((keeps_reportChannel _ _).after .of_watched))

/-- A command that is no request keeps a law of the blocks, if the line's own two do. -/
theorem BlockLaw.event {c : Instr} (hc : c.request = none) {s t : State}
    (hreceive : ∀ c, P s → P (receive c s)) (hreply : P s → P (replyEnds s)) (hs : P s)
    (h : exec c s = .next t) : P t := by
  have acts {f : State → State} (h : powered f s = .next t) (hf : P (f s)) : P t := powered_keeps (fun _ => hf) hs h
  have ite {p : Prop} [Decidable p] {u v : State} (hu : P u) (hv : P v) : P (if p then u else v) := by
    split <;> assumption
  cases c with
  | coldStart => cases h; exact k.restart _ _
  | warmSupplyRestart => cases h; exact k.restart _ _
  | supplyLoss => cases h; exact k.loseSupply hs
  | rawContactChange c v => cases c <;> (cases h; exact k.keep .of_watched hs)
  | sampleArrival c i => exact acts h (ite (k.sampleArrives c i hs) hs)
  | filterTimerExpiry i => exact acts h (k.filterExpires i hs)
  | tipArrival =>
    unfold exec execTipArrival at h
    exact acts h (ite hs (k.settled hs (keeps_countTip s)))
  | bounceTimerExpiry =>
    unfold exec execBounceTimerExpiry at h
    exact acts h (k.keep .of_watched hs)
  | binClose => exact acts h (ite (k.settled hs (keeps_closeBin s)) hs)
  | dryTimerExpiry =>
    unfold exec execDryTimerExpiry at h
    exact acts h (ite hs (ite (k.keep .of_watched hs) (k.settled hs (keeps_dryOut s))))
  | rosterSecondTimerExpiry => exact acts h (ite (k.settled hs (keeps_rosterSecond s)) hs)
  | rampTimerExpiry => exact acts h (ite (k.settled hs (keeps_rampExpires s)) hs)
  | gapTimerExpiry => exact acts h (ite (k.settled hs (keeps_gapExpires s)) hs)
  | feedbackLossTimerExpiry b => exact acts h (ite (k.settled hs (keeps_lockOut s b _)) hs)
  | stopConfirmTimerExpiry b =>
    exact acts h (ite (ite (k.settled hs (keeps_lockOut s b _)) (k.settled hs (keeps_stopConfirmed s b))) hs)
  | minRunTimerExpiry b => exact acts h (ite (k.settled hs (keeps_minRunServed s b)) hs)
  | minRestTimerExpiry b => exact acts h (ite (k.settled hs (keeps_minRestServed s b)) hs)
  | restartHoldExpiry => exact acts h (ite (k.settled hs (keeps_holdEnds s)) hs)
  | changeoverTimerExpiry b => exact acts h (ite (k.settled hs (keeps_post s _)) hs)
  | restoreTimerExpiry => exact acts h (ite (k.settled hs (keeps_restoreExpired s)) hs)
  | intervalTimerExpiry x => exact acts h (ite (k.settled hs (keeps_intervalExpired s x)) hs)
  | strokeTimerExpiry x => exact acts h (ite (k.settled hs (keeps_strokeExpired s x)) hs)
  | clearTimerExpiry x => exact acts h (ite (k.settled hs (keeps_clearExpired s x)) hs)
  | integrationTimerExpiry => exact acts h (ite (k.settled hs (keeps_integrate s)) hs)
  | qualifyTimerExpiry => exact acts h (ite (k.settled hs (keeps_openEpisode s)) hs)
  | mergeTimerExpiry => exact acts h (ite (k.settled hs (keeps_settleEpisode s)) hs)
  | shelveTimerExpiry i => exact acts h (ite (k.keep .of_watched hs) hs)
  | receiveCharacter c => exact acts h (hreceive c hs)
  | lineBreak => exact acts h (by unfold lineError; split <;> exact k.keep .of_watched hs)
  | gapLimitExpiry => exact acts h (ite (k.keep .of_watched hs) hs)
  | turnaroundTimerExpiry => exact acts h (ite (k.keep .of_watched hs) hs)
  | replySent => exact acts h (ite (hreply hs) hs)
  | linkTimerExpiry => exact acts h (ite (k.keep .of_watched hs) hs)
  | answerWindowExpiry => exact acts h (ite (k.keep .of_watched hs) hs)
  | supervisionTimerExpiry =>
    exact acts h (ite (k.settled hs ((keeps_lapse _).after (keeps_setAuthority s _))) hs)
  | commitCompletion => exact acts h (ite (k.keep .of_watched hs) hs)
  | clockSecondExpiry => exact acts h (ite (k.keep .of_watched hs) hs)
  | _ => simp [Instr.request] at hc

/-- A law of the blocks that no character of the line touches is kept on the line. -/
theorem BlockLaw.keptOnLine (hline : ∀ s l, P s → P (s.setLine l)) : KeptOnLine P where
  line := hline
  linkLost s a := k.keep (keeps_report s _ a _)
  clock s n := k.keep .of_watched
  settle := k.settle
  restart s _ := k.restart _ s
  owner i s := k.keep (ownerAnswer_keeps i s)

/-- A step keeps a law that every command keeps. -/
theorem BlockLaw.step (hpending : ∀ s l, P s → P { s with pending := l })
    (hexec : ∀ c s t, P s → exec c s = .next t → P t) (s t : State) (hs : P s) (h : step s = .next t) : P t := by
  unfold Machine.step at h
  split at h
  · exact powered_keeps (k.passes s) hs h
  · exact hexec _ _ t (hpending s _ hs) h

/-- A law of the blocks that no character of the line touches is kept by every step. -/
theorem BlockLaw.step_of_line (hline : ∀ s l, P s → P (s.setLine l)) (s t : State) (hs : P s)
    (h : Machine.step s = .next t) : P t :=
  k.step (fun _ _ => k.keep .of_watched) (fun _ _ _ hs h => (k.keptOnLine hline).exec
    (fun hc => k.event hc (fun c => (k.keptOnLine hline).receive c) ((k.keptOnLine hline).replyEnds) hs) hs h) s t hs h

end

/-! ## The reply on the line (R174, R186) -/

section
variable {s : State}

/-- A line whose reply is as it was, or none, or whole. -/
theorem repliesWhole_setLine {l : Line} (h : ∀ r, l.reply = some r → Sent r) : (s.setLine l).RepliesWhole := h

theorem hearAddress_repliesWhole (a : Nat) (hs : s.RepliesWhole) : (hearAddress a s).RepliesWhole := by
  unfold hearAddress
  split
  · exact repliesWhole_setLine hs
  · split <;> exact repliesWhole_setLine hs

theorem addressCharacter_repliesWhole (a : Nat) (hs : s.RepliesWhole) : (addressCharacter a s).RepliesWhole := by
  unfold addressCharacter
  split
  · exact hearAddress_repliesWhole a hs
  · exact hearAddress_repliesWhole a (repliesWhole_setLine hs)
  · split
    · exact (restart_keepsLaws _ _).2.1
    · exact hearAddress_repliesWhole a (repliesWhole_setLine nofun)
  · exact hs

/-- Every reply is built whole (R186). -/
theorem answerFrame_repliesWhole (code : Nat) (act : State → Answer) (s : State) : (answerFrame code act s).RepliesWhole := by
  refine repliesWhole_setLine fun r hr => ?_
  obtain rfl := Option.some.inj hr
  exact sent_run _

theorem addressed_repliesWhole {code : Nat} {act : State → Answer} {t : State} (hs : s.RepliesWhole)
    (h : addressed code act s = .next t) : t.RepliesWhole := by
  refine powered_keeps (fun hs => ?_) hs h
  dsimp only
  split
  · exact answerFrame_repliesWhole _ _ _
  · exact addressCharacter_repliesWhole _ hs

theorem broadcastClock_repliesWhole (n : Nat) (hs : s.RepliesWhole) : (broadcastClock n s).RepliesWhole := by
  have haddressed := addressCharacter_repliesWhole 0 hs
  unfold broadcastClock
  dsimp only
  split
  · exact repliesWhole_setLine haddressed
  · exact haddressed

theorem completeFrame_repliesWhole (broadcast : Bool) (chars : List Byte) (hs : s.RepliesWhole) :
    (completeFrame broadcast chars s).RepliesWhole := by
  unfold completeFrame takeBroadcast
  split
  · split
    · split
      · split <;> exact repliesWhole_setLine hs
      · exact answerFrame_repliesWhole _ _ _
    · exact repliesWhole_setLine hs
  · exact repliesWhole_setLine hs

theorem receive_repliesWhole (c : Character) (hs : s.RepliesWhole) : (receive c s).RepliesWhole := by
  unfold receive
  split
  · split
    · exact addressCharacter_repliesWhole _ hs
    · unfold dataCharacter
      split
      · unfold takeCharacter
        dsimp only
        split
        · exact repliesWhole_setLine hs
        · split
          · exact completeFrame_repliesWhole _ _ hs
          · exact repliesWhole_setLine hs
      all_goals exact hs
  · unfold lineError
    split <;> exact hs

theorem replyEnds_repliesWhole (s : State) : (replyEnds s).RepliesWhole := by
  unfold replyEnds
  split
  · exact (restart_keepsLaws _ _).2.1
  · exact repliesWhole_setLine nofun

end

/-- Every command leaves a reply that stands whole. -/
theorem exec_repliesWhole (c : Instr) (s t : State) (hs : s.RepliesWhole) (h : exec c s = .next t) : t.RepliesWhole := by
  match hr : c.request with
  | none => exact repliesWhole_blockLaw.event hr (fun c => receive_repliesWhole c) (fun _ => replyEnds_repliesWhole s) hs h
  | some (code, p) =>
    by_cases hb : ∃ n, c = .setClock true n
    · obtain ⟨n, rfl⟩ := hb
      exact powered_keeps (broadcastClock_repliesWhole n) hs h
    · rw [exec_request s hr fun n e => hb ⟨n, e⟩] at h
      exact addressed_repliesWhole hs h

end Sys2Proof.Machine

open Sys2Proof.Machine

/-- Settles O25: what drives the outputs is kept by every block's operations and no line moves it, and a reply is built
whole. -/
theorem outputLawIsKept : Obligations.OutputLawIsKept := by
  intro s t hs h
  obtain ⟨hdriven, hreply⟩ := (outputsFollow_iff s).1 hs
  exact (outputsFollow_iff t).2 ⟨driven_blockLaw.step_of_line (fun _ _ hs => hs) s t hdriven h,
    repliesWhole_blockLaw.step (fun _ _ hs => hs) exec_repliesWhole s t hreply h⟩

/-- Settles O26: under the cutoff no operation makes a pump QUEUED, STARTING or RUNNING, and the notice of LF dry reaches every
pump that is. -/
theorem cutoffLawIsKept : Obligations.CutoffLawIsKept := fun s t hs h =>
  cutoff_blockLaw.step_of_line (fun _ _ hs => hs) s t hs h
end

section
/-! PROOFS. The Roster's timers (R48, R54 to R57, R68, R92): the bay's record that each expiry leaves, and nothing else but
what is handed on. -/

namespace Sys2Proof.Machine

open Sys2Proof.Spec

set_option Elab.async false

/-! ## The commands of a timer -/

/-- A timer's command while the timer runs. -/
theorem powered_timer (t : State → Timer) (f : State → State) {s : State} (hp : s.power = .on) (h : (t s).isSome = true) :
    powered (fun s => if (t s).isSome then f s else s) s = .next (f s) := by
  rw [powered_on _ _ hp, if_pos h]

/-! ## A record replaced by an operation on a pump that stands in no queue and no ramp -/

section
variable {s u : State} {b : Bay} {p : PumpRec} {c : Conditions} {i : List Notice} (h : Moved s u b p c i)
include h

/-- A pump that neither waits in the start queue nor starts goes elsewhere, to a state with no output. -/
theorem Moved.goes {st : PumpState} (hq : p.state ≠ .queued) (hst : p.state ≠ .starting) (hne : p.state ≠ st)
    (hs : st ≠ .starting) (hr : st ≠ .running) :
    Moved s (Machine.enterState b st (Machine.depart b u)) b (rested st p) c (i ++ stateNotices b p.state st) := by
  rw [depart_still (by rw [h.pump]; exact hq) (by rw [h.pump]; exact hst), ← enter_rested hs hr]
  exact h.enterState hne

theorem Moved.rests (hq : p.state ≠ .queued) (hst : p.state ≠ .starting) (hne : p.state ≠ .resting) :
    Moved s (Machine.goResting b u) b { rested .resting p with minRest := some (s.itemNat 3 2 * 1000) } c
      (i ++ stateNotices b p.state .resting) := by
  have hitem : u.itemNat 3 2 = s.itemNat 3 2 := by rw [h]; rfl
  rw [Machine.goResting, hitem]
  exact (h.goes hq hst hne (by decide) (by decide)).modPump _

/-- A STOPPING pump's feedback has dropped (R56). -/
theorem Moved.stopConfirmed (hst : p.state = .stopping) : ∃ j, Moved s (Machine.stopConfirmed b u) b
    (if p.selector = .auto ∧ p.inService = true then { rested .resting p with minRest := some (s.itemNat 3 2 * 1000) }
      else rested .unavailable p) c (i ++ j) := by
  have hq : p.state ≠ .queued := by rw [hst]; decide
  have hs : p.state ≠ .starting := by rw [hst]; decide
  unfold Machine.stopConfirmed
  rw [h.pump]
  split
  · exact ⟨_, h.rests hq hs (by rw [hst]; decide)⟩
  · exact ⟨_, h.goes hq hs (by rw [hst]; decide) (by decide) (by decide)⟩

theorem Moved.setStartLimited (on : Bool) :
    ∃ j, Moved s (Machine.setStartLimited b on u) b { p with startLimited := on } c (i ++ j) := by
  unfold Machine.setStartLimited
  rw [h.pump]
  split
  · rename_i hsame
    exact ⟨[], by rw [List.append_nil, ← hsame]; exact h⟩
  · have hwritten := h.modPump fun p => { p with startLimited := on }
    cases on
    · exact ⟨[.queueTest, .roster b], by simpa using (hwritten.post .queueTest).post (.roster b)⟩
    · exact ⟨[.roster b], hwritten.post (.roster b)⟩

/-- The judgement of START_LIMITED (R48). -/
theorem Moved.judgeStartLimited : ∃ j, Moved s (Machine.judgeStartLimited b u) b
    { p with startLimited := p.state == .idle && decide (s.itemNat 3 3 ≤ p.window.length) } c (i ++ j) := by
  have hmax : u.maxStarts = s.itemNat 3 3 := by rw [h]; rfl
  unfold Machine.judgeStartLimited
  rw [h.pump, hmax]
  exact h.setStartLimited _

end

/-- R54, R56: the record of a pump that is told to stop. -/
def stopped (s : State) (b : Bay) (p : PumpRec) : PumpRec :=
  if s.feedback b = true then { rested .stopping p with stopConfirm := some (s.itemNat 3 4 * 1000) }
  else if p.selector = .auto ∧ p.inService = true then
    { rested .resting p with minRest := some (s.itemNat 3 2 * 1000) }
  else rested .unavailable p

/-- A pump is told to stop (R54, R56). -/
theorem Moved.goStopping {s u : State} {b : Bay} {p : PumpRec} {c : Conditions} {i : List Notice} (h : Moved s u b p c i)
    (hstate : p.state = (s.pump b).state) (hne : p.state ≠ .stopping) :
    ∃ j, Moved (Machine.depart b s) (Machine.goStopping b u) b (stopped s b p) c (i ++ j) := by
  have hplant : (Machine.depart b s).plant = s.plant := depart_plant s b
  have hitem : u.itemNat 3 4 = s.itemNat 3 4 := by rw [h]; rfl
  have hfeedback : (Machine.depart b s).feedback b = s.feedback b :=
    congrArg (fun q : Plant => (q.contacts.runFeedback.get b).filtered) hplant
  have hstop := (h.leaves hstate hne (st := .stopping) (by decide) (by decide)).modPump fun p =>
    { p with stopConfirm := some (seconds (u.itemNat 3 4)) }
  unfold Machine.goStopping stopped
  dsimp only
  rw [hstop.feedback, hfeedback]
  split
  · rw [← hitem]
    exact ⟨_, hstop⟩
  · obtain ⟨j, hconfirmed⟩ := hstop.stopConfirmed rfl
    rw [itemNat_of_plant hplant] at hconfirmed
    refine ⟨_, (?_ : Moved _ _ _ _ _ (i ++ (stateNotices b p.state .stopping ++ j)))⟩
    rw [← List.append_assoc]
    exact hconfirmed

/-! ## Lockouts (R55, R56, R60) -/

theorem locksOut_of_moved {s u : State} {b : Bay} {why : LockoutReason} {i : List Notice}
    (h : Moved s u b (locked why (s.pump b)) (s.report (lockoutSource b) true (some (.lockout why))).conditions i) :
    LocksOut s u b why := by
  have hcond := h.cond rfl
  refine ⟨?_, ?_, fun j hj => ?_, h.frame⟩
  · rw [hcond, cond_report_self]; exact CondRec.takeReport_active _ _ _ _
  · rw [hcond, cond_report_self]; exact told_detail _ _ _
  · rw [hcond, cond_report_ne _ _ _ hj]

/-- A lockout of a pump that neither waits in the start queue nor starts (R60). -/
theorem lockOut_still {s : State} {b : Bay} (why : LockoutReason) (hq : (s.pump b).state ≠ .queued)
    (hst : (s.pump b).state ≠ .starting) (hl : (s.pump b).state ≠ .lockedOut) : LocksOut s (lockOut b why s) b why := by
  have hmoved := (Moved.refl s b).lockOut rfl why hl rfl
  rw [depart_still hq hst] at hmoved
  exact locksOut_of_moved hmoved

/-! ## The second (R48) -/

/-- R48: a bay's record after a second. -/
def secondTaken (s : State) (b : Bay) (p : PumpRec) : PumpRec :=
  if p.state = .absent then p
  else
    let q := p.second (s.feedback b)
    { q with startLimited := q.state == .idle && decide (s.itemNat 3 3 ≤ q.window.length) }

theorem bayExpires_moved (b : Bay) (s : State) :
    ∃ i, Moved s (bayExpires b s) b (secondTaken s b (s.pump b)) s.conditions i := by
  unfold bayExpires secondTaken
  split
  · exact ⟨_, .refl s b⟩
  · obtain ⟨j, h⟩ := ((Moved.refl s b).modPump (·.second (s.feedback b))).judgeStartLimited
    exact ⟨_, h⟩

theorem rosterSecond_pump (s : State) (b : Bay) : (rosterSecond s).pump b = secondTaken s b (s.pump b) := by
  refine forBays_pump (g := secondTaken) (fun b s => ?_) (fun b c s hc => ?_) (fun b s => ?_) _ b
  · obtain ⟨i, h⟩ := bayExpires_moved b s
    exact h.pump
  · obtain ⟨i, h⟩ := bayExpires_moved b s
    exact h.pump_ne hc
  · have hplant := bayExpires_plant s b
    have hcontacts : (bayExpires b s).contacts = s.contacts := congrArg Plant.contacts hplant
    funext c p
    unfold secondTaken
    rw [itemNat_of_plant hplant, State.feedback, State.feedback, State.closed, State.closed, hcontacts]

/-- A state with other pumps, and no notice. -/
def withPumps (pumps : PerBay PumpRec) (s : State) : State :=
  { s with roster := { s.roster with pumps := pumps }, inbox := [] }

theorem Moved.withPumps {s u : State} {b : Bay} {p : PumpRec} {i : List Notice} (h : Moved s u b p s.conditions i)
    (pumps : PerBay PumpRec) : Machine.withPumps pumps u = Machine.withPumps pumps s := by
  rw [h]; rfl

/-- What is left but for the pumps and the notices. -/
theorem eq_of_withPumps {s t : State} {pumps : PerBay PumpRec} (h : withPumps pumps t = withPumps pumps s) :
    t = { s with roster := { s.roster with pumps := t.roster.pumps }, inbox := t.inbox } :=
  congrArg (fun u : State => { u with roster := { u.roster with pumps := t.roster.pumps }, inbox := t.inbox }) h

/-- But for the pumps and the notices, a second leaves the state as it was, the second timer started again. -/
theorem rosterSecond_frame (s : State) : rosterSecond s = { s with
    roster := { s.roster with pumps := (rosterSecond s).roster.pumps, secondTimer := some 1000 }
    inbox := (rosterSecond s).inbox } :=
  eq_of_withPumps (s := { s with roster := { s.roster with secondTimer := some 1000 } }) (pumps := s.roster.pumps)
    (forBays_view _ (withPumps s.roster.pumps) _ fun b t => by
      obtain ⟨i, h⟩ := bayExpires_moved b t
      exact h.withPumps _)

end Sys2Proof.Machine

open Sys2Proof Sys2Proof.Machine

/-- Settles O14: each bay's second writes its own record, by what no bay's second moves. -/
theorem rosterSecondCounts : Obligations.RosterSecondCounts := by
  intro s hp ht
  have hframe := rosterSecond_frame s
  have hroster := congrArg State.roster hframe
  refine ⟨rosterSecond s, powered_timer (·.roster.secondTimer) (fun s => settle (rosterSecond s)) hp ht, ?_, hroster,
    fun b => ?_⟩
  · rw [hroster]; exact hframe
  · rw [rosterSecond_pump, secondTaken]
    rfl

/-- Settles O15. -/
theorem faultTimersLockThePumpOut : Obligations.FaultTimersLockThePumpOut := by
  intro b s hp
  refine ⟨fun ht hst => ?_, fun ht hst hfb => ?_⟩
  · exact ⟨_, powered_timer (fun s => (s.pump b).feedbackLoss) (fun s => settle (lockOut b .feedbackLost s)) hp ht,
      lockOut_still _ (by rw [hst]; decide) (by rw [hst]; decide) (by rw [hst]; decide)⟩
  · have hexec : exec (.stopConfirmTimerExpiry b) s = .next
        (if s.feedback b then settle (lockOut b .failToStop s) else settle (stopConfirmed b s)) :=
      powered_timer (fun s => (s.pump b).stopConfirm)
        (fun s => if s.feedback b then settle (lockOut b .failToStop s) else settle (stopConfirmed b s)) hp ht
    exact ⟨_, hexec.trans (congrArg _ (if_pos hfb)),
      lockOut_still _ (by rw [hst]; decide) (by rw [hst]; decide) (by rw [hst]; decide)⟩
end

section
/-! PROOFS. The grant test, head by head, and the timers that make it or a queue test (R51, R54, R57, R68, R91, R94, R103). -/

namespace Sys2Proof.Machine

open Sys2Proof.Spec

set_option Elab.async false

/-! ## Heads that are declined -/

theorem gateOpen_iff (s : State) : s.arbiter.gateOpen = true ↔ GateOpen s := by
  simp [Arbiter.gateOpen, and_assoc]

/-- R51: heads of the queue are gone, those of them that were QUEUED declined, and nothing else has moved. -/
structure Declines (full rest : List Bay) (s u : State) : Prop where
  frame : u = { s with
    roster := { s.roster with pumps := u.roster.pumps }, arbiter := { s.arbiter with queue := rest }, inbox := u.inbox }
  pump : ∀ b, u.pump b = if b ∈ full ∧ (s.pump b).state = .queued then declined (s.pump b) else s.pump b
  told : ∀ n ∈ s.inbox, n ∈ u.inbox
  handed : ∀ b ∈ full, (s.pump b).state = .queued → .pump b .queued .idle ∈ u.inbox

theorem declineGrant_declines {s : State} {b : Bay} (rest : List Bay) (hq : (s.pump b).state = .queued) :
    Declines [b] rest s (declineGrant b rest s) := by
  have hentered := (Moved.refl { s with arbiter := { s.arbiter with queue := rest } } b).enterState (st := .idle)
    (show (s.pump b).state ≠ .idle by rw [hq]; decide)
  obtain ⟨j, h⟩ := hentered.setStartLimited true
  have hpost : Notice.pump b .queued .idle ∈ stateNotices b (s.pump b).state .idle := hq ▸ mem_stateNotices _ _ _
  have hinbox : (declineGrant b rest s).inbox = s.inbox ++ stateNotices b (s.pump b).state .idle ++ j :=
    congrArg State.inbox h
  refine ⟨by rw [declineGrant, h]; rfl, fun c => ?_, fun n hn => ?_, fun c hc _ => ?_⟩
  · by_cases hc : c = b
    · subst hc
      rw [if_pos ⟨List.mem_singleton_self _, hq⟩, declineGrant, h.pump, enter_rested (by decide) (by decide)]
      rfl
    · rw [if_neg fun k => hc (List.mem_singleton.1 k.1), declineGrant, h.pump_ne hc]
      rfl
  · rw [hinbox]
    exact List.mem_append_left _ (List.mem_append_left _ hn)
  · rw [hinbox, List.mem_singleton.1 hc]
    exact List.mem_append_left _ (List.mem_append_right _ hpost)

/-- A head that is no longer QUEUED is gone without more. -/
theorem dropHead_declines {s : State} {b : Bay} (rest : List Bay) (hq : (s.pump b).state ≠ .queued) :
    Declines [b] rest s { s with arbiter := { s.arbiter with queue := rest } } := by
  refine ⟨rfl, fun c => ?_, fun _ => id, fun c hc hst => ?_⟩
  · rw [if_neg]
    · rfl
    · rintro ⟨hc, hst⟩
      exact hq (List.mem_singleton.1 hc ▸ hst)
  · exact absurd (List.mem_singleton.1 hc ▸ hst) hq

theorem Declines.cons {s t u : State} {b : Bay} {full rest mid : List Bay} (h : Declines [b] mid s t)
    (k : Declines full rest t u) : Declines (b :: full) rest s u := by
  have hpump (c : Bay) : t.pump c = if c = b ∧ (s.pump c).state = .queued then declined (s.pump c) else s.pump c := by
    simpa using h.pump c
  refine ⟨by rw [k.frame, h.frame], fun c => ?_, fun n hn => k.told n (h.told n hn), fun c hc hst => ?_⟩
  · rw [k.pump c, hpump c]
    by_cases hst : (s.pump c).state = .queued
    · by_cases hc : c = b
      · have hidle : (declined (s.pump c)).state ≠ .queued := by rw [declined]; exact nofun
        simp [hc, hc ▸ hst, hc ▸ hidle]
      · simp [hc, hst]
    · simp [hst]
  · by_cases hcb : c = b
    · exact k.told _ (h.handed c (by simp [hcb]) hst)
    · refine k.handed c ((List.mem_cons.1 hc).resolve_left hcb) ?_
      rw [hpump c, if_neg fun hb => hcb hb.1]
      exact hst

theorem Declines.gate {full rest : List Bay} {s u : State} (h : Declines full rest s u) :
    (u.arbiter.state = .idle ∧ u.arbiter.gateOpen = true) = (s.arbiter.state = .idle ∧ s.arbiter.gateOpen = true) := by
  rw [h.frame]
  rfl

/-- The grant test over heads that it declines (R51). -/
theorem grantFrom_declines (rest : List Bay) : ∀ (full : List Bay) (s : State), s.arbiter.queue = full ++ rest →
    (s.arbiter.state = .idle ∧ s.arbiter.gateOpen = true) →
    (∀ b ∈ full, (s.pump b).state = .queued → s.maxStarts ≤ (s.pump b).window.length) →
    ∃ u, Declines full rest s u ∧ grantFrom (full ++ rest) s = grantFrom rest u := by
  intro full
  induction full with
  | nil =>
    intro s hqueue _ _
    have hqueue' : s.arbiter.queue = rest := hqueue
    refine ⟨s, ⟨by rw [← hqueue'], fun b => ?_, fun _ => id, nofun⟩, rfl⟩
    rw [if_neg fun k => nomatch k.1]
  | cons b full ih =>
    intro s hqueue hgate hfull
    obtain ⟨t, hfirst, hstep⟩ : ∃ t, Declines [b] (full ++ rest) s t ∧
        grantFrom (b :: (full ++ rest)) s = grantFrom (full ++ rest) t := by
      rw [grantFrom, if_pos hgate]
      by_cases hq : (s.pump b).state = .queued
      · rw [if_pos hq, if_pos (hfull b List.mem_cons_self hq)]
        exact ⟨_, declineGrant_declines _ hq, rfl⟩
      · rw [if_neg hq]
        exact ⟨_, dropHead_declines _ hq, rfl⟩
    have hmax : t.maxStarts = s.maxStarts := by rw [hfirst.frame]; rfl
    obtain ⟨u, hrest, heq⟩ := ih t (by rw [hfirst.frame]) (hfirst.gate ▸ hgate) fun c hc hst => by
      rw [hfirst.pump c] at hst ⊢
      split at hst
      · exact absurd hst (by rw [declined]; exact nofun)
      · rw [hmax, if_neg ‹_›]
        exact hfull c (List.mem_cons_of_mem _ hc) hst
    exact ⟨u, hfirst.cons hrest, hstep.trans heq⟩

/-! ## The head that is granted -/

/-- A grant is taken (R51, R91). -/
theorem takeGrant_eq {s : State} {b : Bay} (after : List Bay) (hq : (s.pump b).state = .queued) :
    takeGrant b after s = { s with
      roster := rosterWith s b (granted s.clock.time (s.pump b))
      arbiter := { s.arbiter with
        state := .ramping, held := some b, queue := after, rampTimer := some (s.itemNat 3 7 * 1000), runOutput := true }
      screens := { s.screens with ramping := true }
      inbox := s.inbox ++ stateNotices b .queued .starting } := by
  have h := ((Moved.refl s b).enterState (st := .starting) (by rw [hq]; decide)).modPump fun p =>
    { p with
      startsTotal := satAdd 4294967295 p.startsTotal 1
      window := p.window ++ [⟨(enterState b .starting s).clock.time, 0⟩] }
  have hclock : (enterState b .starting s).clock = s.clock := congrArg Plant.clock (enterState_plant s b _)
  rw [hq, hclock] at h
  unfold takeGrant
  dsimp only
  rw [hclock, h]
  rfl

/-- The grant test loses no notice. -/
theorem grantFrom_told {n : Notice} : ∀ (q : List Bay) (s : State), n ∈ s.inbox → n ∈ (grantFrom q s).inbox
  | [], _, hn => hn
  | b :: rest, s, hn => by
    rw [grantFrom]
    split
    · split
      · split
        · exact grantFrom_told rest _ ((declineGrant_declines rest ‹_›).told n hn)
        · rw [takeGrant_eq rest ‹_›]
          exact List.mem_append_left _ hn
      · exact grantFrom_told rest _ hn
    · exact hn

/-- The two halves of the restart hold: the Roster's timer and what the Arbiter has heard of it. -/
def State.hold (s : State) : Timer × Bool := (s.roster.restartHold, s.arbiter.holdExpired)

theorem grantFrom_hold : ∀ (q : List Bay) (s : State), (grantFrom q s).hold = s.hold
  | [], _ => rfl
  | b :: rest, s => by
    rw [grantFrom]
    split
    · split
      · split
        · rw [grantFrom_hold, (declineGrant_declines rest ‹_›).frame]
          rfl
        · rw [takeGrant_eq rest ‹_›]
          rfl
      · exact grantFrom_hold rest _
    · rfl

/-- The grant test with the Arbiter IDLE and the gate open (R51, R91). -/
theorem grantTest_grants {s : State} (hidle : s.arbiter.state = .idle) (hopen : GateOpen s) : Grants s (grantTest s) := by
  intro full rest hqueue hfull
  have hgate : s.arbiter.state = .idle ∧ s.arbiter.gateOpen = true := ⟨hidle, (gateOpen_iff s).2 hopen⟩
  obtain ⟨u, h, heq⟩ := grantFrom_declines rest full s hqueue hgate fun b hb _ => (hfull b hb).2
  have hpump (b : Bay) : u.pump b = if b ∈ full then declined (s.pump b) else s.pump b := by
    rw [h.pump b]
    by_cases hb : b ∈ full
    · rw [if_pos hb, if_pos ⟨hb, (hfull b hb).1⟩]
    · rw [if_neg hb, if_neg fun k => hb k.1]
  have htest : grantTest s = grantFrom rest u := by rw [grantTest, hqueue, heq]
  refine ⟨fun b hb => ?_, fun hrest => ?_, fun b after hrest hst hwindow => ?_⟩
  · rw [htest]
    exact grantFrom_told rest u (h.handed b hb (hfull b hb).1)
  · subst hrest
    rw [htest]
    exact ⟨h.frame, hpump⟩
  · subst hrest
    have hnot : b ∉ full := fun hb => absurd (hfull b hb).2 (Nat.not_le.2 hwindow)
    have hb : u.pump b = s.pump b := by rw [hpump b, if_neg hnot]
    have hmax : u.maxStarts = s.itemNat 3 3 := by rw [h.frame]; rfl
    have hgranted : grantTest s = takeGrant b after u := by
      rw [htest, grantFrom, if_pos (h.gate ▸ hgate), if_pos (hb ▸ hst), if_neg]
      rw [hmax, hb]
      exact Nat.not_le.2 hwindow
    have htaken := takeGrant_eq after (hb ▸ hst : (u.pump b).state = .queued)
    rw [hgranted, htaken]
    refine ⟨?_, List.mem_append_right _ (mem_stateNotices _ _ _), fun c => ?_⟩
    · rw [h.frame]; rfl
    · by_cases hc : c = b
      · subst hc
        rw [if_pos rfl, ← hb, show u.clock = s.clock by rw [h.frame]]
        exact PerBay.get_put_self _ _ _
      · rw [if_neg hc, ← hpump c]
        exact PerBay.get_put_ne _ _ hc

/-- The grant test where it has nothing to grant. -/
theorem grantTest_still {s : State} (h : s.arbiter.state ≠ .idle ∨ s.arbiter.queue = [] ∨ ¬ GateOpen s) : grantTest s = s := by
  unfold grantTest
  cases hqueue : s.arbiter.queue with
  | nil => rfl
  | cons b rest =>
    rw [hqueue] at h
    rw [grantFrom, if_neg]
    rintro ⟨hidle, hopen⟩
    rcases h with h | h | h
    · exact h hidle
    · exact nomatch h
    · exact h ((gateOpen_iff s).1 hopen)

/-- A step that leaves no notice ends at once. -/
theorem next_settled {s t : State} (h : s = t) (hinbox : t.inbox = []) :
    (Host.Outcome.next (settle s) : Answered) = .next t := by
  rw [h, settle_quiet _ hinbox]

/-! ## The pumps' timers (R54, R57) -/

/-- Min run served by a pump that is still wanted (R54). -/
theorem minRunServed_wanted {s : State} {b : Bay} (h : s.duty.wanted.contains b = true) :
    minRunServed b s = { s with roster := rosterWith s b { s.pump b with minRun := none } } :=
  if_neg fun k => absurd k.2 (by rw [show (s.modPump b _).duty = s.duty from rfl, h]; decide)

/-- Min run served by a RUNNING pump that is no longer wanted (R54, R56). -/
theorem minRunServed_unwanted {s : State} {b : Bay} (hst : (s.pump b).state = .running)
    (h : s.duty.wanted.contains b = false) : ∃ j, Moved s (minRunServed b s) b (stopped s b (s.pump b)) s.conditions j := by
  have hwritten := (Moved.refl s b).modPump fun p => { p with minRun := none }
  obtain ⟨j, hstopped⟩ := hwritten.goStopping rfl (by dsimp only; rw [hst]; decide)
  rw [depart_still (by rw [hst]; decide) (by rw [hst]; decide)] at hstopped
  have heq : minRunServed b s = goStopping b (s.modPump b fun p => { p with minRun := none }) :=
    if_pos ⟨by rw [pump_modPump_self]; exact hst, h⟩
  rw [heq]
  exact ⟨_, hstopped⟩

/-- Min rest served (R48, R57). -/
theorem minRestServed_moved {s : State} {b : Bay} (hst : (s.pump b).state = .resting) :
    ∃ j, Moved s (minRestServed b s) b
      { rested .idle (s.pump b) with startLimited := decide (s.itemNat 3 3 ≤ (s.pump b).window.length) } s.conditions
      (s.inbox ++ stateNotices b .resting .idle ++ j) := by
  have hwritten := (Moved.refl s b).modPump fun p => { p with minRest := none }
  have hidle := hwritten.goes (st := .idle) (by dsimp only; rw [hst]; decide) (by dsimp only; rw [hst]; decide)
    (by dsimp only; rw [hst]; decide) (by decide) (by decide)
  obtain ⟨j, hjudged⟩ := hidle.judgeStartLimited
  have heq : minRestServed b s = judgeStartLimited b (goIdle b (s.modPump b fun p => { p with minRest := none })) :=
    if_pos (by rw [pump_modPump_self]; exact hst)
  dsimp only at hjudged
  rw [hst] at hjudged
  rw [heq]
  exact ⟨j, hjudged⟩

/-! ## The holds (R68, R103) -/

/-- The restart hold over at the Roster and the Arbiter. -/
def holdOver (s : State) : State :=
  { s with roster := { s.roster with restartHold := none }, arbiter := { s.arbiter with holdExpired := true } }

theorem holdEnds_still {s : State} (hqueue : s.arbiter.queue = []) : holdEnds s = (holdOver s).post .queueTest :=
  grantTest_still (s := (holdOver s).post .queueTest) (.inr (.inl hqueue))

/-- The restore timer's expiry with the starter healthy and none waiting (R95, R103). -/
theorem arbiterGate_still {s : State} {st : SupplyState} {restore : Bool} (hqueue : s.arbiter.queue = [])
    (hhealth : s.arbiter.health = .healthy) (hready : s.contacts.starterReady.filtered = true)
    (hfault : s.contacts.starterFault.filtered = false) :
    arbiterGate st restore s = { s with arbiter := { s.arbiter with gateSupply := st, gateRestore := restore } } := by
  have hnow : ({ s with arbiter := { s.arbiter with gateSupply := st, gateRestore := restore } } : State).judgedHealth =
      .healthy := by
    rw [judgedHealth_eq, healthOf, if_neg (by simp [hfault]), if_neg (by simp [hready])]
  have hjudged : judgeStarter { s with arbiter := { s.arbiter with gateSupply := st, gateRestore := restore } } =
      { s with arbiter := { s.arbiter with gateSupply := st, gateRestore := restore } } := by
    rw [(judgeStarter_effect _).1 (by rw [← judgedHealth_eq, hnow]; exact hhealth.symm)]
  rw [arbiterGate, hjudged]
  exact grantTest_still (.inr (.inl hqueue))

end Sys2Proof.Machine

open Sys2Proof Sys2Proof.Machine Sys2Proof.Spec

/-- Settles O28: the heads declined one by one leave what the first head that is granted finds. -/
theorem gapExpiryGrantsTheHead : Obligations.GapExpiryGrantsTheHead := by
  refine ⟨fun s hlive hgap ht => ?_, fun s => ⟨grantTest_still, grantTest_grants⟩⟩
  obtain ⟨hp, hinbox⟩ := hlive
  have hexec : exec .gapTimerExpiry s =
      .next (settle (grantTest { s with arbiter := { s.arbiter with state := .idle, gapTimer := none } })) := by
    refine (powered_timer (·.arbiter.gapTimer) (fun s => settle (gapExpires s)) hp ht).trans ?_
    rw [gapExpires, if_pos hgap]
  refine ⟨fun h => ?_, fun hopen => ⟨_, hexec, rfl, grantTest_grants rfl hopen⟩⟩
  exact hexec.trans (next_settled (grantTest_still (.inr h)) hinbox)

/-- Settles O16. -/
theorem minRunAndMinRestAreServed : Obligations.MinRunAndMinRestAreServed := by
  refine ⟨fun b s hlive ht hst => ?_, fun b s hlive ht hst => ?_⟩ <;> obtain ⟨hp, hinbox⟩ := hlive
  · have hexec : exec (.minRunTimerExpiry b) s = .next (settle (minRunServed b s)) :=
      powered_timer (fun s => (s.pump b).minRun) (fun s => settle (minRunServed b s)) hp ht
    refine ⟨fun hwanted => ?_, fun hwanted => ?_⟩
    · exact hexec.trans (next_settled (minRunServed_wanted hwanted) hinbox)
    · obtain ⟨j, h⟩ := minRunServed_unwanted hst hwanted
      refine ⟨_, hexec, by rw [h], fun hfb => ?_, fun hfb => ?_⟩
      · exact (congrArg State.roster h).trans (congrArg (rosterWith s b) (if_pos hfb))
      · exact (congrArg State.roster h).trans
          (congrArg (rosterWith s b) (if_neg (Bool.eq_false_iff.1 hfb)))
  · obtain ⟨j, h⟩ := minRestServed_moved hst
    refine ⟨_, powered_timer (fun s => (s.pump b).minRest) (fun s => settle (minRestServed b s)) hp ht, ?_, by rw [h]⟩
    rw [h]
    simp [stateNotices]

/-- Settles O17. -/
theorem holdsAndRestoreTimerEnd : Obligations.HoldsAndRestoreTimerEnd := by
  refine ⟨fun s hlive ht => ?_, fun s hlive ht => ?_⟩ <;> obtain ⟨hp, hinbox⟩ := hlive
  · refine ⟨holdEnds s, powered_timer (·.roster.restartHold) (fun s => settle (holdEnds s)) hp ht,
      grantFrom_told _ _ (List.mem_append_right _ (List.mem_singleton_self _)), ?_, ?_, holdEnds_plant s,
      (keeps_grantTest _).duty, fun hqueue => ?_⟩
    · exact congrArg Prod.fst (grantFrom_hold _ _)
    · exact congrArg Prod.snd (grantFrom_hold _ _)
    · rw [holdEnds_still hqueue, State.post, show (holdOver s).inbox = [] from hinbox]
      rfl
  · have hexec : exec .restoreTimerExpiry s = .next (settle (restoreExpired s)) :=
      powered_timer (·.supply.restoreTimer) (fun s => settle (restoreExpired s)) hp ht
    refine ⟨⟨_, hexec, ?_⟩, fun hqueue hhealth hready hfault => ?_⟩
    · rw [settle_plant, restoreExpired, arbiterGate_plant]
      rfl
    · exact hexec.trans (next_settled (arbiterGate_still hqueue hhealth hready hfault) hinbox)

end

section
/-! PROOFS. The requests of the Authority Monitor (R189) and of the Pump Roster (R62, R64, R65). -/

namespace Sys2Proof.Machine

open Sys2Proof.Spec

set_option Elab.async false

/-! ## The Authority Monitor -/

/-- A failure counted is the failure of R187. -/
theorem countFailure_eq (s : State) : countFailure s = { s with authority := failed s.authority } := by
  have hthird : min 3 (s.authority.failures + 1) = 3 ↔ 2 ≤ s.authority.failures := by omega
  have hcount : min 3 (s.authority.failures + 1) = if 2 ≤ s.authority.failures then 3 else s.authority.failures + 1 := by
    split <;> omega
  simp only [countFailure, failed, State.setAuthority, hthird, ← hcount]

/-- A request's answer, named. -/
theorem addressed_answer {s : State} (h : s.ready) {code : Nat} {act : State → Answer} {a : Answer}
    (ha : act s.heard = a) : addressed code act s = .next ((settle a.state).replying code a.status a.payload) := by
  rw [addressed_ready _ _ _ h, ha, enterTurnaround_settled]

/-- A request's answer that leaves no notice, named. -/
theorem addressed_reply {s : State} (h : s.ready) {code : Nat} {act : State → Answer} {a : Answer}
    (ha : act s.heard = a) (hinbox : a.state.inbox = []) :
    addressed code act s = .next (a.state.replying code a.status a.payload) := by
  rw [addressed_ready _ _ _ h, ha, enterTurnaround_quiet _ _ hinbox]

/-! ## The Pump Roster's requests -/

theorem Bay.ofNumber_number (b : Bay) : Bay.ofNumber b.number = some b := by cases b <;> rfl

theorem Bay.ofNumber_outside {n : Nat} (h : n = 0 ∨ 4 < n) : Bay.ofNumber n = none := by
  unfold Bay.ofNumber
  split <;> first | omega | rfl

theorem namedBay_outside {s : State} {n : Nat} (h : n = 0 ∨ 4 < n) : s.namedBay n = none := by
  rw [State.namedBay, Bay.ofNumber_outside h]

theorem namedBay_absent {s : State} {b : Bay} (h : (s.pump b).state = .absent) : s.namedBay b.number = none := by
  rw [State.namedBay, Bay.ofNumber_number]
  exact if_pos h

theorem namedBay_there {s : State} {b : Bay} (h : (s.pump b).state ≠ .absent) : s.namedBay b.number = some b := by
  rw [State.namedBay, Bay.ofNumber_number]
  exact if_neg h

/-- A privileged request's answer, named. -/
theorem privileged_answer {s : State} {ans : Nat} (h : s.cleared ans) {code : Nat} {act : State → Answer} {a : Answer}
    (ha : act s.heard.spent = a) :
    addressed code (privileged ans act) s = .next ((settle a.state).replying code a.status a.payload) := by
  rw [addressed_cleared _ _ _ _ h, ha, enterTurnaround_settled]

/-- A privileged request's answer that leaves no notice, named. -/
theorem privileged_reply {s : State} {ans : Nat} (h : s.cleared ans) {code : Nat} {act : State → Answer} {a : Answer}
    (ha : act s.heard.spent = a) (hinbox : a.state.inbox = []) :
    addressed code (privileged ans act) s = .next (a.state.replying code a.status a.payload) := by
  rw [privileged_answer h ha, settle_quiet _ hinbox]

/-- A refusal of a privileged request. -/
theorem privileged_refuses {s : State} {ans : Nat} (h : s.cleared ans) {code : Nat} {act : State → Answer} {st : Status}
    (ha : act s.heard.spent = .refuse s.heard.spent st) :
    addressed code (privileged ans act) s = .next (s.heard.spent.replying code st []) :=
  privileged_reply h ha (cleared_inbox h)

/-! ## PUMP_RESET (R62) -/

section
variable {t : State} {b : Bay}

theorem pumpReset_unnamed {n : Nat} (h : t.namedBay n = none) : pumpReset n t = .refuse t .badIndex := by
  rw [pumpReset, h]

theorem pumpReset_named (ha : (t.pump b).state ≠ .absent) : pumpReset b.number t =
    if (t.pump b).selector ≠ .auto then .refuse t .localControl
    else if (t.pump b).state ≠ .lockedOut then .done t
    else if t.overloadTripped b then .refuse t .stillFaulted
    else .done (releaseLockout b t) := by
  rw [pumpReset, namedBay_there ha]

/-- A lockout is released (R61, R62). -/
theorem releaseLockout_moved (hst : (t.pump b).state = .lockedOut) : ∃ i, Moved t (releaseLockout b t) b
    (if (t.pump b).inService = true then
      { rested .resting (t.pump b) with reason := none, resetMark := false, minRest := some (t.itemNat 3 2 * 1000) }
    else { rested .unavailable (t.pump b) with reason := none, resetMark := false })
    (t.report (lockoutSource b) false).conditions i := by
  have hclear := ((Moved.refl t b).modPump fun p => { p with reason := none, resetMark := false }).report (v := t) rfl rfl
    (lockoutSource b) false none
  have hq : (t.pump b).state ≠ .queued := by rw [hst]; decide
  have hs : (t.pump b).state ≠ .starting := by rw [hst]; decide
  unfold releaseLockout
  dsimp only
  rw [hclear.pump]
  dsimp only
  split
  · exact ⟨_, hclear.rests hq hs (by dsimp only; rw [hst]; decide)⟩
  · exact ⟨_, hclear.goes hq hs (by dsimp only; rw [hst]; decide) (by decide) (by decide)⟩

/-! ## PUMP_FORCE (R64) -/

theorem forcedOf_code (f : Forced) : forcedOf f.code = some f := by cases f <;> rfl

theorem exists_forced {mode : Nat} (h : mode ≤ 2) : ∃ f : Forced, f.code = mode := by
  match mode, h with
  | 0, _ => exact ⟨.none, rfl⟩
  | 1, _ => exact ⟨.run, rfl⟩
  | 2, _ => exact ⟨.stop, rfl⟩

theorem pumpForce_mode {mode : Nat} (n : Nat) (h : 2 < mode) : pumpForce n mode t = .refuse t .badRequest := by
  have hnone : forcedOf mode = none := by unfold forcedOf; split <;> first | omega | rfl
  rw [pumpForce, hnone]

theorem pumpForce_unnamed {mode n : Nat} (hm : mode ≤ 2) (h : t.namedBay n = none) :
    pumpForce n mode t = .refuse t .badIndex := by
  obtain ⟨f, rfl⟩ := exists_forced hm
  rw [pumpForce, forcedOf_code, h]

theorem pumpForce_named (f : Forced) (ha : (t.pump b).state ≠ .absent) : pumpForce b.number f.code t =
    if (t.pump b).selector ≠ .auto then .refuse t .localControl
    else if (t.pump b).inService = false ∧ f ≠ .none then .refuse t .conflict
    else .done (setForced b f t) := by
  rw [pumpForce, forcedOf_code, namedBay_there ha]

/-! ## PUMP_SERVICE (R65) -/

theorem pumpService_value {value : Nat} (n : Nat) (h : 1 < value) : pumpService n value t = .refuse t .badRequest :=
  if_pos h

theorem pumpService_unnamed {value n : Nat} (hv : value ≤ 1) (h : t.namedBay n = none) :
    pumpService n value t = .refuse t .badIndex := by
  rw [pumpService, if_neg (Nat.not_lt.2 hv), h]

theorem pumpService_named {value : Nat} (hv : value ≤ 1) (ha : (t.pump b).state ≠ .absent) :
    pumpService b.number value t =
      if (t.pump b).selector ≠ .auto then .refuse t .localControl
      else if (t.pump b).inService = (value == 0) then .done t
      else if value = 0 then .done (intoService b t)
      else .done (outOfService b t) := by
  rw [pumpService, if_neg (Nat.not_lt.2 hv), namedBay_there ha]

/-- R65: a pump's record with its service and its forced mode written. -/
def unserviced (p : PumpRec) : PumpRec := { p with inService := false, forced := .none }

/-- The service and the forced mode written, before the pump goes where its state takes it. -/
def serviceEnds (b : Bay) (s : State) : State := setForced b .none (s.modPump b fun p => { p with inService := false })

theorem serviceEnds_moved (b : Bay) (t : State) :
    ∃ i, Moved t (serviceEnds b t) b (unserviced (t.pump b)) t.conditions i :=
  ⟨_, ((Moved.refl t b).modPump _).setForced .none⟩

/-- Where a pump goes that is made OUT_OF_SERVICE, by state (R65). -/
def leavesService (b : Bay) (st : PumpState) (s : State) : State :=
  match st with
  | .idle | .resting | .queued => goUnavailable b s
  | .starting | .running => goStopping b s
  | _ => s

theorem outOfService_eq (b : Bay) (t : State) : outOfService b t = leavesService b (t.pump b).state (serviceEnds b t) := by
  obtain ⟨i, h⟩ := serviceEnds_moved b t
  have hpump : ((serviceEnds b t).pump b).state = (t.pump b).state := by rw [h.pump]; rfl
  rw [← hpump]
  unfold outOfService leavesService serviceEnds
  dsimp only
  split <;> simp only [*]

theorem outOfService_resting (hst : (t.pump b).state = .idle ∨ (t.pump b).state = .resting) :
    ∃ i, Moved t (outOfService b t) b (rested .unavailable (unserviced (t.pump b))) t.conditions i := by
  obtain ⟨i, h⟩ := serviceEnds_moved b t
  have heq : outOfService b t = goUnavailable b (serviceEnds b t) := by
    rw [outOfService_eq]
    rcases hst with hst | hst <;> rw [hst] <;> rfl
  have hne (st : PumpState) (hi : .idle ≠ st) (hr : .resting ≠ st) : (t.pump b).state ≠ st := by
    rcases hst with hst | hst <;> rw [hst] <;> assumption
  rw [heq]
  exact ⟨_, h.goes (st := .unavailable) (hne .queued (by decide) (by decide)) (hne .starting (by decide) (by decide))
    (hne .unavailable (by decide) (by decide)) (by decide) (by decide)⟩

theorem outOfService_queued (hst : (t.pump b).state = .queued) : ∃ i,
    Moved (depart b t) (outOfService b t) b (rested .unavailable (unserviced (t.pump b))) t.conditions i := by
  obtain ⟨i, h⟩ := serviceEnds_moved b t
  rw [outOfService_eq, hst]
  exact ⟨_, h.goUnavailable rfl (by show (t.pump b).state ≠ _; rw [hst]; decide)⟩

theorem outOfService_stops (hst : (t.pump b).state = .starting ∨ (t.pump b).state = .running) : ∃ i,
    Moved (depart b t) (outOfService b t) b (stopped t b (unserviced (t.pump b))) t.conditions i := by
  obtain ⟨i, h⟩ := serviceEnds_moved b t
  have heq : outOfService b t = goStopping b (serviceEnds b t) := by
    rw [outOfService_eq]
    rcases hst with hst | hst <;> rw [hst] <;> rfl
  obtain ⟨j, hstopped⟩ := h.goStopping rfl (by show (t.pump b).state ≠ _; rcases hst with h | h <;> rw [h] <;> decide)
  rw [heq]
  exact ⟨_, hstopped⟩

theorem outOfService_stays
    (hst : (t.pump b).state = .stopping ∨ (t.pump b).state = .lockedOut ∨ (t.pump b).state = .unavailable) :
    ∃ i, Moved t (outOfService b t) b (unserviced (t.pump b)) t.conditions i := by
  obtain ⟨i, h⟩ := serviceEnds_moved b t
  have heq : outOfService b t = serviceEnds b t := by
    rw [outOfService_eq]
    rcases hst with hst | hst | hst <;> rw [hst] <;> rfl
  rw [heq]
  exact ⟨_, h⟩

/-- A pump OUT_OF_SERVICE that stops with its feedback off is UNAVAILABLE at once (R56). -/
theorem stopped_unserviced (p : PumpRec) : stopped t b (unserviced p) =
    if (t.contacts.runFeedback.get b).filtered = true then
      { rested .stopping (unserviced p) with stopConfirm := some (t.itemNat 3 4 * 1000) }
    else rested .unavailable (unserviced p) := by
  have hout : ¬ ((unserviced p).selector = .auto ∧ (unserviced p).inService = true) := fun k => nomatch k.2
  rw [stopped, if_neg hout]
  rfl

/-- Over a record already written, the one that stands last. -/
theorem Moved.over {s u : State} {p : PumpRec} {c : Conditions} {i : List Notice} (h : Moved s u b p c i) (q : PumpRec) :
    Moved (s.setPump b q) u b p c i := by
  rw [Moved, rosterWith, State.setPump, h]
  simp only [rosterWith, PerBay.put_put]

/-- The bay's record with the service restored. -/
def serviced (p : PumpRec) : PumpRec := { p with inService := true }

theorem serviced_moved (b : Bay) (t : State) : Moved t (t.modPump b serviced) b (serviced (t.pump b)) t.conditions t.inbox :=
  (Moved.refl t b).modPump serviced

/-- A pump IN_SERVICE again that was not UNAVAILABLE stays (R65). -/
theorem intoService_stays (hst : (t.pump b).state ≠ .unavailable) : intoService b t = t.modPump b serviced :=
  if_neg (by rw [pump_modPump_self]; exact hst)

/-- An UNAVAILABLE pump IN_SERVICE again comes out by its contacts, as at a return to AUTO (R47, R65). -/
theorem intoService_unavailable (hst : (t.pump b).state = .unavailable) :
    intoService b t = selectorToAuto b (t.modPump b serviced) := by
  have hpump : (t.modPump b serviced).pump b = serviced (t.pump b) := pump_modPump_self _ _ _
  rw [selectorToAuto, hpump, show (serviced (t.pump b)).state = .unavailable from hst]
  exact if_pos (by rw [pump_modPump_self]; exact hst)

/-- An UNAVAILABLE pump IN_SERVICE again with its overload tripped is LOCKED_OUT (R47, R60). -/
theorem intoService_locks (hst : (t.pump b).state = .unavailable) (hfree : (t.contacts.overload.get b).filtered = false) :
    LocksOut (t.setPump b (serviced (t.pump b))) (intoService b t) b .overload := by
  have hlocks := selectorToAuto_locks (serviced_moved b t) rfl hst rfl hfree
  rw [depart_still (by rw [hst]; decide) (by rw [hst]; decide)] at hlocks
  have hover := hlocks.over (serviced (t.pump b))
  rw [intoService_unavailable hst]
  refine locksOut_of_moved (i := t.inbox ++ stateNotices b (serviced (t.pump b)).state .lockedOut) ?_
  rw [pump_setPump_self]
  exact hover

end

end Sys2Proof.Machine

open Sys2Proof Sys2Proof.Machine Sys2Proof.Spec

/-- Settles O51, request by request and state by state. -/
theorem authorityRequestsAreJudged : Obligations.AuthorityRequestsAreJudged := by
  refine ⟨fun s h => ?_, fun value s h => ?_, fun s h => ?_⟩
  · have reply {a : Answer} (ha : openAuthority s.heard = a) (hinbox : a.state.inbox = []) :
        exec .openAuthority s = .next (a.state.replying 0x1A a.status a.payload) := addressed_reply h ha hinbox
    refine ⟨fun hp => ?_, fun hp hst => ?_, fun hp hst => ?_, fun hp hst => ?_⟩
    · exact reply (a := .refuse s.heard .notPermitted) (by simp [openAuthority, hp]) h.inbox_eq
    · exact reply (a := .refuse s.heard .barred) (by simp [openAuthority, hp, hst]) h.inbox_eq
    · exact reply (a := .done s.heard) (by simp [openAuthority, hp, hst]) h.inbox_eq
    · exact reply (a := .done (challenge s.heard)) (by rcases hst with hst | hst <;> simp [openAuthority, hp, hst])
        h.inbox_eq
  · have reply {a : Answer} (ha : answerChallenge value s.heard = a) (hinbox : a.state.inbox = []) :
        exec (.answer value) s = .next (a.state.replying 0x1B a.status a.payload) := addressed_reply h ha hinbox
    have hneeded : s.heard.expectedAnswer = s.answerNow := rfl
    refine ⟨fun hst => ?_, fun hst => ?_, fun hst hv => ?_, fun hst hv => ?_, fun hst hv => ?_, fun hst hv => ?_⟩
    · exact reply (a := .refuse s.heard .noAuthority) (by simp [answerChallenge, hst]) h.inbox_eq
    · exact reply (a := .refuse s.heard .barred) (by simp [answerChallenge, hst]) h.inbox_eq
    · exact reply (a := .done (grantAnew s.heard)) (by simp [answerChallenge, hst, hneeded, hv]) h.inbox_eq
    · exact reply (a := .refuse { s.heard with authority := failed s.authority } .noAuthority)
        (by simp [answerChallenge, hst, hneeded, hv, countFailure_eq]) h.inbox_eq
    · exact reply (a := .done (grantAuthority s.heard)) (by simp [answerChallenge, hst, hneeded, hv]) h.inbox_eq
    · refine ⟨lapse { s.heard with authority := failed s.authority },
        addressed_answer h (a := .refuse (lapse { s.heard with authority := failed s.authority }) .noAuthority)
          (by simp [answerChallenge, hst, hneeded, hv, countFailure_eq]), lapse_lapsed _, ?_⟩
      rw [lapse_plant]
      rfl
  · have reply {a : Answer} (ha : releaseAuthority s.heard = a) (hinbox : a.state.inbox = []) :
        exec .releaseAuthority s = .next (a.state.replying 0x1C a.status a.payload) := addressed_reply h ha hinbox
    refine ⟨fun hst => ?_, fun hst => ?_, fun hst => ?_, fun hst => ?_⟩
    · exact reply (a := .done s.heard) (by simp [releaseAuthority, hst]) h.inbox_eq
    · exact reply (a := .refuse s.heard .barred) (by simp [releaseAuthority, hst]) h.inbox_eq
    · exact reply (a := .done (dropAuthority s.heard)) (by simp [releaseAuthority, hst]) h.inbox_eq
    · refine ⟨lapse (dropAuthority s.heard), addressed_answer h (a := .done (lapse (dropAuthority s.heard)))
        (by simp [releaseAuthority, hst]), lapse_lapsed _, ?_⟩
      rw [lapse_plant]
      rfl

/-- Settles O18. -/
theorem pumpResetClearsALockout : Obligations.PumpResetClearsALockout := by
  intro ans bay s h
  refine ⟨fun hbay => privileged_refuses h (pumpReset_unnamed (namedBay_outside hbay)), fun b hb => ?_⟩
  subst hb
  have named (ha : (s.pump b).state ≠ .absent) := pumpReset_named (t := s.heard.spent) ha
  refine ⟨fun ha => privileged_refuses h (pumpReset_unnamed (namedBay_absent ha)), fun ha hsel => ?_,
    fun ha hsel hst => ?_, fun hsel hst hover => ?_, fun hsel hst hover => ?_⟩
  · exact privileged_refuses h ((named ha).trans (if_pos hsel))
  · exact privileged_reply h (a := .done s.heard.spent)
      ((named ha).trans ((if_neg (not_not.2 hsel)).trans (if_pos hst))) (cleared_inbox h)
  · have htripped : s.heard.spent.overloadTripped b = true := congrArg (!·) hover
    exact privileged_refuses h ((named (by rw [hst]; decide)).trans
      ((if_neg (not_not.2 hsel)).trans ((if_neg (not_not.2 hst)).trans (if_pos htripped))))
  · have hfree : s.heard.spent.overloadTripped b ≠ true := Bool.eq_false_iff.1 (congrArg (!·) hover)
    obtain ⟨i, hmoved⟩ := releaseLockout_moved (t := s.heard.spent) hst
    have hcond := hmoved.cond rfl
    refine ⟨releaseLockout b s.heard.spent, privileged_answer h (a := .done _) ((named (by rw [hst]; decide)).trans
      ((if_neg (not_not.2 hsel)).trans ((if_neg (not_not.2 hst)).trans (if_neg hfree)))), ?_, fun j hj => ?_, hmoved.frame⟩
    · rw [hcond, cond_report_self]
      exact CondRec.takeReport_active _ _ _ _
    · rw [hcond, cond_report_ne _ _ _ hj]
      rfl

/-- Settles O19. -/
theorem pumpForceSetsTheForcedMode : Obligations.PumpForceSetsTheForcedMode := by
  intro ans bay mode s h
  refine ⟨fun hm => privileged_refuses h (pumpForce_mode bay hm),
    fun hm hbay => privileged_refuses h (pumpForce_unnamed hm (namedBay_outside hbay)), fun b hb => ?_⟩
  subst hb
  have named (f : Forced) (ha : (s.pump b).state ≠ .absent) := pumpForce_named (t := s.heard.spent) f ha
  refine ⟨fun hm ha => privileged_refuses h (pumpForce_unnamed hm (namedBay_absent ha)), fun hm ha hsel => ?_,
    fun hm ha hsel hs => ?_, fun f hf ha hsel hs => ?_⟩
  · obtain ⟨f, rfl⟩ := exists_forced hm
    exact privileged_refuses h ((named f ha).trans (if_pos hsel))
  · obtain ⟨f, rfl⟩ := exists_forced (show mode ≤ 2 by omega)
    have hf : f ≠ .none := by rintro rfl; exact absurd hm (by decide)
    exact privileged_refuses h ((named f ha).trans ((if_neg (not_not.2 hsel)).trans (if_pos ⟨hs, hf⟩)))
  · subst hf
    have hallowed : ¬ ((s.pump b).inService = false ∧ f ≠ .none) := by
      rintro ⟨hout, hne⟩
      rcases hs with hs | hs
      · exact absurd hout (by rw [hs]; decide)
      · exact hne hs
    have hmoved := (Moved.refl s.heard.spent b).setForced f
    rw [cleared_inbox h] at hmoved
    refine (privileged_answer h (a := .done (setForced b f s.heard.spent))
      ((named f ha).trans ((if_neg (not_not.2 hsel)).trans (if_neg hallowed)))).trans ?_
    show Host.Outcome.next ((settle (setForced b f s.heard.spent)).replying 0x0A .ok []) = _
    rw [hmoved]
    rfl

/-- Settles O20, by the pump's state. -/
theorem pumpServiceWritesTheService : Obligations.PumpServiceWritesTheService := by
  intro ans bay value s h
  refine ⟨fun hv => privileged_refuses h (pumpService_value bay hv),
    fun hv hbay => privileged_refuses h (pumpService_unnamed hv (namedBay_outside hbay)), fun b hb hv => ?_⟩
  subst hb
  have named (ha : (s.pump b).state ≠ .absent) := pumpService_named (t := s.heard.spent) hv ha
  refine ⟨fun ha => privileged_refuses h (pumpService_unnamed hv (namedBay_absent ha)), fun ha hsel => ?_,
    fun ha hsel hs => ?_, fun ha hsel hv hs => ?_, fun ha hsel hv hs => ?_⟩
  · exact privileged_refuses h ((named ha).trans (if_pos hsel))
  · exact privileged_reply h (a := .done s.heard.spent)
      ((named ha).trans ((if_neg (not_not.2 hsel)).trans (if_pos hs))) (cleared_inbox h)
  · subst hv
    have hchange : ¬ (s.pump b).inService = ((1 : Nat) == 0) := by rw [hs]; decide
    refine ⟨outOfService b s.heard.spent, privileged_answer h (a := .done _)
      ((named ha).trans ((if_neg (not_not.2 hsel)).trans ((if_neg hchange).trans (if_neg (by decide))))),
      fun hst => ?_, fun hst => ?_, fun hst hramp hheld => ?_, fun hst => ?_, fun hst => ?_⟩
    · obtain ⟨i, hmoved⟩ := outOfService_resting (t := s.heard.spent) hst
      exact hmoved.becomes rfl
    · obtain ⟨i, hmoved⟩ := outOfService_queued (t := s.heard.spent) hst
      rw [depart_offRamp (s := s.heard.spent) fun k => absurd (hst.symm.trans k.1) (by decide),
        if_pos (show (s.heard.spent.pump b).state = .queued from hst)] at hmoved
      exact hmoved.becomes rfl
    · obtain ⟨i, hmoved⟩ := outOfService_stops (t := s.heard.spent) (.inl hst)
      rw [depart_onRamp (s := s.heard.spent) ⟨hst, hramp, hheld⟩, stopped_unserviced] at hmoved
      rw [hmoved]
      exact ⟨rfl, rfl⟩
    · obtain ⟨i, hmoved⟩ := outOfService_stops (t := s.heard.spent) (.inr hst)
      have hstill : depart b s.heard.spent = s.heard.spent :=
        depart_still (show (s.pump b).state ≠ .queued by rw [hst]; decide)
          (show (s.pump b).state ≠ .starting by rw [hst]; decide)
      rw [hstill, stopped_unserviced] at hmoved
      exact hmoved.becomes rfl
    · obtain ⟨i, hmoved⟩ := outOfService_stays (t := s.heard.spent) hst
      exact hmoved.becomes rfl
  · subst hv
    have hchange : ¬ (s.pump b).inService = ((0 : Nat) == 0) := by rw [hs]; decide
    have hserviced := serviced_moved b s.heard.spent
    refine ⟨intoService b s.heard.spent, privileged_answer h (a := .done _)
      ((named ha).trans ((if_neg (not_not.2 hsel)).trans ((if_neg hchange).trans (if_pos rfl)))),
      fun hst => intoService_stays (t := s.heard.spent) hst, fun hst hfree => ?_, fun hst hfree => ?_⟩
    · rw [intoService_unavailable (t := s.heard.spent) hst]
      dsimp only
      split
      · exact (selectorToAuto_stops hserviced rfl hst rfl hfree ‹_›).becomes rfl
      · exact (selectorToAuto_idles hserviced rfl hst rfl hfree (Bool.eq_false_iff.2 ‹_›)).becomes rfl
    · exact intoService_locks (t := s.heard.spent) hst hfree

end

section
/-! PROOFS. The ramp's expiry (R52, R60, R92). -/

namespace Sys2Proof.Machine

open Sys2Proof.Spec

set_option Elab.async false

/-- The state with the Arbiter in its gap. -/
def inGap (s : State) : State := { s with arbiter := gapped s }

theorem enterGap_eq (s : State) : enterGap s = inGap s := rfl

/-- In the gap no pump is on the ramp. -/
theorem depart_inGap {s : State} {b : Bay} (hst : (s.pump b).state = .starting) : depart b (inGap s) = inGap s := by
  have hnot : ¬ OnRamp (inGap s) b := by rintro ⟨-, hramp, -⟩; exact nomatch hramp
  have hqueued : ((inGap s).pump b).state ≠ .queued := by rw [show ((inGap s).pump b).state = .starting from hst]; decide
  rw [depart_offRamp hnot, if_neg hqueued]

/-- The ramp's expiry with a pump held: the gap, the start settled, and the screens told. -/
theorem rampExpires_held {s : State} {b : Bay} (h : s.arbiter.held = some b) :
    rampExpires s = screensRamping false (settleStart b (inGap s)) := by
  unfold rampExpires
  dsimp only
  rw [h, enterGap_eq]

/-- The start settled with run feedback on (R52). -/
theorem settleStart_running {s : State} {b : Bay} (hst : (s.pump b).state = .starting) (hfb : s.feedback b = true) :
    Moved s (settleStart b s) b
      { rested .running (s.pump b) with runContactor := true, minRun := some (s.itemNat 3 1 * 1000) } s.conditions
      (s.inbox ++ stateNotices b (s.pump b).state .running) := by
  have hentered := (Moved.refl s b).enterState (st := .running) (by rw [hst]; decide)
  rw [settleStart, if_pos hst, if_pos hfb, goRunning]
  exact hentered.modPump _

/-- The start settled with run feedback off (R52, R60). -/
theorem settleStart_fails {s : State} {b : Bay} (hst : (s.pump b).state = .starting) (hfb : s.feedback b = false) :
    Moved (depart b s) (settleStart b s) b (locked .failToStart (s.pump b))
      (s.report (lockoutSource b) true (some (.lockout .failToStart))).conditions
      (s.inbox ++ stateNotices b (s.pump b).state .lockedOut) := by
  rw [settleStart, if_pos hst, if_neg (Bool.eq_false_iff.1 hfb)]
  exact (Moved.refl s b).lockOut rfl .failToStart (by rw [hst]; decide) rfl

/-- The screens are told last, and hear of the ramp as it was (R92, R111). -/
theorem screensRamping_moved {s u : State} {b : Bay} {p : PumpRec} {c : Conditions} {i : List Notice}
    (h : Moved (inGap s) u b p c i) : screensRamping false u = { s with
      roster := rosterWith s b p, arbiter := gapped s, screens := rampOver s, conditions := c, inbox := i } := by
  rw [screensRamping_eq, rampOver_congr (s := s) (by rw [h]; rfl) (by rw [h]; rfl) (by rw [h]; rfl), h]
  rfl

end Sys2Proof.Machine

open Sys2Proof Sys2Proof.Machine Sys2Proof.Spec

/-- Settles O27: the gap is entered first, so that the pump departs from no ramp, and the screens are told last. -/
theorem rampExpirySettlesTheStart : Obligations.RampExpirySettlesTheStart := by
  intro b s hp ht hheld hst
  have hstarting : ((inGap s).pump b).state = .starting := hst
  refine ⟨rampExpires s, powered_timer (·.arbiter.rampTimer) (fun s => settle (rampExpires s)) hp ht, ?_⟩
  rw [rampExpires_held hheld]
  cases hfb : (s.contacts.runFeedback.get b).filtered with
  | true =>
    rw [screensRamping_moved (settleStart_running hstarting hfb)]
    exact ⟨rfl, rfl, rampEnds_of_screens rfl, fun _ => rfl, nofun⟩
  | false =>
    have hlocks := settleStart_fails hstarting hfb
    rw [depart_inGap hst] at hlocks
    have hcond : ((inGap s).report (lockoutSource b) true (some (.lockout .failToStart))).cond (lockoutSource b) =
        told s (lockoutSource b) true (some (.lockout .failToStart)) := cond_report_self _ _ _ _
    rw [screensRamping_moved hlocks]
    refine ⟨rfl, rfl, rampEnds_of_screens rfl, nofun, fun _ => ⟨rfl, ?_, ?_⟩⟩
    · exact (congrArg CondRec.active hcond).trans (CondRec.takeReport_active _ _ _ _)
    · exact (congrArg CondRec.detail hcond).trans (told_detail _ _ _)

end

section
/-! PROOFS. The stage, what the Duty Controller holds, and the cutoff at LF dry (R58, R70 to R76). -/

namespace Sys2Proof.Machine

open Sys2Proof.Spec

set_option Elab.async false

/-! ## The level step (R72) -/

section
variable (start stop : Nat → Int) (level : Int)

/-- The climb stops at the first start level that is not reached, or at stage 4. -/
structure Climbs (d e : Nat) : Prop where
  from_le : d ≤ e
  le_four : e ≤ 4
  reached : ∀ k, d < k → k ≤ e → start k ≤ level
  next : e < 4 → level < start (e + 1)

theorem climb_climbs (n : Nat) : ∀ d, d ≤ 4 → 4 ≤ n + d → Climbs start level d (climb start level n d) := by
  induction n with
  | zero =>
    intro d hd hn
    exact ⟨Nat.le_refl d, hd, fun k _ _ => by rw [climb] at *; omega, fun h => by rw [climb] at h; omega⟩
  | succ n ih =>
    intro d hd hn
    rw [climb]
    by_cases h : d < 4 ∧ start (d + 1) ≤ level
    · obtain ⟨hle, hfour, hreached, hnext⟩ := ih (d + 1) h.1 (by omega)
      rw [if_pos h]
      refine ⟨by omega, hfour, fun k hk hke => ?_, hnext⟩
      by_cases hfirst : k = d + 1
      · rw [hfirst]; exact h.2
      · exact hreached k (by omega) hke
    · rw [if_neg h]
      exact ⟨Nat.le_refl d, hd, fun k hk hke => by omega, fun h4 => by by_contra hge; exact h ⟨h4, by omega⟩⟩

/-- The fall stops at the first stop level that has not been reached, or at stage 0. -/
structure Falls (d e : Nat) : Prop where
  le_from : e ≤ d
  reached : ∀ k, e < k → k ≤ d → level ≤ stop k
  here : 0 < e → stop e < level

theorem fall_falls : ∀ d, Falls stop level d (fall stop level d)
  | 0 => ⟨Nat.le_refl 0, fun k _ _ => by rw [fall] at *; omega, nofun⟩
  | d + 1 => by
    rw [fall]
    by_cases h : level ≤ stop (d + 1)
    · obtain ⟨hle, hreached, hhere⟩ := fall_falls d
      rw [if_pos h]
      refine ⟨by omega, fun k hk hkd => ?_, hhere⟩
      by_cases hlast : k = d + 1
      · rw [hlast]; exact h
      · exact hreached k hk (by omega)
    · rw [if_neg h]
      exact ⟨Nat.le_refl _, fun k _ _ => by omega, fun _ => by omega⟩

/-- A level step that climbs. -/
theorem stepStage_climbs {d : Nat} (hd : d < 4) (hstart : start (d + 1) ≤ level) :
    d < stepStage start stop level d ∧ Climbs start level d (stepStage start stop level d) := by
  have hclimb := climb_climbs start level 4 d (by omega) (by omega)
  have hnext := climb_climbs start level 3 (d + 1) (by omega) (by omega)
  have hup : climb start level 4 d = climb start level 3 (d + 1) := if_pos ⟨hd, hstart⟩
  have hlt : d < climb start level 4 d := by have := hnext.from_le; omega
  have hstep : stepStage start stop level d = climb start level 4 d := if_neg (by omega)
  rw [hstep]
  exact ⟨hlt, hclimb⟩

/-- A level step that does not climb falls as far as its stop levels let it. -/
theorem stepStage_falls {d : Nat} (h : ¬ (d < 4 ∧ start (d + 1) ≤ level)) :
    Falls stop level d (stepStage start stop level d) := by
  have hup : climb start level 4 d = d := if_neg h
  have hstep : stepStage start stop level d = fall stop level d := if_pos hup
  rw [hstep]
  exact fall_falls stop level d

end

/-! ## The stage after an event (R70, R73, R76) -/

section
variable (s : State)

theorem deliver_evaluates {n : Notice} (h : n ≠ .queueTest) : deliver n s = evaluate n s := if_neg h

theorem overrideStage_eq (k : Duty) : overrideStage k = overridden k k.stage := by
  unfold overrideStage overridden
  cases k.lfCovered <;> cases k.allOut <;> cases k.hfCovered <;> rfl

theorem overridden_heard (k : Duty) (d : Nat) : overridden k.heard d = overridden k d := rfl

theorem evaluate_stage (n : Notice) :
    (evaluate n s).duty.stage = (settleStage n s.duty.stage (ownEffect n s)).duty.stage := by
  rw [← Duty.heard_stage, evaluate_heard, evaluated_heard]

theorem evaluate_profile (n : Notice) :
    (evaluate n s).duty.profile = (settleStage n s.duty.stage (ownEffect n s)).duty.profile := by
  rw [← Duty.heard_profile, evaluate_heard, evaluated_heard]

/-- The levels of the profile that a storm state chooses (R71, R72). -/
theorem levels_of_profile (k : Nat) {st : StormState} (hp : s.duty.profile = profileOf st) :
    s.startLevel k = s.item 4 ((if st = .storm then 8 else 0) + (k - 1)) ∧
      s.stopLevel k = s.item 4 ((if st = .storm then 8 else 0) + 4 + (k - 1)) := by
  unfold State.startLevel State.stopLevel
  rw [hp]
  cases st <;> simp [profileOf]

theorem levelStep_known {r : ChannelReport} {level : Int} (hl : r.level = some level) (hu : r.usable = true)
    (ha : r.accepted = true) :
    (levelStep r s).duty = { s.duty with
      profile := profileOf s.duty.storm
      stage := stepStage (fun k => s.item 4 ((if s.duty.storm = .storm then 8 else 0) + (k - 1)))
        (fun k => s.item 4 ((if s.duty.storm = .storm then 8 else 0) + 4 + (k - 1))) level s.duty.stage } := by
  have hknown : r.known = some level := by rw [ChannelReport.known, if_pos hu, hl]
  have hlevels (k : Nat) := levels_of_profile
    { s with duty := { s.duty with profile := profileOf s.duty.storm } } k (st := s.duty.storm) rfl
  unfold levelStep
  rw [hknown]
  dsimp only
  rw [if_pos ha, funext fun k => (hlevels k).1, funext fun k => (hlevels k).2]
  rfl

theorem levelStep_unknown {r : ChannelReport} (h : r.accepted = false ∨ r.usable = false) : levelStep r s = s := by
  unfold levelStep
  split
  · rfl
  · rename_i level hknown
    refine if_neg fun ha => ?_
    rcases h with h | h
    · exact absurd ha (by rw [h]; decide)
    · rw [ChannelReport.known, h] at hknown
      exact nomatch hknown

/-- Stages 2 and 3 after a WW report. -/
theorem settleStage_wwReport (r : ChannelReport) (d : Nat) : (settleStage (.wwReport r) d s).duty.stage =
    overridden (levelStep r s).duty (levelStep r s).duty.stage := overrideStage_eq _

/-- Stages 2 and 3 after any other event. -/
theorem settleStage_other {n : Notice} (hn : ∀ r, n ≠ .wwReport r) (d : Nat) :
    (settleStage n d s).duty.stage = overridden s.duty s.duty.stage ∧
      (settleStage n d s).duty.profile = s.duty.profile := by
  cases n with
  | wwReport r => exact absurd rfl (hn r)
  | _ => exact ⟨overrideStage_eq _, rfl⟩

/-- What an event carries is written, and nothing else of what is held, whatever the stage and the profile. -/
theorem holds_of_heard {s t : State} {n : Notice} {stage : Nat} {profile : Profile}
    (h : t.duty.heard = { s.duty.heard.takes n s.handRunning with stage := stage, profile := profile }) : Holds n s t := by
  have held {α : Type} (f : Duty → α) := congrArg f h
  refine ⟨(held Duty.report).trans ?_, (held Duty.hfCovered).trans ?_, (held Duty.lfCovered).trans ?_,
    (held Duty.cutoff).trans ?_, (held Duty.allOut).trans ?_, (held Duty.storm).trans ?_, (held Duty.limit).trans ?_,
    (held Duty.handCount).trans ?_⟩ <;> cases n <;> rfl

theorem evaluate_holds (n : Notice) : Holds n s (evaluate n s) :=
  holds_of_heard ((evaluate_heard s n).trans (evaluated_heard s n))

/-- The stage after an event that is no WW report. -/
theorem evaluate_overrides {n : Notice} (hn : ∀ r, n ≠ .wwReport r) :
    (evaluate n s).duty.stage = overridden (evaluate n s).duty s.duty.stage ∧
      (evaluate n s).duty.profile = s.duty.profile := by
  obtain ⟨hstage, hprofile⟩ := settleStage_other (ownEffect n s) hn s.duty.stage
  have hown := ownEffect_heard s n
  have hkept : (ownEffect n s).duty.stage = s.duty.stage ∧ (ownEffect n s).duty.profile = s.duty.profile := by
    refine ⟨(congrArg Duty.stage hown).trans ?_, (congrArg Duty.profile hown).trans ?_⟩ <;> cases n <;> rfl
  have hoverrides : overridden (ownEffect n s).duty s.duty.stage = overridden (evaluate n s).duty s.duty.stage := by
    rw [← overridden_heard, ← overridden_heard (evaluate n s).duty, evaluate_heard, evaluated_heard, hown]
    rfl
  rw [evaluate_stage, evaluate_profile, hstage, hprofile, hkept.1, hkept.2]
  exact ⟨hoverrides, rfl⟩

/-! ## The cutoff at LF dry (R58, R75) -/

/-- The rotation test writes the Duty Controller's own alone. -/
theorem rotate_frame : rotate s = { s with duty := (rotate s).duty } := by
  unfold rotate
  split
  · dsimp only
    split <;> rfl
  · rfl

/-- Under the cutoff the wanted set is empty (R75). -/
theorem wantedSet_cutoff {s : State} (h : s.duty.cutoff = true) : s.wantedSet = ⟨[], [], [], []⟩ := if_pos h

theorem wantedOf_lfDry : wantedOf (.lf false) s = ⟨[], [], [], []⟩ := by
  refine wantedSet_cutoff ?_
  rw [← Duty.heard_cutoff, rotate_heard]
  rfl

/-- The evaluation at LF dry, before the hand-over, leaves all but the Duty Controller as it was. -/
theorem evaluated_lfDry : evaluated (.lf false) s = { s with duty := (evaluated (.lf false) s).duty } := by
  have heq : evaluated (.lf false) s = rotate (settleStage (.lf false) s.duty.stage (ownEffect (.lf false) s)) := by
    show (wantedOf (.lf false) s).drops.foldl (fun t b => dropDue b t) _ = _
    rw [wantedOf_lfDry]
    rfl
  rw [heq, rotate_frame]
  rfl

/-- Nothing wanted changes nothing when the cutoff has left no pump to stop. -/
theorem takeWanted_nothing {s : State} (hcutoff : s.duty.cutoff = true) (hpumps : ∀ b, (s.pump b).state.committed = false) :
    takeWanted [] [] [] s = wantedWritten [] [] s := by
  have hunwanted (b : Bay) : unwanted b (wantedWritten [] [] s) = wantedWritten [] [] s := by
    have hb : ((wantedWritten [] [] s).pump b).state.committed = false := hpumps b
    unfold unwanted
    split <;> first | rfl | (rename_i hst; rw [hst] at hb; exact nomatch hb)
  have hqueue (b : Bay) : queueOne b (wantedWritten [] [] s) = wantedWritten [] [] s := by
    refine if_neg fun hmay => ?_
    exact absurd (hcutoff.symm.trans (cutoff_of_mayQueue (wantedWritten [] [] s) hmay)) (by decide)
  have hstops : forBays (fun b s => if ([] : List Bay).contains b then changeoverStop b s else s) (wantedWritten [] [] s) =
      wantedWritten [] [] s := forBays_fixed fun _ => rfl
  unfold takeWanted
  dsimp only
  show queueTest (forBays _ (forBays _ (wantedWritten [] [] s))) = _
  rw [hstops, forBays_fixed fun b => ?_]
  · exact List.foldl_fixed' hqueue _
  · exact hunwanted b

/-- After LF dry: the cutoff notice at every pump, and then nothing wanted. -/
theorem evaluate_lfDry : evaluate (.lf false) s = wantedWritten [] [] (forBays cutoffPump (evaluated (.lf false) s)) := by
  have hcutoff : (evaluated (.lf false) s).duty.cutoff = true := by
    rw [← Duty.heard_cutoff, evaluated_heard]
    rfl
  have hnotice (t : State) : cutoffNotice (.lf false) t = forBays cutoffPump t := rfl
  rw [evaluate_eq, wantedOf_lfDry, hnotice]
  refine takeWanted_nothing ?_ fun b => ?_
  · rw [(keeps_forBays keeps_cutoffPump _).duty, hcutoff]
  · rw [forBays_cutoffPump_pump]
    exact cutOff_uncommitted _ _

/-! ## The ramp under the cutoff (R93, R111) -/

/-- The ramp of a state still stands in another, but for what has left the start queue. -/
structure RampStands (s u : State) : Prop where
  arbiter : u.arbiter = { s.arbiter with queue := u.arbiter.queue }
  screens : u.screens = s.screens
  plant : u.plant = s.plant

/-- The ramp of a state has been aborted in another, but for what has left the start queue. -/
structure RampAborted (s u : State) : Prop where
  arbiter : u.arbiter = { gapped s with queue := u.arbiter.queue }
  screens : u.screens = rampOver s

/-- A pump that is not on the ramp moves nothing of the Arbiter but its queue, and no screen. -/
theorem cutoffPump_offRamp {u : State} {b : Bay} (h : ¬ OnRamp u b) : ∃ q,
    (cutoffPump b u).arbiter = { u.arbiter with queue := q } ∧ (cutoffPump b u).screens = u.screens := by
  obtain ⟨-, hsame, -⟩ | ⟨c, i, hmoved⟩ := cutoffPump_moved b u
  · exact ⟨u.arbiter.queue, by rw [hsame], by rw [hsame]⟩
  · refine ⟨(depart b u).arbiter.queue, ?_, ?_⟩ <;> rw [hmoved, depart_offRamp h]
    split <;> rfl

theorem cutoffPump_stands {s u : State} {b c : Bay} (hheld : s.arbiter.held = some b) (h : RampStands s u) (hc : c ≠ b) :
    RampStands s (cutoffPump c u) := by
  have hnot : ¬ OnRamp u c := by
    rintro ⟨-, -, hramp⟩
    rw [h.arbiter] at hramp
    exact hc (Option.some.inj (hramp.symm.trans hheld))
  obtain ⟨q, harbiter, hscreens⟩ := cutoffPump_offRamp hnot
  exact ⟨by rw [harbiter, h.arbiter], hscreens.trans h.screens, (cutoffPump_plant u c).trans h.plant⟩

theorem cutoffPump_aborts {s u : State} {b : Bay} (hramp : OnRamp s b) (h : RampStands s u) (hb : u.pump b = s.pump b) :
    RampAborted s (cutoffPump b u) := by
  obtain ⟨hst, hstate, hheld⟩ := hramp
  have hramp' : OnRamp u b := ⟨by rw [hb, hst], by rw [h.arbiter, hstate], by rw [h.arbiter, hheld]⟩
  obtain ⟨hnot, -⟩ | ⟨c, i, hmoved⟩ := cutoffPump_moved b u
  · exact absurd hnot (by rw [hb, hst]; decide)
  · have hitem : u.itemNat 3 8 = s.itemNat 3 8 := itemNat_of_plant h.plant 3 8
    refine ⟨?_, ?_⟩ <;> rw [hmoved, depart_onRamp hramp']
    · rw [gapped, gapped, hitem, h.arbiter]
    · exact rampOver_congr h.screens (congrArg Plant.contacts h.plant) (congrArg Plant.store h.plant)

theorem cutoffPump_aborted {s u : State} (h : RampAborted s u) (c : Bay) : RampAborted s (cutoffPump c u) := by
  have hnot : ¬ OnRamp u c := by
    rintro ⟨-, hramp, -⟩
    rw [h.arbiter] at hramp
    exact nomatch hramp
  obtain ⟨q, harbiter, hscreens⟩ := cutoffPump_offRamp hnot
  exact ⟨by rw [harbiter, h.arbiter], hscreens.trans h.screens⟩

/-- The notice taken pump by pump aborts the ramp where it comes to the pump on it. -/
theorem foldl_cutoffPump_aborts {s : State} {b : Bay} (hramp : OnRamp s b) (l : List Bay) : ∀ u, RampStands s u →
    u.pump b = s.pump b → b ∈ l → RampAborted s (l.foldl (fun t c => cutoffPump c t) u) := by
  induction l with
  | nil => exact fun _ _ _ hmem => nomatch hmem
  | cons c l ih =>
    intro u h hb hmem
    rw [List.foldl_cons]
    by_cases hc : c = b
    · subst hc
      exact List.foldlRecOn l _ (cutoffPump_aborts hramp h hb) fun t ht d _ => cutoffPump_aborted ht d
    · exact ih _ (cutoffPump_stands hramp.2.2 h hc) ((cutoffPump_pump_ne c b u (Ne.symm hc)).trans hb)
        ((List.mem_cons.1 hmem).resolve_left (Ne.symm hc))

theorem forBays_cutoffPump_aborts {s : State} {b : Bay} (hramp : OnRamp s b) : RampAborted s (forBays cutoffPump s) :=
  foldl_cutoffPump_aborts hramp Bay.all s ⟨rfl, rfl, rfl⟩ rfl (by cases b <;> decide)

end

end Sys2Proof.Machine

open Sys2Proof Sys2Proof.Machine Sys2Proof.Spec

/-- Settles O23: the level step by the recursion of its climb and its fall, what is held and the stage by what an evaluation
writes of it, and LF dry by the notice at each pump, after which nothing is left to stop or to queue. -/
theorem stageFollowsTheWetWell : Obligations.StageFollowsTheWetWell := by
  refine ⟨fun s r => ⟨fun level hl hu ha => ?_, fun h => ?_⟩, fun start stop level d hd => ⟨fun hlt hstart => ?_, fun h => ?_⟩,
    fun s n hn => ?_, fun s => ?_⟩
  · rw [deliver_evaluates s (n := .wwReport r) nofun, evaluate_stage, settleStage_wwReport, levelStep_known _ hl hu ha]
    rfl
  · rw [deliver_evaluates s (n := .wwReport r) nofun, evaluate_stage, settleStage_wwReport, levelStep_unknown _ h]
    rfl
  · obtain ⟨hclimbed, hclimb⟩ := stepStage_climbs start stop level hlt hstart
    exact ⟨hclimbed, hclimb.le_four, hclimb.reached, hclimb.next⟩
  · have hfall := stepStage_falls start stop level h
    exact ⟨hfall.le_from, hfall.reached, hfall.here⟩
  · rw [deliver_evaluates s hn]
    exact ⟨evaluate_holds s n, evaluate_overrides s⟩
  · rw [deliver_evaluates s (n := .lf false) nofun, evaluate_lfDry, evaluated_lfDry]
    refine ⟨rfl, rfl, fun b => forBays_cutoffPump_pump _ b, fun b hst hramp hheld => ?_⟩
    obtain ⟨harbiter, hscreens⟩ := forBays_cutoffPump_aborts (s := { s with duty := (evaluated (.lf false) s).duty })
      (b := b) ⟨hst, hramp, hheld⟩
    exact ⟨harbiter, rampEnds_of_screens (hscreens.trans (rampOver_congr rfl rfl rfl))⟩

end

section
/-! PROOFS. The wanted set, walk by walk, and the queue test at one pump (R49, R75, R80 to R82, R85, R90). -/

namespace Sys2Proof.Machine

open Sys2Proof.Spec

set_option Elab.async false

/-! ## The walks (R81) -/

/-- A walk takes the pumps that pass its test, in turn, for as many places as the bound leaves. -/
theorem joinWhile_eq (bound : Nat) (test : Bay → Bool) (order : List Bay) : ∀ members,
    joinWhile bound test order members = members ++ (order.filter test).take (bound - members.length) := by
  induction order with
  | nil => intro members; simp [joinWhile]
  | cons b order ih =>
    intro members
    have hstep : joinWhile bound test (b :: order) members =
        joinWhile bound test order (if test b && members.length < bound then members ++ [b] else members) := rfl
    rw [hstep, ih]
    by_cases htest : test b = true
    · by_cases hroom : members.length < bound
      · obtain ⟨k, hk⟩ : ∃ k, bound - members.length = k + 1 := ⟨bound - members.length - 1, by omega⟩
        have hrest : bound - (members.length + 1) = k := by omega
        simp [htest, hroom, hk, hrest]
      · have hnone : bound - members.length = 0 := by omega
        simp [htest, hroom, hnone]
    · simp [htest]

theorem committed_eq (st : PumpState) : st.committed = (st == .queued || st == .starting || st == .running) := by
  cases st <;> rfl

variable (s : State)

/-- The members of the three walks (R81, R82). -/
theorem walks_eq : s.secondWalk (s.firstWalk s.forcedMembers) = walked s := by
  unfold State.secondWalk State.firstWalk State.forcedMembers walked
  simp only [joinWhile_eq, List.nil_append, List.length_nil, Nat.sub_zero, committed_eq]
  rfl

theorem walked_length : (walked s).length ≤ s.duty.limit - s.duty.handCount := by
  unfold walked
  simp only [List.length_append, List.length_take]
  omega

theorem mem_walked {b : Bay} (h : b ∈ walked s) : b ∈ s.duty.order ∧ (s.pump b).forced ≠ .stop := by
  unfold walked at h
  simp only [List.mem_append] at h
  have walk {test : Bay → Bool} {n : Nat} (htest : ∀ c, test c = true → (s.pump c).forced ≠ .stop)
      (hb : b ∈ (s.duty.order.filter test).take n) : b ∈ s.duty.order ∧ (s.pump b).forced ≠ .stop := by
    obtain ⟨hmem, hpass⟩ := List.mem_filter.1 (List.mem_of_mem_take hb)
    exact ⟨hmem, htest b hpass⟩
  rcases h with (h | h) | h
  · exact walk (fun c hc hstop => by simp [hstop] at hc) h
  · exact walk (fun c hc hstop => by simp [hstop] at hc) h
  · exact walk (fun c hc hstop => by simp [hstop] at hc) h

/-! ## Pumps with CHANGEOVER_DUE (R85) -/

/-- Those of a list that have CHANGEOVER_DUE and no forced mode. -/
def State.dueIn (l : List Bay) : List Bay := l.filter fun b => (s.pump b).changeoverDue && (s.pump b).forced == .none

/-- The places that the target leaves beyond the members counted already. -/
def State.wants (w : Wanted) : Nat := s.duty.target - w.counted.length

/-- The counted members at the end of a list. -/
def State.countedOver (w : Wanted) (l : List Bay) : List Bay := w.counted ++ (s.dueIn l).take (s.wants w)

/-- The pumps of a list that the target has no place for. -/
def State.rest (w : Wanted) (l : List Bay) : List Bay := (s.dueIn l).drop (s.wants w)

/-- The places for pumps that stand in, beyond those standing in already. -/
def State.standIns (w : Wanted) (l : List Bay) : Nat :=
  ((s.countedOver w l).filter fun b => (s.pump b).state != .running).length - w.uncounted.length

/-- R85: a pump with a replacement mark, the target above 0. -/
def State.Replaced (b : Bay) : Prop := s.duty.replaced.get b = true ∧ 0 < s.duty.target

/-- R85: a pump with CHANGEOVER_DUE that is forced STOP. -/
def State.DueStopped (b : Bay) : Prop := (s.pump b).changeoverDue = true ∧ (s.pump b).forced = .stop

/-- R85: a wanted set once the pumps of a list have been settled. -/
structure Settled (w : Wanted) (l : List Bay) (v : Wanted) : Prop where
  counted : v.counted = s.countedOver w l
  uncounted : v.uncounted = w.uncounted ++ (s.rest w l).take (s.standIns w l)
  stops : ∀ b, b ∈ v.stops ↔ b ∈ w.stops ∨ (b ∈ (s.rest w l).drop (s.standIns w l) ∧ s.Replaced b)
  drops : ∀ b, b ∈ v.drops ↔ b ∈ w.drops ∨ (b ∈ (s.rest w l).drop (s.standIns w l) ∧ ¬ s.Replaced b) ∨
    (b ∈ l ∧ s.DueStopped b)

section
variable {s : State} {b : Bay} {w v : Wanted} {l : List Bay}

theorem dueIn_cons (l : List Bay) (hdue : (s.pump b).changeoverDue = true) (hforced : (s.pump b).forced = .none) :
    s.dueIn (b :: l) = b :: s.dueIn l := by
  simp [State.dueIn, hdue, hforced]

theorem dueIn_cons_other (l : List Bay) (h : ¬ ((s.pump b).changeoverDue = true ∧ (s.pump b).forced = .none)) :
    s.dueIn (b :: l) = s.dueIn l := by
  simp [State.dueIn, h]

theorem mem_cons_dueStopped (h : ¬ s.DueStopped b) (c : Bay) :
    (c ∈ b :: l ∧ s.DueStopped c) ↔ (c ∈ l ∧ s.DueStopped c) := by
  constructor
  · rintro ⟨hc, hp⟩
    exact ⟨(List.mem_cons.1 hc).resolve_left fun hcb => h (hcb ▸ hp), hp⟩
  · rintro ⟨hc, hp⟩
    exact ⟨List.mem_cons_of_mem _ hc, hp⟩

/-- A pump of no concern is passed over. -/
theorem Settled.skip (hdue : s.dueIn (b :: l) = s.dueIn l) (hstop : ¬ s.DueStopped b) (h : Settled s w l v) :
    Settled s w (b :: l) v := by
  have hcounted : s.countedOver w (b :: l) = s.countedOver w l := by rw [State.countedOver, hdue, State.countedOver]
  have hrest : s.rest w (b :: l) = s.rest w l := by rw [State.rest, hdue, State.rest]
  have hplaces : s.standIns w (b :: l) = s.standIns w l := by rw [State.standIns, hcounted, State.standIns]
  refine ⟨hcounted ▸ h.counted, ?_, fun c => ?_, fun c => ?_⟩
  · rw [hrest, hplaces, h.uncounted]
  · rw [hrest, hplaces, h.stops]
  · rw [hrest, hplaces, mem_cons_dueStopped hstop, h.drops]

/-- A pump forced STOP is dropped. -/
theorem Settled.dropStopped (hdue : s.dueIn (b :: l) = s.dueIn l) (hstop : s.DueStopped b)
    (h : Settled s { w with drops := w.drops ++ [b] } l v) : Settled s w (b :: l) v := by
  have hcounted : s.countedOver w (b :: l) = s.countedOver w l := by rw [State.countedOver, hdue, State.countedOver]
  have hrest : s.rest w (b :: l) = s.rest w l := by rw [State.rest, hdue, State.rest]
  have hplaces : s.standIns w (b :: l) = s.standIns w l := by rw [State.standIns, hcounted, State.standIns]
  refine ⟨hcounted ▸ h.counted, ?_, fun c => ?_, fun c => ?_⟩
  · rw [hrest, hplaces, h.uncounted]; rfl
  · rw [hrest, hplaces, h.stops]; rfl
  · have hrest' : s.rest { w with drops := w.drops ++ [b] } l = s.rest w l := rfl
    have hplaces' : s.standIns { w with drops := w.drops ++ [b] } l = s.standIns w l := rfl
    rw [hrest, hplaces, h.drops, hrest', hplaces']
    by_cases hc : c = b
    · subst hc
      simp [hstop]
    · simp [hc]

/-- A pump that the target still wants is counted. -/
theorem Settled.count (hdue : s.dueIn (b :: l) = b :: s.dueIn l) (hstop : ¬ s.DueStopped b)
    (hroom : w.counted.length < s.duty.target) (h : Settled s { w with counted := w.counted ++ [b] } l v) :
    Settled s w (b :: l) v := by
  have hwants : s.wants w = s.wants { w with counted := w.counted ++ [b] } + 1 := by
    simp only [State.wants, List.length_append, List.length_singleton]
    omega
  have hcounted : s.countedOver w (b :: l) = s.countedOver { w with counted := w.counted ++ [b] } l := by
    simp [State.countedOver, hdue, hwants]
  have hrest : s.rest w (b :: l) = s.rest { w with counted := w.counted ++ [b] } l := by
    simp [State.rest, hdue, hwants]
  have hplaces : s.standIns w (b :: l) = s.standIns { w with counted := w.counted ++ [b] } l := by
    rw [State.standIns, hcounted, State.standIns]
  refine ⟨hcounted ▸ h.counted, ?_, fun c => ?_, fun c => ?_⟩
  · rw [hrest, hplaces, h.uncounted]
  · rw [hrest, hplaces, h.stops]
  · rw [hrest, hplaces, mem_cons_dueStopped hstop, h.drops]

/-- What a pump finds that the target no longer wants. -/
theorem rest_cons (hdue : s.dueIn (b :: l) = b :: s.dueIn l) (hfull : ¬ w.counted.length < s.duty.target) :
    s.countedOver w (b :: l) = w.counted ∧ s.countedOver w l = w.counted ∧ s.rest w (b :: l) = b :: s.rest w l := by
  have hwants : s.wants w = 0 := by rw [State.wants]; omega
  simp [State.countedOver, State.rest, hdue, hwants]

/-- A pump stands in while the counted members not RUNNING outnumber those that do. -/
theorem Settled.standIn (hdue : s.dueIn (b :: l) = b :: s.dueIn l) (hstop : ¬ s.DueStopped b)
    (hfull : ¬ w.counted.length < s.duty.target)
    (hplace : w.uncounted.length < (w.counted.filter fun c => (s.pump c).state != .running).length)
    (h : Settled s { w with uncounted := w.uncounted ++ [b] } l v) : Settled s w (b :: l) v := by
  obtain ⟨hcounted, hcounted', hrest⟩ := rest_cons hdue hfull
  have hrest' : s.rest { w with uncounted := w.uncounted ++ [b] } l = s.rest w l := rfl
  have hover : s.countedOver { w with uncounted := w.uncounted ++ [b] } l = w.counted := hcounted'
  have hplaces : s.standIns w (b :: l) = s.standIns { w with uncounted := w.uncounted ++ [b] } l + 1 := by
    simp only [State.standIns, hcounted, hover, List.length_append, List.length_singleton]
    omega
  refine ⟨by rw [hcounted, h.counted, hover], ?_, fun c => ?_, fun c => ?_⟩
  · rw [hrest, hplaces, h.uncounted, hrest']; simp
  · rw [hrest, hplaces, h.stops, hrest']; rfl
  · rw [hrest, hplaces, mem_cons_dueStopped hstop, h.drops, hrest']; rfl

theorem mem_concat_of {P : Bay → Prop} {members : List Bay} {c : Bay} (hb : P b) :
    c ∈ members ++ [b] ↔ c ∈ members ∨ (c = b ∧ P c) := by
  rw [List.mem_append, List.mem_singleton, and_iff_left_of_imp]
  rintro rfl
  exact hb

theorem mem_of_not {P : Bay → Prop} {members : List Bay} {c : Bay} (hb : ¬ P b) :
    c ∈ members ↔ c ∈ members ∨ (c = b ∧ P c) := by
  rw [or_iff_left]
  rintro ⟨rfl, hc⟩
  exact hb hc

/-- A pump beyond every place is stopped if it is replaced, and dropped if not. -/
theorem Settled.surplus {stops drops : List Bay} (hdue : s.dueIn (b :: l) = b :: s.dueIn l) (hstop : ¬ s.DueStopped b)
    (hfull : ¬ w.counted.length < s.duty.target)
    (hplace : ¬ w.uncounted.length < (w.counted.filter fun c => (s.pump c).state != .running).length)
    (hstops : ∀ c, c ∈ stops ↔ c ∈ w.stops ∨ (c = b ∧ s.Replaced c))
    (hdrops : ∀ c, c ∈ drops ↔ c ∈ w.drops ∨ (c = b ∧ ¬ s.Replaced c))
    (h : Settled s { w with stops := stops, drops := drops } l v) : Settled s w (b :: l) v := by
  obtain ⟨hcounted, hcounted', hrest⟩ := rest_cons hdue hfull
  have hrest' : s.rest { w with stops := stops, drops := drops } l = s.rest w l := rfl
  have hover : s.countedOver { w with stops := stops, drops := drops } l = w.counted := hcounted'
  have hplaces : s.standIns w (b :: l) = 0 := by rw [State.standIns, hcounted]; omega
  have hplaces' : s.standIns { w with stops := stops, drops := drops } l = 0 := by
    rw [State.standIns, hover]
    exact Nat.sub_eq_zero_of_le (Nat.not_lt.1 hplace)
  refine ⟨by rw [hcounted, h.counted, hover], ?_, fun c => ?_, fun c => ?_⟩
  · rw [hplaces, h.uncounted, hplaces']; rfl
  · rw [hrest, hplaces, h.stops, hrest', hplaces']
    simp only [List.drop_zero, List.mem_cons, hstops]
    tauto
  · rw [hrest, hplaces, mem_cons_dueStopped hstop, h.drops, hrest', hplaces']
    simp only [List.drop_zero, List.mem_cons, hdrops]
    tauto

end

theorem settleDue_settled (l : List Bay) : ∀ w, Settled s w l (l.foldl s.settleDue w) := by
  induction l with
  | nil =>
    intro w
    exact ⟨by simp [State.countedOver, State.dueIn], by simp [State.rest, State.dueIn], by simp [State.rest, State.dueIn],
      by simp [State.rest, State.dueIn]⟩
  | cons b l ih =>
    intro w
    rw [List.foldl_cons]
    by_cases hflag : (s.pump b).changeoverDue = true
    · cases hforced : (s.pump b).forced with
      | run =>
        have hstep : s.settleDue w b = w := by rw [State.settleDue, if_pos hflag, hforced]
        rw [hstep]
        exact (ih w).skip (dueIn_cons_other l (by simp [hforced])) (by simp [State.DueStopped, hforced])
      | stop =>
        have hstep : s.settleDue w b = { w with drops := w.drops ++ [b] } := by rw [State.settleDue, if_pos hflag, hforced]
        rw [hstep]
        exact (ih _).dropStopped (dueIn_cons_other l (by simp [hforced])) ⟨hflag, hforced⟩
      | none =>
        have hdue := dueIn_cons l hflag hforced
        have hstop : ¬ s.DueStopped b := by simp [State.DueStopped, hforced]
        rw [State.settleDue, if_pos hflag, hforced]
        dsimp only
        split
        · exact (ih _).count hdue hstop ‹_›
        · split
          · exact (ih _).standIn hdue hstop ‹_› ‹_›
          · split
            · rename_i hreplaced
              exact .surplus hdue hstop ‹_› ‹_› (fun c => mem_concat_of hreplaced) 
                (fun c => mem_of_not (P := fun c => ¬ s.Replaced c) (not_not.2 hreplaced)) (ih _)
            · rename_i hreplaced
              exact .surplus hdue hstop ‹_› ‹_› (fun c => mem_of_not hreplaced)
                (fun c => mem_concat_of (P := fun c => ¬ s.Replaced c) hreplaced) (ih _)
    · have hstep : s.settleDue w b = w := if_neg hflag
      rw [hstep]
      exact (ih w).skip (dueIn_cons_other l fun h => hflag h.1) fun h => hflag h.1

/-- The wanted set with the cutoff lifted (R81, R85). -/
theorem wantedSet_settled {s : State} (h : s.duty.cutoff = false) :
    Settled s ⟨walked s, [], [], []⟩ s.duty.order s.wantedSet := by
  rw [State.wantedSet, if_neg (by rw [h]; decide)]
  dsimp only
  rw [walks_eq]
  exact settleDue_settled s _ _

theorem mem_dueIn {b : Bay} {l : List Bay} (h : b ∈ s.dueIn l) : b ∈ l ∧ (s.pump b).forced ≠ .stop := by
  obtain ⟨hmem, hdue⟩ := List.mem_filter.1 h
  refine ⟨hmem, fun hstop => ?_⟩
  simp [hstop] at hdue

/-- The members at the end of the walks (R81, R82, R85). -/
theorem wantedSet_members {s : State} (h : s.duty.cutoff = false) :
    s.wantedSet.counted = walked s ++ (s.dueIn s.duty.order).take (s.duty.target - (walked s).length) ∧
      s.wantedSet.uncounted = ((s.dueIn s.duty.order).drop (s.duty.target - (walked s).length)).take
        (s.wantedSet.counted.filter fun b => (s.pump b).state != .running).length := by
  have hsettled := wantedSet_settled h
  refine ⟨hsettled.counted, ?_⟩
  rw [hsettled.uncounted, hsettled.counted]
  rfl

theorem counted_length {s : State} (h : s.duty.cutoff = false) :
    s.wantedSet.counted.length ≤ s.duty.limit - s.duty.handCount := by
  have hwalked := walked_length s
  have htarget : s.duty.target ≤ s.duty.limit - s.duty.handCount := Nat.min_le_right _ _
  rw [(wantedSet_members h).1, List.length_append, List.length_take]
  omega

theorem wanted_onDuty {s : State} (h : s.duty.cutoff = false) {b : Bay}
    (hb : b ∈ s.wantedSet.counted ∨ b ∈ s.wantedSet.uncounted) : b ∈ s.duty.order ∧ (s.pump b).forced ≠ .stop := by
  obtain ⟨hcounted, huncounted⟩ := wantedSet_members h
  rw [huncounted, hcounted, List.mem_append] at hb
  rcases hb with (hb | hb) | hb
  · exact mem_walked s hb
  · exact mem_dueIn s (List.mem_of_mem_take hb)
  · exact mem_dueIn s (List.mem_of_mem_drop (List.mem_of_mem_take hb))

/-! ## The queue test (R49, R90) -/

theorem mayQueue_iff {s : State} {b : Bay} : s.mayQueue b = true ↔ PassesButWindow s b := by
  have hcount : s.committedCount = ([Bay.b1, .b2, .b3, .b4].filter fun c =>
      (s.pump c).state == .queued || (s.pump c).state == .starting || (s.pump c).state == .running).length := by
    simp only [State.committedCount, committed_eq]
    rfl
  rw [State.mayQueue, hcount]
  simp [PassesButWindow, Duty.wanted, and_assoc]

/-- A pump that fails the queue test on its window alone (R49). -/
theorem setStartLimited_sets {s : State} {b : Bay} (h : (s.pump b).startLimited = false) : setStartLimited b true s = { s with
    roster := rosterWith s b { s.pump b with startLimited := true }, inbox := s.inbox ++ [.roster b] } :=
  if_neg (by rw [h]; decide)

/-- A pump that queues (R49, R90). -/
theorem enterState_queued {s : State} {b : Bay} (h : (s.pump b).state = .idle) : enterState b .queued s = { s with
    roster := rosterWith s b (rested .queued (s.pump b)), inbox := s.inbox ++ [.pump b .idle .queued] } := by
  have hmoved := (Moved.refl s b).enterState (st := .queued) (by rw [h]; decide)
  rw [enter_rested (by decide) (by decide), h] at hmoved
  exact hmoved

end Sys2Proof.Machine

open Sys2Proof Sys2Proof.Machine Sys2Proof.Spec

/-- Settles O24: the walks in closed form, the pumps with CHANGEOVER_DUE settled one by one, and the queue test at one pump. -/
theorem wantedSetStaysWithinTheAllowance : Obligations.WantedSetStaysWithinTheAllowance := by
  refine ⟨fun s => ?_, fun s => rfl, fun b s => ⟨fun h => ?_, fun h hfull => ?_, fun h hroom => ?_⟩⟩
  · cases hcutoff : s.duty.cutoff with
    | true =>
      rw [wantedSet_cutoff hcutoff]
      exact ⟨fun _ => ⟨rfl, rfl⟩, Nat.zero_le _, fun b hb => by simp at hb, nofun⟩
    | false =>
      obtain ⟨hcounted, huncounted⟩ := wantedSet_members hcutoff
      have hsettled := wantedSet_settled hcutoff
      have hplaces : s.standIns ⟨walked s, [], [], []⟩ s.duty.order =
          (s.wantedSet.counted.filter fun b => (s.pump b).state != .running).length := by
        rw [State.standIns, hsettled.counted]
        rfl
      refine ⟨nofun, counted_length hcutoff, fun b => wanted_onDuty hcutoff,
        fun _ => ⟨hcounted, huncounted, fun b => ?_, fun b => ?_⟩⟩
      · rw [hsettled.stops, hplaces, or_iff_right List.not_mem_nil]
        rfl
      · rw [hsettled.drops, hplaces, or_iff_right List.not_mem_nil]
        rfl
  · exact if_neg fun hmay => h (mayQueue_iff.1 hmay)
  · rw [queueOne, if_pos (mayQueue_iff.2 h)]
    exact (if_pos hfull).trans (setStartLimited_sets h.2.2.1)
  · rw [queueOne, if_pos (mayQueue_iff.2 h), if_neg (show ¬ s.maxStarts ≤ _ from Nat.not_le.2 hroom)]
    dsimp only
    rw [enterState_queued h.1]

end

section
/-! PROOFS. Pumps brought within a limit, the latest in the duty order first: the sheds of R101 and the withdrawals of R59. -/

namespace Sys2Proof.Machine

open Sys2Proof.Spec

set_option Elab.async false

/-! ## Which pumps go -/

/-- A way to bring the pumps within a limit: the states that count towards it, those of them that may go, and what becomes of
a pump that goes. -/
structure Cull where
  counts : PumpState → Bool
  goes : PumpState → Bool
  becomes : PumpRec → PumpRec
  dest : PumpState

/-- R101: STARTING and RUNNING pumps are shed to RESTING. -/
def shedding (rest : Nat) : Cull where
  counts st := st == .starting || st == .running
  goes st := st == .starting || st == .running
  becomes p := { rested .resting p with minRest := some rest }
  dest := .resting

/-- R59: QUEUED pumps are withdrawn to IDLE. -/
def withdrawing : Cull where
  counts st := st == .queued || st == .starting || st == .running
  goes st := st == .queued
  becomes := rested .idle
  dest := .idle

namespace Cull

/-- What both ways have in common. -/
structure Sound (k : Cull) : Prop where
  counted : ∀ st, k.goes st = true → k.counts st = true ∧ st.committed = true
  free : k.counts k.dest = false
  becomes : ∀ p, (k.becomes p).state = k.dest

theorem shedding_sound (rest : Nat) : (shedding rest).Sound where
  counted st h := ⟨h, by cases st <;> first | rfl | exact nomatch h⟩
  free := rfl
  becomes _ := rfl

theorem withdrawing_sound : withdrawing.Sound where
  counted st h := by
    obtain rfl : st = .queued := beq_iff_eq.1 h
    exact ⟨rfl, rfl⟩
  free := rfl
  becomes _ := rfl

variable (k : Cull) (limit : Nat)

/-- The pumps with one of them gone. -/
def without (p : PerBay PumpRec) (b : Bay) : PerBay PumpRec := p.put b (k.becomes (p.get b))

/-- The bays whose pumps go, in the order in which they go. -/
def gone : List Bay → PerBay PumpRec → List Bay
  | [], _ => []
  | b :: l, p =>
    if limit < tally k.counts p ∧ k.goes (p.get b).state = true then b :: gone l (k.without p b) else gone l p

/-- The pumps that are left. -/
def left (l : List Bay) (p : PerBay PumpRec) : PerBay PumpRec := (k.gone limit l p).foldl k.without p

theorem shed_eq (rest : Nat) : ∀ l p, shed limit rest l p = (shedding rest).left limit l p
  | [], _ => rfl
  | b :: l, p => by
    rw [shed, left, gone]
    dsimp only
    by_cases h : limit < tally (shedding rest).counts p ∧ (shedding rest).goes (p.get b).state = true
    · rw [if_pos h]
      exact (if_pos h).trans (shed_eq rest l _)
    · rw [if_neg h]
      exact (if_neg h).trans (shed_eq rest l p)

theorem withdrawn_eq : ∀ l p, withdrawn limit l p = withdrawing.left limit l p
  | [], _ => rfl
  | b :: l, p => by
    have hgoes : withdrawing.goes (p.get b).state = true ↔ (p.get b).state = .queued := beq_iff_eq
    rw [withdrawn, left, gone]
    by_cases h : limit < tally withdrawing.counts p ∧ withdrawing.goes (p.get b).state = true
    · rw [if_pos h]
      exact (if_pos ⟨h.1, hgoes.1 h.2⟩).trans (withdrawn_eq l _)
    · rw [if_neg h]
      exact (if_neg fun hq => h ⟨hq.1, hgoes.2 hq.2⟩).trans (withdrawn_eq l p)

variable {k} {limit} {l : List Bay} {p : PerBay PumpRec}

theorem without_self (b : Bay) : (k.without p b).get b = k.becomes (p.get b) := PerBay.get_put_self _ _ _

theorem without_ne {b c : Bay} (h : c ≠ b) : (k.without p b).get c = p.get c := PerBay.get_put_ne _ _ h

theorem Sound.goes_dest (h : k.Sound) : k.goes k.dest = false := by
  cases hgoes : k.goes k.dest with
  | false => rfl
  | true => exact absurd (h.counted _ hgoes).1 (by rw [h.free]; decide)

/-- A pump that goes was one that may. -/
theorem gone_goes (h : k.Sound) : ∀ (l : List Bay) (p : PerBay PumpRec), ∀ b ∈ k.gone limit l p, k.goes (p.get b).state = true
  | [], _, _, hb => nomatch hb
  | c :: l, p, b, hb => by
    rw [gone] at hb
    split at hb
    · rename_i hc
      by_cases hbc : b = c
      · rw [hbc]; exact hc.2
      · have hrest := gone_goes h l _ b ((List.mem_cons.1 hb).resolve_left hbc)
        rwa [without_ne hbc] at hrest
    · exact gone_goes h l p b hb

/-- A pump that has gone does not go again. -/
theorem not_mem_gone_without (h : k.Sound) (b : Bay) : b ∉ k.gone limit l (k.without p b) := fun hb => by
  have hgoes := gone_goes h l _ b hb
  rw [without_self, h.becomes, h.goes_dest] at hgoes
  exact nomatch hgoes

theorem gone_nodup (h : k.Sound) : ∀ (l : List Bay) (p : PerBay PumpRec), (k.gone limit l p).Nodup
  | [], _ => List.nodup_nil
  | b :: l, p => by
    rw [gone]
    split
    · exact List.nodup_cons.2 ⟨not_mem_gone_without h b, gone_nodup h l _⟩
    · exact gone_nodup h l p

/-- Within the limit nothing goes. -/
theorem gone_within (h : ¬ limit < tally k.counts p) : ∀ l, k.gone limit l p = []
  | [] => rfl
  | b :: l => by rw [gone, if_neg fun hc => h hc.1, gone_within h l]

/-- The records of a roster from which some pumps have gone. -/
theorem foldl_without_get : ∀ {gone : List Bay} {p : PerBay PumpRec}, gone.Nodup → ∀ c,
    (gone.foldl k.without p).get c = if c ∈ gone then k.becomes (p.get c) else p.get c
  | [], _, _, _ => rfl
  | b :: gone, p, hnodup, c => by
    obtain ⟨hb, hrest⟩ := List.nodup_cons.1 hnodup
    rw [List.foldl_cons, foldl_without_get hrest]
    by_cases hc : c = b
    · subst hc
      rw [if_neg hb, if_pos List.mem_cons_self, without_self]
    · rw [without_ne hc]
      simp [hc]

theorem left_get (h : k.Sound) (l : List Bay) (p : PerBay PumpRec) (c : Bay) :
    (k.left limit l p).get c = if c ∈ k.gone limit l p then k.becomes (p.get c) else p.get c :=
  foldl_without_get (gone_nodup h l p) c

/-- A pump's state has changed if it has gone. -/
theorem state_left (h : k.Sound) (c : Bay) :
    ((k.left limit l p).get c).state = if c ∈ k.gone limit l p then k.dest else (p.get c).state := by
  rw [left_get h]
  split
  · exact h.becomes _
  · rfl

theorem changed_iff (h : k.Sound) (c : Bay) :
    ((p.get c).state != ((k.left limit l p).get c).state) = true ↔ c ∈ k.gone limit l p := by
  rw [state_left h, bne_iff_ne]
  split
  · rename_i hc
    refine ⟨fun _ => hc, fun _ hst => ?_⟩
    have hgoes := gone_goes h l p c hc
    rw [hst, h.goes_dest] at hgoes
    exact nomatch hgoes
  · rename_i hc
    exact ⟨fun hne => absurd rfl hne, fun hmem => absurd hmem hc⟩

/-! ## The hand-over of those that go (R49, R70) -/

/-- The last of a list is the last of its visits. -/
theorem dedup_concat (b : Bay) : ∀ l : List Bay, (l ++ [b]).dedup = l.dedup.filter (· ≠ b) ++ [b]
  | [] => rfl
  | a :: l => by
    have ih := dedup_concat b l
    rw [List.cons_append]
    by_cases hl : a ∈ l
    · rw [List.dedup_cons_of_mem (List.mem_append_left _ hl), List.dedup_cons_of_mem hl, ih]
    · rw [List.dedup_cons_of_notMem hl]
      by_cases hb : a = b
      · rw [List.dedup_cons_of_mem (by simp [hb]), ih]
        simp [hb]
      · rw [List.dedup_cons_of_notMem (by simp [hl, hb]), ih]
        simp [hb]

/-- A walk's first visits. -/
theorem dedup_reverse_concat (l : List Bay) (b : Bay) :
    (l ++ [b]).dedup.reverse = b :: l.dedup.reverse.filter (· ≠ b) := by
  rw [dedup_concat, List.reverse_append, List.filter_reverse]
  rfl

/-- The pumps go in the order of the walk's first visits. -/
theorem gone_eq_filter (h : k.Sound) : ∀ (l : List Bay) (p : PerBay PumpRec),
    l.reverse.dedup.reverse.filter (· ∈ k.gone limit l p) = k.gone limit l p
  | [], _ => rfl
  | b :: l, p => by
    have visited {gone : List Bay} (hb : b ∉ gone) : (l.reverse.dedup.reverse.filter (· ≠ b)).filter (· ∈ gone) =
        l.reverse.dedup.reverse.filter (· ∈ gone) := by
      rw [List.filter_filter]
      refine List.filter_congr fun c _ => ?_
      by_cases hc : c = b
      · simp [hc, hb]
      · simp [hc]
    rw [List.reverse_cons, dedup_reverse_concat, gone]
    split
    · have hb : b ∉ k.gone limit l (k.without p b) := not_mem_gone_without h b
      have hcons : (l.reverse.dedup.reverse.filter (· ≠ b)).filter (· ∈ b :: k.gone limit l (k.without p b)) =
          (l.reverse.dedup.reverse.filter (· ≠ b)).filter (· ∈ k.gone limit l (k.without p b)) :=
        List.filter_congr fun c hc => by simp [of_decide_eq_true (List.mem_filter.1 hc).2]
      rw [List.filter_cons_of_pos (by simp), hcons, visited hb, gone_eq_filter h l _]
    · rename_i hstays
      have hb : b ∉ k.gone limit l p := fun hb => by
        refine hstays ⟨?_, gone_goes h l p b hb⟩
        by_contra hwithin
        rw [gone_within hwithin] at hb
        exact nomatch hb
      rw [List.filter_cons_of_neg (by simpa using hb), visited hb, gone_eq_filter h l p]

/-- What is handed on names the pumps that go, in their order. -/
theorem handed_left (h : k.Sound) (order : List Bay) (p : PerBay PumpRec) :
    handed order p (k.left limit order.reverse p) =
      (k.gone limit order.reverse p).flatMap fun b => [.queueTest, .pump b (p.get b).state k.dest] := by
  have hgone := gone_eq_filter (limit := limit) h order.reverse p
  rw [List.reverse_reverse] at hgone
  have hchanged : order.dedup.reverse.filter (fun b => (p.get b).state != ((k.left limit order.reverse p).get b).state) =
      k.gone limit order.reverse p := by
    rw [← hgone]
    refine List.filter_congr fun b _ => ?_
    rw [Bool.eq_iff_iff, changed_iff h, decide_eq_true_iff]
  rw [handed, hchanged]
  refine List.flatMap_congr fun b hb => ?_
  rw [state_left h, if_pos hb]

end Cull

/-! ## The tally -/

theorem tally_eq (counts : PumpState → Bool) (p : PerBay PumpRec) : tally counts p =
    (counts p.b1.state).toNat + (counts p.b2.state).toNat + (counts p.b3.state).toNat + (counts p.b4.state).toNat := by
  have hcount (b : Bay) (l : List Bay) : ((b :: l).filter fun b => counts (p.get b).state).length =
      (counts (p.get b).state).toNat + (l.filter fun b => counts (p.get b).state).length := by
    rw [List.filter_cons]
    cases counts (p.get b).state <;> simp [Nat.add_comm]
  rw [tally, hcount, hcount, hcount, hcount, List.filter_nil, List.length_nil]
  simp only [PerBay.get]
  omega

theorem tally_put {counts : PumpState → Bool} {p : PerBay PumpRec} {b : Bay} {r : PumpRec}
    (hb : counts (p.get b).state = true) (hr : counts r.state = false) : tally counts (p.put b r) + 1 = tally counts p := by
  rw [tally_eq, tally_eq]
  cases b <;> simp only [PerBay.get] at hb <;> simp only [PerBay.put, hb, hr, Bool.toNat_true, Bool.toNat_false] <;> omega

end Sys2Proof.Machine
end

section
/-! PROOFS. The running limit recomputed: the sheds and the withdrawals at the pumps, the Arbiter and the screens (R59, R93,
R100, R101). -/

namespace Sys2Proof.Machine

open Sys2Proof.Spec

set_option Elab.async false

/-! ## One pump after another, the latest in the duty order first -/

/-- Pumps acted on, the latest in the duty order that a test holds of, while a count exceeds the running limit. -/
def trim (count : State → Nat) (test : PumpRec → Bool) (act : Bay → State → State) : Nat → State → State
  | 0, s => s
  | n + 1, s =>
    if s.supply.limit < count s then
      match s.latestOnDuty test with
      | some b => trim count test act n (act b s)
      | none => s
    else s

theorem shedToLimit_eq (n : Nat) : ∀ s, shedToLimit n s = trim State.outputCount PumpRec.outputOn shedPump n s := by
  induction n with
  | zero => exact fun _ => rfl
  | succ n ih =>
    intro s
    rw [shedToLimit, trim]
    cases s.latestOnDuty PumpRec.outputOn <;> simp only [ih]

theorem withdrawExcess_eq (n : Nat) :
    ∀ s, withdrawExcess n s = trim State.committedCount (fun p => p.state == .queued) goIdle n s := by
  induction n with
  | zero => exact fun _ => rfl
  | succ n ih =>
    intro s
    rw [withdrawExcess, trim]
    cases s.latestOnDuty fun p => p.state == .queued <;> simp only [ih]

/-- In the states that a property holds of, the count and the test read the pumps' states, and an action makes one pump go. -/
structure Trims (k : Cull) (count : State → Nat) (test : PumpRec → Bool) (act : Bay → State → State) (Q : State → Prop) :
    Prop where
  count : ∀ u, Q u → count u = tally k.counts u.roster.pumps
  test : ∀ u b, Q u → test (u.pump b) = k.goes (u.pump b).state
  keep : ∀ u b, Q u → Q (act b u)
  pumps : ∀ u b, Q u → k.goes (u.pump b).state = true → (act b u).roster.pumps = k.without u.roster.pumps b
  duty : ∀ u b, (act b u).duty = u.duty
  supply : ∀ u b, (act b u).supply = u.supply

section
variable {k : Cull} {count : State → Nat} {test : PumpRec → Bool} {act : Bay → State → State} {Q : State → Prop}

theorem Trims.latest (h : Trims k count test act Q) {s : State} (hs : Q s) {before l : List Bay}
    (horder : s.duty.order.reverse = before ++ l) (hbefore : ∀ b ∈ before, k.goes (s.pump b).state = false) :
    s.latestOnDuty test = l.find? fun b => k.goes (s.pump b).state := by
  have htest : (fun b => test (s.pump b)) = fun b => k.goes (s.pump b).state := funext fun b => h.test s b hs
  have hnone : before.find? (fun b => k.goes (s.pump b).state) = none :=
    List.find?_eq_none.2 fun b hb => by rw [hbefore b hb]; decide
  rw [State.latestOnDuty, horder, htest, List.find?_append, hnone, Option.none_or]

/-- The pumps that are acted on are those that go (R59, R101). -/
theorem Trims.trim_eq (h : Trims k count test act Q) (hk : k.Sound) : ∀ (l before : List Bay) (n : Nat) (s : State), Q s →
    s.duty.order.reverse = before ++ l → (∀ b ∈ before, k.goes (s.pump b).state = false) →
    tally k.counts s.roster.pumps ≤ n →
    trim count test act n s = (k.gone s.supply.limit l s.roster.pumps).foldl (fun t b => act b t) s := by
  intro l
  induction l with
  | nil =>
    intro before n s hs horder hbefore _
    cases n with
    | zero => rfl
    | succ n =>
      rw [trim, h.latest hs horder hbefore]
      exact ite_self s
  | cons b l ih =>
    intro before n s hs horder hbefore hn
    have horder' : s.duty.order.reverse = (before ++ [b]) ++ l := by simp [horder]
    by_cases hlimit : s.supply.limit < tally k.counts s.roster.pumps
    · by_cases hgoes : k.goes (s.pump b).state = true
      · obtain ⟨m, rfl⟩ : ∃ m, n = m + 1 := ⟨n - 1, by omega⟩
        have hpumps := h.pumps s b hs hgoes
        have hself : (act b s).pump b = k.becomes (s.pump b) := (congrArg (PerBay.get · b) hpumps).trans (Cull.without_self b)
        have hothers {c : Bay} (hc : c ≠ b) : (act b s).pump c = s.pump c :=
          (congrArg (PerBay.get · c) hpumps).trans (Cull.without_ne hc)
        have htally : tally k.counts (act b s).roster.pumps + 1 = tally k.counts s.roster.pumps := by
          rw [hpumps]
          exact tally_put (hk.counted _ hgoes).1 (by rw [hk.becomes, hk.free])
        have hlatest : s.latestOnDuty test = some b := by
          rw [h.latest hs horder hbefore, List.find?_cons, hgoes]
        have hnext := ih (before ++ [b]) m (act b s) (h.keep s b hs) (by rw [h.duty, horder']) (fun c hc => by
          by_cases hcb : c = b
          · rw [hcb, hself, hk.becomes, hk.goes_dest]
          · rw [hothers hcb]
            exact hbefore c ((List.mem_append.1 hc).resolve_right fun hm => hcb (List.mem_singleton.1 hm))) (by omega)
        rw [trim, if_pos (by rw [h.count s hs]; exact hlimit), hlatest, Cull.gone, if_pos ⟨hlimit, hgoes⟩, List.foldl_cons]
        rw [h.supply, hpumps] at hnext
        exact hnext
      · have hnext := ih (before ++ [b]) n s hs horder' (fun c hc => by
          rcases List.mem_append.1 hc with hc | hc
          · exact hbefore c hc
          · rw [List.mem_singleton.1 hc]
            exact Bool.eq_false_iff.2 hgoes) hn
        rw [hnext, Cull.gone, if_neg fun hc => hgoes hc.2]
    · rw [Cull.gone_within hlimit]
      cases n with
      | zero => rfl
      | succ n => rw [trim, if_neg (by rw [h.count s hs]; exact hlimit)]; rfl

theorem tally_le (counts : PumpState → Bool) (p : PerBay PumpRec) : tally counts p ≤ 4 := List.length_filter_le _ _

theorem Trims.trim_four (h : Trims k count test act Q) (hk : k.Sound) {s : State} (hs : Q s) :
    trim count test act 4 s =
      (k.gone s.supply.limit s.duty.order.reverse s.roster.pumps).foldl (fun t b => act b t) s :=
  h.trim_eq hk _ [] 4 s hs rfl (fun _ hb => nomatch hb) (tally_le _ _)

end

/-! ## A pump shed, a pump withdrawn -/

theorem stateNotices_committed {b : Bay} {was st : PumpState} (h : was.committed = true) :
    stateNotices b was st = [.queueTest, .pump b was st] := by
  rw [stateNotices, if_pos (.inl h)]
  rfl

/-- A shed (R57, R101). -/
theorem shedPump_moved {s : State} {b : Bay} {rest : Nat} (hrest : s.itemNat 3 2 * 1000 = rest)
    (h : (shedding rest).goes (s.pump b).state = true) :
    Moved (depart b s) (shedPump b s) b ((shedding rest).becomes (s.pump b)) s.conditions
      (s.inbox ++ [.queueTest, .pump b (s.pump b).state .resting]) := by
  have hcommitted := ((Cull.shedding_sound rest).counted _ h).2
  have hne : (s.pump b).state ≠ .resting := fun hst => by rw [hst] at hcommitted; exact nomatch hcommitted
  have heq : shedPump b s = goResting b s := by
    unfold shedPump
    split <;> first | rfl | (rename_i hst; rw [hst] at h; exact nomatch h)
  have hmoved := (Moved.refl s b).goResting rfl hne
  rw [stateNotices_committed hcommitted, hrest] at hmoved
  rw [heq]
  exact hmoved

/-- A withdrawal (R50, R59). -/
theorem goIdle_withdraws {s : State} {b : Bay} (h : (s.pump b).state = .queued) : goIdle b s = { s with
    roster := rosterWith s b (rested .idle (s.pump b)), arbiter := { s.arbiter with queue := s.arbiter.queue.erase b }
    inbox := s.inbox ++ [.queueTest, .pump b (s.pump b).state .idle] } := by
  have hmoved := (Moved.refl s b).goIdle rfl (by rw [h]; decide)
  have hnot : ¬ OnRamp s b := fun k => by rw [OnRamp, h] at k; exact nomatch k.1
  rw [stateNotices_committed (by rw [h]; rfl), depart_offRamp hnot, if_pos h] at hmoved
  exact hmoved

theorem shedPump_trims (rest : Nat) : Trims (shedding rest) State.outputCount PumpRec.outputOn shedPump
    (fun u => (∀ b, (u.pump b).Follows) ∧ u.itemNat 3 2 * 1000 = rest) where
  test u b hu := by
    obtain ⟨hselect, hrun⟩ := hu.1 b
    rw [PumpRec.outputOn, hselect, hrun]
    rfl
  count u hu := by
    have hon (b : Bay) : (u.pump b).outputOn = (shedding rest).counts (u.pump b).state := by
      obtain ⟨hselect, hrun⟩ := hu.1 b
      rw [PumpRec.outputOn, hselect, hrun]
      rfl
    simp only [State.outputCount, hon]
    rfl
  keep u b hu := ⟨fun c => (keeps_shedPump u b).pump c (hu.1 c), by rw [itemNat_of_plant (shedPump_plant u b)]; exact hu.2⟩
  pumps u b hu h := by
    have hpumps := congrArg (fun t : State => t.roster.pumps) (shedPump_moved hu.2 h)
    dsimp only [rosterWith] at hpumps
    rwa [depart_roster] at hpumps
  duty u b := (keeps_shedPump u b).duty
  supply u b := congrArg Plant.supply (shedPump_plant u b)

theorem goIdle_trims : Trims withdrawing State.committedCount (fun p => p.state == .queued) goIdle (fun _ => True) where
  test _ _ _ := rfl
  count u _ := by
    simp only [State.committedCount, committed_eq]
    rfl
  keep _ _ _ := trivial
  pumps u b _ h := by
    rw [goIdle_withdraws (beq_iff_eq.1 h)]
    rfl
  duty u b := (keeps_goIdle u b).duty
  supply u b := congrArg Plant.supply (goIdle_plant u b)

/-! ## All that are shed -/

/-- Pumps have been shed, one after another (R93, R101). -/
structure ShedFrom (rest : Nat) (gone : List Bay) (s u : State) : Prop where
  frame : u = { s with
    roster := { s.roster with pumps := gone.foldl (shedding rest).without s.roster.pumps }
    arbiter := u.arbiter
    screens := u.screens
    inbox := s.inbox ++ gone.flatMap fun b => [.queueTest, .pump b (s.pump b).state .resting] }
  offRamp : (∀ b ∈ gone, ¬ OnRamp s b) → u.arbiter = s.arbiter ∧ u.screens = s.screens
  onRamp : ∀ b ∈ gone, OnRamp s b → u.arbiter = gapped s ∧ u.screens = rampOver s

theorem depart_frame (b : Bay) (s : State) :
    depart b s = { s with arbiter := (depart b s).arbiter, screens := (depart b s).screens } := by
  by_cases h : OnRamp s b
  · rw [depart_onRamp h]
  · rw [depart_offRamp h]

/-- One pump has been shed. -/
theorem shedPump_shedFrom {s : State} {b : Bay} {rest : Nat} (hrest : s.itemNat 3 2 * 1000 = rest)
    (h : (shedding rest).goes (s.pump b).state = true) : ShedFrom rest [b] s (shedPump b s) := by
  have hmoved := shedPump_moved hrest h
  have hqueued : (s.pump b).state ≠ .queued := fun hst => by rw [hst] at h; exact nomatch h
  refine ⟨?_, fun hoff => ?_, fun c hc hon => ?_⟩
  · rw [hmoved, depart_frame]
    rfl
  · rw [hmoved, depart_offRamp (hoff b (List.mem_singleton_self b)), if_neg hqueued]
    exact ⟨rfl, rfl⟩
  · obtain rfl := List.mem_singleton.1 hc
    rw [hmoved, depart_onRamp hon]
    exact ⟨rfl, rfl⟩

theorem ShedFrom.pump_ne {s t : State} {b c : Bay} {rest : Nat} (h : ShedFrom rest [b] s t) (hc : c ≠ b) :
    t.pump c = s.pump c := by
  rw [h.frame]
  exact Cull.without_ne hc

theorem ShedFrom.cons {s t u : State} {b : Bay} {gone : List Bay} {rest : Nat} (h : ShedFrom rest [b] s t)
    (k : ShedFrom rest gone t u) (hb : b ∉ gone) : ShedFrom rest (b :: gone) s u := by
  have hpump {c : Bay} (hc : c ∈ gone) : t.pump c = s.pump c := h.pump_ne fun hcb => hb (hcb ▸ hc)
  have honRamp {c : Bay} (hc : c ∈ gone) (harbiter : t.arbiter = s.arbiter) : OnRamp t c ↔ OnRamp s c := by
    rw [OnRamp, hpump hc, harbiter, OnRamp]
  have hitem : t.itemNat 3 8 = s.itemNat 3 8 := by rw [h.frame]; rfl
  have hnotices : (gone.flatMap fun c => [Notice.queueTest, .pump c (t.pump c).state .resting]) =
      gone.flatMap fun c => [.queueTest, .pump c (s.pump c).state .resting] :=
    List.flatMap_congr fun c hc => by rw [hpump hc]
  refine ⟨?_, fun hoff => ?_, fun c hc hon => ?_⟩
  · rw [k.frame, hnotices, h.frame]
    simp only [List.flatMap_cons, List.flatMap_nil, List.append_nil, List.append_assoc, List.foldl_cons, List.foldl_nil]
  · obtain ⟨harbiter, hscreens⟩ := h.offRamp fun c hc => hoff c (by simp [List.mem_singleton.1 hc])
    obtain ⟨harbiter', hscreens'⟩ := k.offRamp fun c hc => by
      rw [honRamp hc harbiter]
      exact hoff c (List.mem_cons_of_mem _ hc)
    exact ⟨harbiter'.trans harbiter, hscreens'.trans hscreens⟩
  · by_cases hcb : c = b
    · subst hcb
      obtain ⟨harbiter, hscreens⟩ := h.onRamp c (List.mem_singleton_self c) hon
      obtain ⟨harbiter', hscreens'⟩ := k.offRamp fun d _ hd => by
        rw [OnRamp, harbiter] at hd
        exact nomatch hd.2.1
      exact ⟨harbiter'.trans harbiter, hscreens'.trans hscreens⟩
    · have hmem := (List.mem_cons.1 hc).resolve_left hcb
      obtain ⟨harbiter, hscreens⟩ := h.offRamp fun d hd hdon =>
        hcb (Option.some.inj (hon.2.2.symm.trans (List.mem_singleton.1 hd ▸ hdon.2.2)))
      obtain ⟨harbiter', hscreens'⟩ := k.onRamp c hmem ((honRamp hmem harbiter).2 hon)
      refine ⟨by rw [harbiter', gapped, gapped, harbiter, hitem], hscreens'.trans (rampOver_congr hscreens ?_ ?_)⟩
      · rw [h.frame]
      · rw [h.frame]

theorem foldl_shedPump {rest : Nat} : ∀ (gone : List Bay) (s : State), gone.Nodup → s.itemNat 3 2 * 1000 = rest →
    (∀ b ∈ gone, (shedding rest).goes (s.pump b).state = true) →
    ShedFrom rest gone s (gone.foldl (fun t b => shedPump b t) s) := by
  intro gone
  induction gone with
  | nil => exact fun s _ _ _ => ⟨by simp, fun _ => ⟨rfl, rfl⟩, fun _ hb => nomatch hb⟩
  | cons b gone ih =>
    intro s hnodup hrest hgoes
    obtain ⟨hb, hnodup⟩ := List.nodup_cons.1 hnodup
    have hfirst := shedPump_shedFrom hrest (hgoes b List.mem_cons_self)
    refine hfirst.cons (ih (shedPump b s) hnodup (by rw [itemNat_of_plant (shedPump_plant s b), hrest]) fun c hc => ?_) hb
    rw [hfirst.pump_ne fun hcb => hb (hcb ▸ hc)]
    exact hgoes c (List.mem_cons_of_mem _ hc)

/-! ## All that are withdrawn -/

/-- Pumps have been withdrawn, one after another (R50, R59, R90). -/
def WithdrawnFrom (gone : List Bay) (s u : State) : Prop := u = { s with
  roster := { s.roster with pumps := gone.foldl withdrawing.without s.roster.pumps }
  arbiter := { s.arbiter with queue := s.arbiter.queue.diff gone }
  inbox := s.inbox ++ gone.flatMap fun b => [.queueTest, .pump b (s.pump b).state .idle] }

theorem foldl_goIdle : ∀ (gone : List Bay) (s : State), gone.Nodup →
    (∀ b ∈ gone, withdrawing.goes (s.pump b).state = true) →
    WithdrawnFrom gone s (gone.foldl (fun t b => goIdle b t) s) := by
  intro gone
  induction gone with
  | nil => exact fun s _ _ => by simp [WithdrawnFrom]
  | cons b gone ih =>
    intro s hnodup hgoes
    obtain ⟨hb, hnodup⟩ := List.nodup_cons.1 hnodup
    have hfirst := goIdle_withdraws (beq_iff_eq.1 (hgoes b List.mem_cons_self))
    have hpump {c : Bay} (hc : c ∈ gone) : (goIdle b s).pump c = s.pump c := by
      rw [hfirst]
      exact Cull.without_ne (k := withdrawing) fun hcb => hb (hcb ▸ hc)
    have hrest := ih (goIdle b s) hnodup fun c hc => by
      rw [hpump hc]
      exact hgoes c (List.mem_cons_of_mem _ hc)
    have hnotices : (gone.flatMap fun c => [Notice.queueTest, .pump c ((goIdle b s).pump c).state .idle]) =
        gone.flatMap fun c => [.queueTest, .pump c (s.pump c).state .idle] :=
      List.flatMap_congr fun c hc => by rw [hpump hc]
    rw [List.foldl_cons]
    rw [WithdrawnFrom, hnotices] at hrest
    rw [WithdrawnFrom, hrest, hfirst]
    simp only [List.flatMap_cons, List.append_assoc, List.foldl_cons, List.diff_cons]
    rfl

/-- The start queue without the pumps withdrawn (R50, R90). -/
theorem unqueued_left {limit : Nat} (l : List Bay) (p : PerBay PumpRec) (queue : List Bay) :
    unqueued p (withdrawing.left limit l p) queue = queue.diff (withdrawing.gone limit l p) := by
  have hsound := Cull.withdrawing_sound
  have hmem (b : Bay) : b ∈ [Bay.b1, .b2, .b3, .b4].filter (fun b => (p.get b).state == .queued &&
      ((withdrawing.left limit l p).get b).state == .idle) ↔ b ∈ withdrawing.gone limit l p := by
    have hall : b ∈ [Bay.b1, .b2, .b3, .b4] := by cases b <;> decide
    rw [List.mem_filter, and_iff_right hall, Cull.state_left hsound, Bool.and_eq_true, beq_iff_eq, beq_iff_eq]
    split
    · rename_i hgone
      exact ⟨fun _ => hgone, fun _ => ⟨beq_iff_eq.1 (Cull.gone_goes hsound l p b hgone), rfl⟩⟩
    · rename_i hgone
      exact ⟨fun ⟨hqueued, hidle⟩ => absurd (hqueued.symm.trans hidle) (by decide), fun h => absurd h hgone⟩
  have hperm := (List.perm_ext_iff_of_nodup (List.Nodup.filter _ (by decide)) (Cull.gone_nodup hsound l p)).2 hmem
  rw [unqueued, ← List.diff_eq_foldl, hperm.diff_left]

theorem unqueued_same (p : PerBay PumpRec) (queue : List Bay) : unqueued p p queue = queue := by
  have hnone : ([Bay.b1, .b2, .b3, .b4].filter fun b => (p.get b).state == .queued && (p.get b).state == .idle) = [] := by
    refine List.filter_eq_nil_iff.2 fun b _ => ?_
    cases (p.get b).state <;> decide
  rw [unqueued, hnone]
  rfl

/-! ## The running limit recomputed (R100, R101) -/

/-- The state with another running limit. -/
def limited (new : Nat) (s : State) : State := { s with supply := { s.supply with limit := new } }

section
variable {s : State} (hfollows : ∀ b, (s.pump b).Follows) (new : Nat)

/-- The pumps that a running limit sheds. -/
def shedAt (new : Nat) (s : State) : List Bay :=
  (shedding (s.itemNat 3 2 * 1000)).gone new s.duty.order.reverse s.roster.pumps

/-- The roster with those shed. -/
def keptAt (new : Nat) (s : State) : PerBay PumpRec := shed new (s.itemNat 3 2 * 1000) s.duty.order.reverse s.roster.pumps

theorem keptAt_eq (new : Nat) (s : State) : keptAt new s =
    (shedding (s.itemNat 3 2 * 1000)).left new s.duty.order.reverse s.roster.pumps := Cull.shed_eq _ _ _ _

include hfollows in
theorem shedToLimit_shedFrom :
    ShedFrom (s.itemNat 3 2 * 1000) (shedAt new s) (limited new s) (shedToLimit 4 (limited new s)) := by
  have hsound := Cull.shedding_sound (s.itemNat 3 2 * 1000)
  rw [shedToLimit_eq, (shedPump_trims (s.itemNat 3 2 * 1000)).trim_four (s := limited new s) hsound ⟨hfollows, rfl⟩]
  exact foldl_shedPump _ (limited new s) (Cull.gone_nodup hsound _ _) rfl (Cull.gone_goes hsound _ _)

/-- The withdrawals at a limit. -/
theorem withdrawExcess_withdrawnFrom (t : State) :
    WithdrawnFrom (withdrawing.gone t.supply.limit t.duty.order.reverse t.roster.pumps) t (withdrawExcess 4 t) := by
  have hsound := Cull.withdrawing_sound
  rw [withdrawExcess_eq, goIdle_trims.trim_four hsound trivial]
  exact foldl_goIdle _ t (Cull.gone_nodup hsound _ _) (Cull.gone_goes hsound _ _)

/-- The roster with those withdrawn, too, at a fall of the limit. -/
def leftAt (new : Nat) (s : State) : PerBay PumpRec :=
  if new < s.supply.limit then withdrawn new s.duty.order.reverse (keptAt new s) else keptAt new s

/-- What follows the sheds: the queue test at a rise, the withdrawals at a fall (R59, R100). -/
def afterSheds (old new : Nat) (t : State) : State := if old < new then t.post .queueTest else withdrawExcess 4 t

theorem recomputeLimit_eq (s : State) : recomputeLimit s =
    if s.limitOf s.supply.state = s.supply.limit then limited (s.limitOf s.supply.state) s
    else afterSheds s.supply.limit (s.limitOf s.supply.state)
      (shedToLimit 4 (limited (s.limitOf s.supply.state) s)) := rfl

theorem afterSheds_eq {t : State} (hne : new ≠ s.supply.limit) (hlimit : t.supply.limit = new)
    (horder : t.duty.order = s.duty.order) (hpumps : t.roster.pumps = keptAt new s) :
    afterSheds s.supply.limit new t = { t with
      roster := { t.roster with pumps := leftAt new s }
      arbiter := { t.arbiter with queue := unqueued (keptAt new s) (leftAt new s) t.arbiter.queue }
      inbox := t.inbox ++
        if new < s.supply.limit then handed s.duty.order (keptAt new s) (leftAt new s) else [.queueTest] } := by
  unfold afterSheds leftAt
  by_cases hrise : s.supply.limit < new
  · have hfall : ¬ new < s.supply.limit := by omega
    rw [if_pos hrise, if_neg hfall, if_neg hfall, unqueued_same, ← hpumps]
    rfl
  · have hfall : new < s.supply.limit := by omega
    have hpump (b : Bay) : t.pump b = (keptAt new s).get b := congrArg (PerBay.get · b) hpumps
    have h := withdrawExcess_withdrawnFrom t
    rw [WithdrawnFrom, hlimit, horder, hpumps] at h
    simp only [hpump] at h
    rw [if_neg hrise, if_pos hfall, if_pos hfall, Cull.withdrawn_eq, unqueued_left,
      Cull.handed_left Cull.withdrawing_sound, h]
    rfl

/-- A pump that was STARTING is RESTING if it was shed. -/
theorem left_resting_iff {b : Bay} (hst : (s.pump b).state = .starting) :
    ((leftAt new s).get b).state = .resting ↔ b ∈ shedAt new s := by
  have hkept : ((keptAt new s).get b).state = if b ∈ shedAt new s then .resting else .starting := by
    rw [keptAt_eq, Cull.state_left (Cull.shedding_sound _), ← hst]
    rfl
  have hleft : ((leftAt new s).get b).state = ((keptAt new s).get b).state := by
    have hqueued : b ∉ withdrawing.gone new s.duty.order.reverse (keptAt new s) := fun hmem => by
      have hgoes := Cull.gone_goes Cull.withdrawing_sound _ _ b hmem
      rw [hkept] at hgoes
      split at hgoes <;> exact nomatch hgoes
    unfold leftAt
    split
    · rw [Cull.withdrawn_eq, Cull.state_left Cull.withdrawing_sound, if_neg hqueued]
    · rfl
  rw [hleft, hkept]
  split
  · exact ⟨fun _ => ‹_›, fun _ => rfl⟩
  · exact ⟨nofun, fun h => absurd h ‹_›⟩

/-- The pump on the ramp is shed where it is among those that go. -/
theorem rampShed_iff {u : State} (hu : u.roster.pumps = leftAt new s) :
    RampShed s u ↔ ∃ b ∈ shedAt new s, OnRamp s b := by
  have hpump (b : Bay) : u.pump b = (leftAt new s).get b := congrArg (PerBay.get · b) hu
  constructor
  · rintro ⟨hramp, b, hheld, hst, hrested⟩
    rw [hpump, left_resting_iff new hst] at hrested
    exact ⟨b, hrested, hst, hramp, hheld⟩
  · rintro ⟨b, hb, hst, hramp, hheld⟩
    exact ⟨hramp, b, hheld, hst, by rw [hpump, left_resting_iff new hst]; exact hb⟩

include hfollows in
/-- R59, R93, R100, R101: the running limit recomputed. -/
theorem recomputeLimit_sheds : Sheds (s.limitOf s.supply.state) s (recomputeLimit s) := by
  rw [recomputeLimit_eq]
  generalize s.limitOf s.supply.state = new
  refine ⟨fun heq => ?_, fun hne => ?_⟩
  · rw [if_pos heq, heq]
    rfl
  · have hshed := shedToLimit_shedFrom hfollows new
    rw [if_neg hne]
    generalize shedToLimit 4 (limited new s) = t at hshed
    have hhanded : handed s.duty.order s.roster.pumps (keptAt new s) =
        (shedAt new s).flatMap fun b => [.queueTest, .pump b (s.pump b).state .resting] := by
      rw [keptAt_eq]
      exact Cull.handed_left (Cull.shedding_sound _) _ _
    have hinbox : t.inbox = s.inbox ++ handed s.duty.order s.roster.pumps (keptAt new s) := by
      rw [hshed.frame, hhanded]
      rfl
    have hpumps : t.roster.pumps = keptAt new s := by
      rw [hshed.frame, keptAt_eq]
      rfl
    rw [afterSheds_eq new hne (by rw [hshed.frame]; rfl) (by rw [hshed.frame]; rfl) hpumps, hinbox]
    refine ⟨?_, fun hramp => ?_, fun hramp => ?_⟩
    · rw [hshed.frame]
      rfl
    · obtain ⟨b, hb, hon⟩ := (rampShed_iff new rfl).1 hramp
      obtain ⟨harbiter, hscreens⟩ := hshed.onRamp b hb hon
      refine ⟨?_, rampEnds_of_screens (hscreens.trans (rampOver_congr rfl rfl rfl))⟩
      dsimp only
      rw [harbiter]
      rfl
    · obtain ⟨harbiter, hscreens⟩ := hshed.offRamp fun b hb hon => hramp ((rampShed_iff new rfl).2 ⟨b, hb, hon⟩)
      refine ⟨?_, hscreens⟩
      dsimp only
      rw [harbiter]
      rfl

end

end Sys2Proof.Machine
end

section
/-! PROOFS. The entry to NONE at the pumps, the Arbiter and the screens (R59, R102, R117). -/

namespace Sys2Proof.Machine

open Sys2Proof.Spec

set_option Elab.async false

/-! ## The pumps (R59) -/

/-- What the Roster hands on as a bay loses its supply. -/
def lostNotices (b : Bay) (was : PumpState) : List Notice :=
  if was = .queued then [.queueTest, .pump b was .idle]
  else if was = .starting ∨ was = .running then [.queueTest, .pump b was .resting]
  else if was = .stopping then [.pump b was .resting] else []

/-- A pump that runs, starts or stops rests (R59). -/
theorem losePump_rests {b : Bay} {s : State}
    (hst : (s.pump b).state = .starting ∨ (s.pump b).state = .running ∨ (s.pump b).state = .stopping) :
    Moved s (losePump b s) b (lost (s.itemNat 3 2 * 1000) (s.pump b)) s.conditions
      (s.inbox ++ lostNotices b (s.pump b).state) := by
  have hne : (s.pump b).state ≠ .resting := by rcases hst with h | h | h <;> rw [h] <;> decide
  have hlost : lost (s.itemNat 3 2 * 1000) (s.pump b) =
      { rested .resting (s.pump b) with minRest := some (s.itemNat 3 2 * 1000) } := by
    rcases hst with h | h | h <;> simp only [lost, h]
  have hnotices : lostNotices b (s.pump b).state = stateNotices b (s.pump b).state .resting := by
    rcases hst with h | h | h <;> rw [h] <;> rfl
  have heq : losePump b s = (enterState b .resting s).modPump b fun p =>
      { p with minRest := some (seconds ((enterState b .resting s).itemNat 3 2)) } := by
    rcases hst with h | h | h <;> simp only [losePump, h, itemNat_of_plant (enterState_plant s b _)]
  have hitem : (enterState b .resting s).itemNat 3 2 = s.itemNat 3 2 := itemNat_of_plant (enterState_plant s b _) 3 2
  have hmoved := (Moved.refl s b).enterState hne
  rw [enter_rested (by decide) (by decide)] at hmoved
  rw [heq, hitem, hlost, hnotices]
  exact hmoved.modPump _

theorem losePump_moved (b : Bay) (s : State) : Moved s (losePump b s) b (lost (s.itemNat 3 2 * 1000) (s.pump b)) s.conditions
    (s.inbox ++ lostNotices b (s.pump b).state) := by
  cases hst : (s.pump b).state with
  | starting => rw [← hst]; exact losePump_rests (.inl hst)
  | running => rw [← hst]; exact losePump_rests (.inr (.inl hst))
  | stopping => rw [← hst]; exact losePump_rests (.inr (.inr hst))
  | queued =>
    have hmoved := (Moved.refl s b).enterState (st := .idle) (by rw [hst]; decide)
    rw [hst, enter_rested (by decide) (by decide)] at hmoved
    simp only [losePump, lost, hst]
    exact hmoved
  | _ =>
    simp only [losePump, lost, hst]
    simpa only [lostNotices, reduceCtorEq, or_false, if_false, List.append_nil] using Moved.refl s b

theorem forBays_losePump (s : State) : forBays losePump s = { s with
    roster := { s.roster with pumps := s.roster.pumps.map (lost (s.itemNat 3 2 * 1000)) }
    inbox := s.inbox ++ [Bay.b1, .b2, .b3, .b4].flatMap fun b => lostNotices b (s.pump b).state } := by
  have one (b : Bay) (t : State) : losePump b t = { t with
      roster := rosterWith t b (lost (t.itemNat 3 2 * 1000) (t.pump b)), inbox := t.inbox ++ lostNotices b (t.pump b).state } :=
    losePump_moved b t
  have hall : forBays losePump s = losePump .b4 (losePump .b3 (losePump .b2 (losePump .b1 s))) := rfl
  rw [hall, one .b1, one .b2, one .b3, one .b4]
  simp only [List.append_assoc, List.flatMap_cons, List.flatMap_nil, List.append_nil]
  rfl

/-! ## The Arbiter (R102) -/

/-- The Arbiter with no supply. -/
def unsupplied (fault : Bool) (a : Arbiter) : Arbiter := { a with
  state := if fault = true then .faulted else .idle, held := none, queue := [], rampTimer := none, gapTimer := none
  runOutput := false, health := if fault = true then .faultInput else .healthy, gateSupply := .none, gateRestore := false }

/-- STARTER_FAULT as the Arbiter stands with no supply. -/
def starterTold (s : State) : Conditions :=
  if s.contacts.starterFault.filtered = true then (s.report .starterFault true (some (.health .faultInput))).conditions
  else if s.arbiter.state = .faulted then (s.report .starterFault false).conditions else s.conditions

/-- The screens hear of a departure from RAMPING, by an Arbiter that has let go. -/
theorem ramping_told (ramped : Bool) {s t : State} (hscreens : t.screens = s.screens) (hcontacts : t.contacts = s.contacts)
    (hstore : t.store = s.store) : (if ramped = true then screensRamping false t else t) =
      { t with screens := if ramped = true then rampOver s else s.screens } := by
  cases ramped with
  | true => rw [if_pos rfl, if_pos rfl, screensRamping_eq, rampOver_congr hscreens hcontacts hstore]
  | false => rw [if_neg (by decide), if_neg (by decide), ← hscreens]

/-- The Arbiter has let go of its starter. -/
def arbiterLetsGo (s : State) : State :=
  { s with arbiter := unsupplied s.contacts.starterFault.filtered s.arbiter }

/-- STARTER_FAULT reported as it stands now, and the queue test where the Arbiter has left FAULTED (R96, R97). -/
def starterReports (faulted fault : Bool) (s : State) : State :=
  let t := if faulted || fault then reportStarter s else s
  if faulted && !fault then t.post .queueTest else t

theorem arbiterLosesSupply_eq (s : State) : arbiterLosesSupply s = { s with
    arbiter := unsupplied s.contacts.starterFault.filtered s.arbiter
    screens := if s.arbiter.state = .ramping then rampOver s else s.screens
    conditions := starterTold s
    inbox := s.inbox ++
      if s.arbiter.state = .faulted ∧ s.contacts.starterFault.filtered = false then [.queueTest] else [] } := by
  have heq : arbiterLosesSupply s = starterReports (s.arbiter.state == .faulted) s.contacts.starterFault.filtered
      (if (s.arbiter.state == .ramping) = true then screensRamping false (arbiterLetsGo s) else arbiterLetsGo s) := rfl
  rw [heq, ramping_told _ (s := s) (t := arbiterLetsGo s) rfl rfl rfl]
  unfold starterReports reportStarter starterTold arbiterLetsGo unsupplied
  cases s.contacts.starterFault.filtered <;> cases s.arbiter.state <;> simp [State.report, State.post]

/-! ## The screens (R117) -/

theorem stallScreen_eq (x : Screen) (s : State) : stallScreen x s = s.setScreen x (stalled (s.screen x)) := by
  unfold stallScreen stalled
  by_cases h : (s.screen x).state.moving = true
  · have hmoving : (s.screen x).state = .rising ∨ (s.screen x).state = .lowering ∨ (s.screen x).state = .clearing ∨
        (s.screen x).state = .homing := by
      cases hst : (s.screen x).state <;> rw [hst] at h <;> simp [ScreenState.moving] at h ⊢
    rw [if_pos h, if_pos hmoving]
    rfl
  · rw [if_neg h, if_neg fun hmoving => h (by rcases hmoving with hst | hst | hst | hst <;> rw [hst] <;> rfl), setScreen_self]

/-- The screens with no supply. -/
def unsuppliedScreens (k : Screens) : Screens := { k with supply := .none, recs := ⟨stalled k.recs.a, stalled k.recs.b⟩ }

theorem screensLoseSupply_eq (s : State) : screensLoseSupply s = { s with screens := unsuppliedScreens s.screens } := by
  rw [screensLoseSupply, forScreens_eq (g := fun _ _ r => stalled r) _ (fun x t => stallScreen_eq x t) fun _ _ _ => rfl]
  rfl

/-! ## The entry to NONE (R102, R104) -/

/-- The Supply Monitor with no supply. -/
def unpowered (s : State) : State :=
  { s with supply := { s.supply with state := .none, limit := 0, restoreTimer := none } }

/-- The entry to NONE at the pumps, the Arbiter and the screens. -/
def noneEntered (s : State) : State := { unpowered s with
  roster := { s.roster with pumps := s.roster.pumps.map (lost (s.itemNat 3 2 * 1000)) }
  arbiter := unsupplied s.contacts.starterFault.filtered s.arbiter
  screens := unsuppliedScreens (if s.arbiter.state = .ramping then rampOver s else s.screens)
  conditions := starterTold s
  inbox := s.inbox ++ ([Bay.b1, .b2, .b3, .b4].flatMap fun b => lostNotices b (s.pump b).state) ++
    if s.arbiter.state = .faulted ∧ s.contacts.starterFault.filtered = false then [.queueTest] else [] }

theorem enterNone_eq (s : State) :
    enterNone { s with supply := { s.supply with state := .none } } = noneEntered s := by
  have hover : rampOver (forBays losePump (unpowered s)) = rampOver s := by
    rw [forBays_losePump]
    exact rampOver_congr rfl rfl rfl
  have heq : enterNone { s with supply := { s.supply with state := .none } } =
      screensLoseSupply (arbiterLosesSupply (forBays losePump (unpowered s))) := rfl
  rw [heq, screensLoseSupply_eq, arbiterLosesSupply_eq, hover, forBays_losePump]
  rfl

/-- The gate handed over with no supply finds nothing to judge and nothing to grant (R91, R95). -/
theorem arbiterGate_none (s : State) : arbiterGate .none false (noneEntered s) = noneEntered s := by
  have hhealth : healthOf (noneEntered s) = (noneEntered s).arbiter.health := by
    unfold healthOf
    rw [if_neg (c := _ ∧ _) fun h => h.2.1 rfl]
    rfl
  have hjudged : judgeStarter (noneEntered s) = noneEntered s := (judgeStarter_effect _).1 hhealth
  have heq : arbiterGate .none false (noneEntered s) = grantTest (judgeStarter (noneEntered s)) := rfl
  rw [heq, hjudged, grantTest_still (.inr (.inl rfl))]

theorem changeSupply_none (s : State) :
    changeSupply .none s = ((noneEntered s).post (.limit 0)).report .supplyNone true := by
  have hrestore (old : SupplyState) (d : Nat) (t : Timer) : restoreAfter old .none d t = none := by cases old <;> rfl
  unfold changeSupply
  dsimp only
  rw [if_pos rfl, enterNone_eq, hrestore]
  exact congrArg (fun t : State => (t.post (.limit t.supply.limit)).report .supplyNone true) (arbiterGate_none s)

theorem starterTold_self (s : State) : (starterTold s).recs.get Source.starterFault.index =
    if s.contacts.starterFault.filtered = true then told s .starterFault true (some (.health .faultInput))
    else if s.arbiter.state = .faulted then told s .starterFault false none else s.cond .starterFault := by
  unfold starterTold
  split
  · exact cond_report_self s _ _ _
  · split
    · exact cond_report_self s _ _ _
    · rfl

theorem starterTold_ne (s : State) {i : Source} (hi : i ≠ .starterFault) :
    (starterTold s).recs.get i.index = s.cond i := by
  unfold starterTold
  split
  · exact cond_report_ne s _ _ hi
  · split
    · exact cond_report_ne s _ _ hi
    · rfl

theorem noneEntered_screen (s : State) (x : Screen) : (noneEntered s).screen x =
    stalled (if s.arbiter.state = .ramping then
      retried { s with screens := { s.screens with ramping := false } } x (s.screen x) else s.screen x) := by
  have hscreen : (noneEntered s).screen x =
      stalled ((if s.arbiter.state = .ramping then rampOver s else s.screens).recs.get x) := by cases x <;> rfl
  rw [hscreen]
  split
  · cases x <;> rfl
  · rfl

/-- R59, R102, R104, R117. -/
theorem changeSupply_entersNone (s : State) : EntersNone s (changeSupply .none s) := by
  rw [changeSupply_none]
  have hcond (i : Source) (hi : i ≠ .starterFault) : (noneEntered s).cond i = s.cond i := starterTold_ne s hi
  refine ⟨?_, noneEntered_screen s, ?_, ?_, fun i hi hj => ?_, rfl⟩
  · have hscreens : (noneEntered s).screens = { s.screens with
        recs := (noneEntered s).screens.recs, supply := .none
        ramping := if s.arbiter.state = .ramping then false else s.screens.ramping } := by
      unfold noneEntered unsuppliedScreens
      split <;> rfl
    exact congrArg (fun k : Screens =>
      ({ ((noneEntered s).post (.limit 0)).report .supplyNone true with screens := k } : State)) hscreens
  · rw [cond_report_self]
    exact told_congr (hcond _ (by decide)) rfl _ _
  · rw [cond_report_ne _ _ _ (by decide)]
    exact starterTold_self s
  · rw [cond_report_ne _ _ _ hi]
    exact hcond i hj

end Sys2Proof.Machine
end

section
/-! PROOFS. A change to MAINS or GENERATOR, and the supply state decided anew (R98 to R104, R111, R117). -/

namespace Sys2Proof.Machine

open Sys2Proof.Spec

set_option Elab.async false

/-! ## The screens (R111, R117) -/

/-- R117: a STALLED screen in use is brought home as the supply returns. -/
def broughtHome (s : State) (x : Screen) (r : ScreenRec) : ScreenRec :=
  if r.inUse = true ∧ r.state = .stalled then homed s x r else r

theorem SameRake.broughtHome {s t : State} (h : SameRake s t) (x : Screen) (r : ScreenRec) :
    broughtHome t x r = broughtHome s x r := by
  unfold Machine.broughtHome
  rw [h.homed]

theorem homeStalled_eq (x : Screen) (s : State) : homeStalled x s = s.setScreen x (broughtHome s x (s.screen x)) := by
  unfold homeStalled broughtHome
  split
  · exact enterHoming_eq s x
  · rw [setScreen_self]

/-- The screens told of a supply state. -/
def supplyTold (new : SupplyState) (s : State) : State := { s with screens := { s.screens with supply := new } }

/-- R111, R117: a screen's record as the supply state is handed over. -/
def gained (new : SupplyState) (s : State) (x : Screen) : ScreenRec :=
  let r := if s.screens.supply = .none ∧ (s.screen x).inUse = true ∧ (s.screen x).state = .stalled then
    homed (supplyTold new s) x (s.screen x) else s.screen x
  if new = .mains ∨ (s.screens.supply = .none ∧ s.screens.ramping = false) then retried (supplyTold new s) x r else r

/-- A change made for both screens, where it is made at all. -/
theorem forScreens_if {p : Prop} [Decidable p] (s : State) {f : Screen → State → State}
    {g : State → Screen → ScreenRec → ScreenRec} (hf : ∀ x t, f x t = t.setScreen x (g t x (t.screen x)))
    (hg : ∀ {t u : State}, SameRake t u → ∀ x r, g u x r = g t x r) :
    (if p then forScreens f s else s) = { s with screens := { s.screens with
      recs := ⟨if p then g s .a (s.screen .a) else s.screen .a, if p then g s .b (s.screen .b) else s.screen .b⟩ } } := by
  split
  · exact forScreens_eq s hf hg
  · rfl

/-- The screens told of a supply state, those STALLED brought home. -/
def homedOver (new : SupplyState) (s : State) : State := { supplyTold new s with
  screens := { s.screens with
    supply := new
    recs := ⟨if s.screens.supply = .none then broughtHome (supplyTold new s) .a (s.screen .a) else s.screen .a,
      if s.screens.supply = .none then broughtHome (supplyTold new s) .b (s.screen .b) else s.screen .b⟩ } }

theorem homedOver_sameRake (new : SupplyState) (s : State) : SameRake (supplyTold new s) (homedOver new s) :=
  ⟨rfl, rfl, rfl, rfl, rfl⟩

theorem homedOver_screen (new : SupplyState) (s : State) (x : Screen) : (homedOver new s).screen x =
    if s.screens.supply = .none ∧ (s.screen x).inUse = true ∧ (s.screen x).state = .stalled then
      homed (supplyTold new s) x (s.screen x) else s.screen x := by
  have hscreen : (homedOver new s).screen x =
      if s.screens.supply = .none then broughtHome (supplyTold new s) x (s.screen x) else s.screen x := by cases x <;> rfl
  rw [hscreen, broughtHome, ← ite_and]

theorem screensGainSupply_eq {new : SupplyState} (hnew : new ≠ .none) (s : State) : screensGainSupply new s =
    { s with screens := { s.screens with supply := new, recs := ⟨gained new s .a, gained new s .b⟩ } } := by
  have hlifts : (new = .mains ∨ (s.screens.supply = .none ∧ new = .generator ∧ s.screens.ramping = false)) ↔
      (new = .mains ∨ (s.screens.supply = .none ∧ s.screens.ramping = false)) := by
    cases new <;> simp at hnew ⊢
  have heq : screensGainSupply new s =
      (let t := if s.screens.supply = .none then forScreens homeStalled (supplyTold new s) else supplyTold new s
       if new = .mains ∨ (s.screens.supply = .none ∧ new = .generator ∧ t.screens.ramping = false) then
         forScreens retest t else t) := rfl
  rw [heq, forScreens_if _ (fun x t => homeStalled_eq x t) SameRake.broughtHome]
  show (if _ then forScreens retest (homedOver new s) else homedOver new s) = _
  rw [forScreens_if _ (fun x t => retest_eq t x) SameRake.retried]
  have hgained (x : Screen) : (if new = .mains ∨ (s.screens.supply = .none ∧ new = .generator ∧ s.screens.ramping = false) then
      retried (homedOver new s) x ((homedOver new s).screen x) else (homedOver new s).screen x) = gained new s x := by
    rw [if_congr hlifts rfl rfl, homedOver_screen, (homedOver_sameRake new s).retried]
    rfl
  exact congrArg₂ (fun a b : ScreenRec =>
    ({ s with screens := { s.screens with supply := new, recs := ⟨a, b⟩ } } : State)) (hgained .a) (hgained .b)

/-! ## The Supply Monitor (R98 to R103) -/

theorem recomputeLimit_plant (s : State) : (recomputeLimit s).plant =
    { s.plant with supply := { s.supply with limit := s.limitOf s.supply.state } } := by
  rw [recomputeLimit_eq, afterSheds]
  split
  · rfl
  · split
    · rw [post_plant, shedToLimit_plant]
      rfl
    · rw [withdrawExcess_plant, shedToLimit_plant]
      rfl

/-- The state with its supply state decided. -/
def decidedAs (new : SupplyState) (s : State) : State := { s with supply := { s.supply with state := new } }

/-- The gate handed to the Arbiter, before it judges its health. -/
def gated (new : SupplyState) (timer : Timer) (s : State) : State := { s with
  supply := { s.supply with restoreTimer := timer }
  arbiter := { s.arbiter with gateSupply := new, gateRestore := timer.isSome } }

/-- The restore timer at a change of supply state (R103, log 35). -/
def restoreAt (new : SupplyState) (s : State) : Timer :=
  restoreAfter s.supply.state new (s.itemNat 3 9) s.supply.restoreTimer

/-- The state once the Arbiter has judged its health and made the grant test (log 10). -/
def granting (new : SupplyState) (s : State) : State :=
  grantTest (judgeStarter (gated new (restoreAt new s) (recomputeLimit (decidedAs new s))))

theorem granting_gated (new : SupplyState) (s : State) : (granting new s).plant =
    (gated new (restoreAt new s) (recomputeLimit (decidedAs new s))).plant := by
  rw [granting, grantTest_plant, judgeStarter_plant]

theorem granting_supply (new : SupplyState) (s : State) : (granting new s).supply =
    { s.supply with state := new, limit := s.limitOf new, restoreTimer := restoreAt new s } := by
  have hlimit : (recomputeLimit (decidedAs new s)).supply = { s.supply with state := new, limit := s.limitOf new } :=
    congrArg Plant.supply (recomputeLimit_plant (decidedAs new s))
  have hsupply : (granting new s).supply =
      { (recomputeLimit (decidedAs new s)).supply with restoreTimer := restoreAt new s } :=
    congrArg Plant.supply (granting_gated new s)
  rw [hsupply, hlimit]

theorem granting_plant (new : SupplyState) (s : State) :
    (granting new s).plant = { s.plant with supply := (granting new s).supply } := by
  have hgated : (granting new s).plant =
      { (recomputeLimit (decidedAs new s)).plant with supply := (granting new s).supply } := by
    rw [show (granting new s).supply = _ from congrArg Plant.supply (granting_gated new s), granting_gated]
    rfl
  rw [hgated, recomputeLimit_plant]
  rfl

/-- The last hand-overs of a change of supply state (R99): the screens, the limit, SUPPLY_NONE. -/
def supplyHandedOver (new : SupplyState) (s : State) : State :=
  ((screensGainSupply new s).post (.limit (screensGainSupply new s).supply.limit)).report .supplyNone (new == .none)

theorem changeSupply_eq {new : SupplyState} (hnew : new ≠ .none) (s : State) : changeSupply new s =
    ((screensGainSupply new (granting new s)).post (.limit (s.limitOf new))).report .supplyNone false := by
  have hplant := recomputeLimit_plant (decidedAs new s)
  have hsupply : (recomputeLimit (decidedAs new s)).supply = { s.supply with state := new, limit := s.limitOf new } :=
    congrArg Plant.supply hplant
  have hitem : (recomputeLimit (decidedAs new s)).itemNat 3 9 = s.itemNat 3 9 :=
    congrArg (fun q : Plant => (q.store.working.get 3 9).toNat) hplant
  have hrestore : restoreAfter s.supply.state new ((recomputeLimit (decidedAs new s)).itemNat 3 9)
      (recomputeLimit (decidedAs new s)).supply.restoreTimer = restoreAt new s := by
    rw [hitem, hsupply]
    rfl
  have hlimit : (screensGainSupply new (granting new s)).supply.limit = s.limitOf new := by
    have hsame := congrArg Plant.supply (screensGainSupply_plant (granting new s) new)
    exact (congrArg Supply.limit hsame).trans (congrArg Supply.limit (granting_supply new s))
  have hnone : (new == .none) = false := by cases new <;> first | rfl | exact absurd rfl hnew
  have heq : changeSupply new s = (supplyHandedOver new (grantTest (judgeStarter (gated new
      (restoreAfter s.supply.state new ((recomputeLimit (decidedAs new s)).itemNat 3 9)
        (recomputeLimit (decidedAs new s)).supply.restoreTimer) (recomputeLimit (decidedAs new s)))))) := by
    unfold changeSupply
    dsimp only
    rw [if_neg hnew, if_neg hnew]
    rfl
  rw [heq, hrestore, supplyHandedOver, hnone]
  show ((screensGainSupply new (granting new s)).post (.limit (screensGainSupply new (granting new s)).supply.limit)).report
    _ _ = _
  rw [hlimit]

theorem changeSupply_plant (new : SupplyState) (s : State) : (changeSupply new s).plant = { s.plant with
    supply := { s.supply with state := new, limit := s.limitOf new, restoreTimer := restoreAt new s } } := by
  by_cases hnew : new = .none
  · subst hnew
    have hrestore : restoreAt .none s = none := by
      unfold restoreAt
      cases s.supply.state <;> rfl
    rw [changeSupply_none, hrestore]
    rfl
  · rw [changeSupply_eq hnew, report_plant, post_plant, screensGainSupply_plant, granting_plant, granting_supply]

theorem limitOf_eq {new : SupplyState} (hnew : new ≠ .none) (s : State) :
    s.limitOf new = if new = .mains then s.itemNat 3 10 else s.itemNat 3 11 := by
  cases new <;> first | rfl | exact absurd rfl hnew

/-- R91, R95, R99 to R101, R104, R111, R117. -/
theorem changeSupply_entersSupply {new : SupplyState} (hnew : new ≠ .none) {s : State} (hfollows : ∀ b, (s.pump b).Follows) :
    EntersSupply new (restoreAt new s) s (changeSupply new s) := by
  have hsheds := recomputeLimit_sheds (s := decidedAs new s) hfollows
  have hlimit : (decidedAs new s).limitOf (decidedAs new s).supply.state =
      if new = .mains then s.itemNat 3 10 else s.itemNat 3 11 := limitOf_eq hnew s
  rw [hlimit] at hsheds
  rw [changeSupply_eq hnew, screensGainSupply_eq hnew, limitOf_eq hnew]
  refine ⟨recomputeLimit (decidedAs new s), judgeStarter (gated new (restoreAt new s) (recomputeLimit (decidedAs new s))),
    hsheds, judgeStarter_effect _, rfl, fun x => ?_, cond_report_self _ _ _ _, fun i hi => cond_report_ne _ _ _ hi⟩
  cases x <;> rfl

/-! ## The two inputs (R98, R104) -/

/-- The two inputs as a change of one of them leaves them, and MAINS_FAIL with them. -/
def inputHeard (w : Switch) (v : Bool) (s : State) : State := { Spec.taken s w v with
  supply := { s.supply with
    mains := if w = .mainsPresent then v else s.supply.mains
    generator := if w = .generatorRunning then v else s.supply.generator }
  conditions := if w = .mainsPresent then (s.report .mainsFail (!v)).conditions else s.conditions }

theorem handSwitch_supply {w : Switch} (hw : w = .mainsPresent ∨ w = .generatorRunning) (v : Bool) (s : State) :
    handSwitch w v (Spec.taken s w v) = decideSupply (inputHeard w v s) := by
  rcases hw with rfl | rfl <;> rfl

/-- R103: the restore timer at a change of supply state, written out. -/
theorem restoreAt_eq (new : SupplyState) (s : State) : new ≠ s.supply.state → restoreAt new s =
    match s.supply.state, new with
    | _, .none => none
    | .mains, _ => if s.supply.restoreTimer.isSome then
        if s.itemNat 3 9 = 0 then none else some (s.itemNat 3 9 * 1000) else none
    | _, _ => if s.itemNat 3 9 = 0 then none else some (s.itemNat 3 9 * 1000) := by
  unfold restoreAt
  generalize s.supply.state = old
  intro hnew
  cases old <;> cases new <;> first | rfl | exact absurd rfl hnew

end Sys2Proof.Machine

open Sys2Proof Sys2Proof.Machine Sys2Proof.Spec

/-- Settles O29: the supply state decided from what the input leaves, and the two ways it can change. -/
theorem supplyFollowsItsInputs : Obligations.SupplyFollowsItsInputs := by
  intro w v s hp hw ht hv mains generator new fresh timer heard
  have hexec : exec (.filterTimerExpiry (.switch w)) s = .next (settle (decideSupply heard)) :=
    (exec_filterTimerExpiry_switch hp ht hv).trans (congrArg (fun t => Host.Outcome.next (settle t)) (handSwitch_supply hw v s))
  have hsame (h : new = s.supply.state) : decideSupply heard = heard := if_pos h
  have hchange (h : new ≠ s.supply.state) : decideSupply heard = changeSupply new heard := if_neg h
  have htimer (h : new ≠ s.supply.state) : timer = restoreAt new heard :=
    (if_neg h).trans (restoreAt_eq new heard h).symm
  refine ⟨⟨_, hexec, ?_⟩, fun _ => ⟨_, hexec, hsame, fun h hnone => ?_, fun h hsome hfollow => ?_⟩⟩
  · rw [settle_plant]
    by_cases h : new = s.supply.state
    · have htimer : timer = s.supply.restoreTimer := if_pos h
      rw [hsame h, htimer, if_pos h, h]
      rfl
    · rw [hchange h, changeSupply_plant, ← htimer h, if_neg h]
      rfl
  · rw [hchange h, hnone]
    exact changeSupply_entersNone heard
  · rw [hchange h, htimer h]
    exact changeSupply_entersSupply hsome hfollow.1

end

section
/-! PROOFS. O22: the changeover timer's expiry. Its one notice is the controller's own; what it writes is read back field by
field (R79, R84). -/

namespace Sys2Proof.Machine

open Sys2Proof.Spec

variable (s : State) (b : Bay)

/-! ## The tail of a class (R77) -/

/-- The part of the duty order that one class holds once a pump has taken the tail of its class. -/
def State.classAfter (order : List Bay) (degraded : Bool) : List Bay :=
  (order.erase b).filter (fun c => (s.pump c).degraded == degraded) ++ if (s.pump b).degraded = degraded then [b] else []

theorem toTail_classes (order : List Bay) : s.toTail b order = s.classAfter b order false ++ s.classAfter b order true := by
  unfold State.toTail State.inClasses State.isDegraded State.classAfter
  rw [List.filter_append, List.filter_append]
  cases h : (s.pump b).degraded <;> simp [h]

theorem setDue_degraded (on : Bool) (c : Bay) : ((setDue b on s).pump c).degraded = (s.pump c).degraded := by
  by_cases h : c = b
  · rw [h, setDue, pump_modPump_self]
  · rw [setDue, pump_modPump_ne _ _ h]

/-- R77: the DEGRADED flags alone tell where the tail of a class is. -/
theorem toTail_congr {t : State} (h : ∀ c, (t.pump c).degraded = (s.pump c).degraded) (order : List Bay) :
    t.toTail b order = s.toTail b order := by
  simp only [State.toTail, State.inClasses, State.isDegraded, h]

/-! ## The expiry (R84) -/

/-- The timer stopped, CHANGEOVER_DUE set, the replacement mark cleared, and the pump at the tail of its class. -/
def madeDue : State := { s with
  roster := rosterWith s b { s.pump b with changeoverDue := true }
  duty := { s.duty with
    changeoverTimer := s.duty.changeoverTimer.put b none
    replaced := s.duty.replaced.put b false
    order := s.toTail b s.duty.order } }

theorem ownEffect_changeover (h : (s.pump b).state = .running) : ownEffect (.changeover b) s = madeDue s b := by
  have htail : (setReplaced b false (setDue b true (setChangeover b none s))).toTail b s.duty.order =
      s.toTail b s.duty.order := toTail_congr s b (setDue_degraded (setChangeover b none s) b true) _
  calc ownEffect (.changeover b) s
    _ = (setReplaced b false (setDue b true (setChangeover b none s))).setOrder
          ((setReplaced b false (setDue b true (setChangeover b none s))).toTail b s.duty.order) := if_pos h
    _ = madeDue s b := by rw [htail]; rfl

/-- A notice posted with none waiting is the first taken, and it is taken at the state that posted it (R83). -/
theorem settle_post (n : Notice) (h : s.inbox = []) : settle (s.post n) = settleWithin 1023 (deliver n s) := by
  have hposted : (s.post n).inbox = [n] := by rw [State.post, h]; rfl
  have htaken : ({ s.post n with inbox := [] } : State) = s := by rw [← h]; rfl
  exact (settleWithin_cons 1023 hposted).trans (by rw [htaken])

theorem exec_changeoverTimerExpiry (h : s.live) (ht : (s.duty.changeoverTimer.get b).isSome = true) :
    exec (.changeoverTimerExpiry b) s = .next (settleWithin 1023 (evaluate (.changeover b) s)) := by
  obtain ⟨hpower, hinbox⟩ := h
  calc exec (.changeoverTimerExpiry b) s
    _ = .next (settle (s.post (.changeover b))) := (powered_on s _ hpower).trans (congrArg _ (if_pos ht))
    _ = _ := by rw [settle_post s _ hinbox, deliver_evaluates s (n := .changeover b) nofun]

end Sys2Proof.Machine

open Sys2Proof Sys2Proof.Machine Sys2Proof.Spec

/-- Settles O22: the expiry's notice is taken first, and its own effect written out is the state the statement names. -/
theorem changeoverExpiryMakesThePumpDue : Obligations.ChangeoverExpiryMakesThePumpDue := by
  intro b s hlive htimer hrunning
  refine ⟨madeDue s b, ?_, ?_⟩
  · rw [exec_changeoverTimerExpiry s b hlive htimer, evaluate, ownEffect_changeover s b hrunning]
  · dsimp only
    rw [madeDue, toTail_classes]
    rfl

end

section
/-! PROOFS. The timers of a rake, and the requests to a screen (R111 to R121). -/

namespace Sys2Proof.Machine

open Sys2Proof.Spec

/-! ## A trigger reaches a record (R111) -/

section
variable {s : State} {x : Screen} {r : ScreenRec}

theorem triggered_held (h : r.state ≠ .idle ∨ ¬ FreeToRake s) : triggered s x r = { r with pending := true } :=
  if_neg fun ⟨hidle, hfree⟩ => h.elim (absurd hidle) (absurd hfree)

theorem triggered_free (hidle : r.state = .idle) (hfree : FreeToRake s) : triggered s x r = begun s x r :=
  if_pos ⟨hidle, hfree⟩

/-- An IDLE screen in use with a trigger pending waits where it is held, and begins its cycle otherwise (R111). -/
theorem retried_pending (hu : r.inUse = true) (hidle : r.state = .idle) (hp : r.pending = true) : retried s x r =
    if s.screens.supply = .none ∨ (s.screens.supply = .generator ∧ s.screens.ramping = true) then r else begun s x r := by
  rw [retried]
  by_cases hheld : s.screens.supply = .none ∨ (s.screens.supply = .generator ∧ s.screens.ramping = true)
  · rw [if_pos hheld, if_neg fun ⟨_, _, _, hfree⟩ => not_or.2 hfree hheld]
  · rw [if_neg hheld, if_pos ⟨hu, hidle, hp, not_or.1 hheld⟩]

/-! ## What a jam leaves (R116) -/

variable {u : State} {why : JamReason}

/-- A jam writes over what an expiry wrote to the timers of its screen (R116). -/
theorem jams_of_setScreen {q : ScreenRec} (h : Jams (s.setScreen x q) u x why)
    (hq : jammed why q = jammed why (s.screen x)) : Jams s u x why := by
  obtain ⟨hactive, hdetail, hothers, hframe⟩ := h
  refine ⟨hactive, hdetail, hothers, hframe.trans ?_⟩
  show ({ (s.setScreen x q).setScreen x (jammed why ((s.setScreen x q).screen x)) with
    conditions := u.conditions } : State) = _
  rw [screen_setScreen_self, setScreen_setScreen, hq]
  rfl

/-- A jam leaves no notice (R116). -/
theorem jams_inbox (h : Jams s u x why) : u.inbox = s.inbox := by
  obtain ⟨-, -, -, hframe⟩ := h
  rw [hframe]
  rfl

end

/-! ## The timers (R112, R114, R115) -/

section
variable (x : Screen) (s : State)

/-- The trigger reads the screen as the interval timer's expiry leaves it (R112). -/
theorem intervalExpired_eq (h : (s.screen x).inUse = true) : intervalExpired x s =
    s.setScreen x (triggered s x { s.screen x with interval := { (s.screen x).interval with elapsed := none } }) := by
  have hrake (r : ScreenRec) : SameRake s (s.setScreen x r) := ⟨rfl, rfl, rfl, rfl, rfl⟩
  rw [intervalExpired, modScreen_eq, trigger_eq _ _ (by rw [screen_setScreen_self]; exact h), (hrake _).triggered,
    screen_setScreen_self, setScreen_setScreen]

/-- The stroke timer's expiry in a stroke jams the rake with the reason of that stroke (R115). -/
theorem strokeExpired_jams (why : JamReason)
    (h : ((s.screen x).state = .rising ∧ why = .topTimeout) ∨
      (((s.screen x).state = .lowering ∨ (s.screen x).state = .homing) ∧ why = .homeTimeout)) :
    Jams s (strokeExpired x s) x why := by
  have hjam : strokeExpired x s = jamScreen x why (s.setScreen x { s.screen x with strokeTimer := none }) := by
    unfold strokeExpired
    simp only [modScreen_eq, screen_setScreen_self]
    rcases h with ⟨hst, rfl⟩ | ⟨hst | hst, rfl⟩ <;> simp only [hst]
  rw [hjam]
  exact jams_of_setScreen (jamScreen_jams x why _) rfl

/-- R113, R114: a rake backed off that rises again, its inputs not yet judged. -/
def risen (s : State) (r : ScreenRec) : ScreenRec :=
  { r with
    state := .rising, forward := true, reverse := false, clearTimer := none, strokeTimer := some (s.itemNat 5 3 * 1000) }

theorem clearExpired_eq (h : (s.screen x).state = .clearing) :
    clearExpired x s = judgeRise x (s.setScreen x (risen s (s.screen x))) := by
  unfold clearExpired
  simp only [modScreen_eq, screen_setScreen_self, setScreen_setScreen]
  exact if_pos h

variable {x s}

/-- The rake overload input of a screen, false as it trips (R114). -/
theorem rakeTripped_eq : s.rakeTripped x = !(s.contacts.rakeOverload.get x).filtered := rfl

theorem judgeRise_clear (ho : (s.contacts.rakeOverload.get x).filtered = true)
    (ht : (s.contacts.topLimit.get x).filtered = false) : judgeRise x s = s := by
  rw [judgeRise, rakeTripped_eq, ho, if_neg (by decide)]
  exact if_neg (Bool.eq_false_iff.1 ht)

theorem judgeRise_top (ho : (s.contacts.rakeOverload.get x).filtered = true)
    (ht : (s.contacts.topLimit.get x).filtered = true) : judgeRise x s = topReached x s := by
  rw [judgeRise, rakeTripped_eq, ho, if_neg (by decide)]
  exact if_pos ht

/-- The second overload trip of a cycle jams the rake (R114). -/
theorem judgeRise_jams (ho : (s.contacts.rakeOverload.get x).filtered = false) (hseen : (s.screen x).overloadSeen = true) :
    Jams s (judgeRise x s) x .overloadTwice := by
  rw [judgeRise, rakeTripped_eq, ho, if_pos (by decide), overloadInRising, if_pos hseen]
  exact jamScreen_jams x .overloadTwice s

end

/-! ## The commands of the timers -/

section
variable {s : State} (x : Screen)

/-- A running timer's expiry whose effect leaves no notice (R83). -/
theorem expiry_quiet (t : State → Timer) (f : State → State) {u : State} (h : s.live) (ht : (t s).isSome = true)
    (hf : f s = u) (hquiet : u.inbox = s.inbox) :
    powered (fun s => if (t s).isSome then settle (f s) else s) s = .next u := by
  rw [powered_timer t (fun s => settle (f s)) h.1 ht, hf, settle_quiet _ (hquiet.trans h.2)]

theorem exec_intervalTimerExpiry {u : State} (h : s.live) (ht : (s.screen x).interval.elapsed.isSome = true)
    (hu : intervalExpired x s = u) (hquiet : u.inbox = s.inbox) : exec (.intervalTimerExpiry x) s = .next u :=
  expiry_quiet (fun s => (s.screen x).interval.elapsed) (intervalExpired x) h ht hu hquiet

theorem exec_strokeTimerExpiry {u : State} (h : s.live) (ht : (s.screen x).strokeTimer.isSome = true)
    (hu : strokeExpired x s = u) (hquiet : u.inbox = s.inbox) : exec (.strokeTimerExpiry x) s = .next u :=
  expiry_quiet (fun s => (s.screen x).strokeTimer) (strokeExpired x) h ht hu hquiet

theorem exec_clearTimerExpiry {u : State} (h : s.live) (ht : (s.screen x).clearTimer.isSome = true)
    (hu : clearExpired x s = u) (hquiet : u.inbox = s.inbox) : exec (.clearTimerExpiry x) s = .next u :=
  expiry_quiet (fun s => (s.screen x).clearTimer) (clearExpired x) h ht hu hquiet

end

/-! ## The screen a request names (R119 to R121) -/

section
variable {s : State}

theorem Screen.ofIndex_index (x : Screen) : Screen.ofIndex x.index = some x := by cases x <;> rfl

theorem namedScreen_outside {n : Nat} (h : 1 < n) : s.namedScreen n = none := by
  match n, h with
  | _ + 2, _ => rfl

theorem namedScreen_unused {x : Screen} (h : (s.screen x).inUse = false) : s.namedScreen x.index = none := by
  rw [State.namedScreen, Screen.ofIndex_index]
  exact if_neg (Bool.eq_false_iff.1 h)

theorem namedScreen_used {x : Screen} (h : (s.screen x).inUse = true) : s.namedScreen x.index = some x := by
  rw [State.namedScreen, Screen.ofIndex_index]
  exact if_pos h

/-! ## SCREEN_INHIBIT (R119) -/

theorem screenInhibit_value {value : Nat} (n : Nat) (h : 1 < value) :
    screenInhibit n value s = .refuse s .badRequest := if_pos h

theorem screenInhibit_unnamed {value n : Nat} (hv : value ≤ 1) (h : s.namedScreen n = none) :
    screenInhibit n value s = .refuse s .badIndex := by
  rw [screenInhibit, if_neg (Nat.not_lt.2 hv), h]

theorem screenInhibit_named {value : Nat} {x : Screen} (hv : value ≤ 1) (hu : (s.screen x).inUse = true) :
    screenInhibit x.index value s =
      if (s.screen x).selectorAuto = false then .refuse s .localControl
      else .done (if value = 1 then inhibitOn x s else inhibitOff x s) := by
  rw [screenInhibit, if_neg (Nat.not_lt.2 hv), namedScreen_used hu]

/-- Inhibit on, at the screen's record (R119). -/
theorem inhibitOn_eq (x : Screen) (s : State) : inhibitOn x s = s.setScreen x
    (if (s.screen x).state = .idle then
      { s.screen x with inhibit := true, state := .inhibited, forward := false, reverse := false }
    else { s.screen x with inhibit := true }) := by
  rw [inhibitOn, modScreen_eq]
  rfl

theorem inhibitOff_stays {x : Screen} (h : (s.screen x).state ≠ .inhibited) :
    inhibitOff x s = s.setScreen x { s.screen x with inhibit := false } := if_neg h

/-- R119: the record of a screen in INHIBITED as its inhibit goes off, its trigger not yet answered. -/
def uninhibited (r : ScreenRec) : ScreenRec := { r with inhibit := false, state := .idle, forward := false, reverse := false }

/-- Inhibit off in INHIBITED: the screen is IDLE, and a pending trigger is answered as where a hold lifts (R111, R119). -/
theorem inhibitOff_rests {x : Screen} (hu : (s.screen x).inUse = true) (h : (s.screen x).state = .inhibited) :
    inhibitOff x s = s.setScreen x (retried s x (uninhibited (s.screen x))) := by
  have hretest : inhibitOff x s = retest x (s.setScreen x (uninhibited (s.screen x))) := by
    unfold inhibitOff retest
    simp only [modScreen_eq, screen_setScreen_self, setScreen_setScreen, h, uninhibited, hu, true_and, if_true]
    rfl
  have hrake : SameRake s (s.setScreen x (uninhibited (s.screen x))) := ⟨rfl, rfl, rfl, rfl, rfl⟩
  rw [hretest, retest_eq, hrake.retried, screen_setScreen_self, setScreen_setScreen]

/-! ## SCREEN_RAKE (R120) -/

theorem screenRake_unnamed {n : Nat} (h : s.namedScreen n = none) : screenRake n s = .refuse s .badIndex := by
  rw [screenRake, h]

theorem screenRake_local {x : Screen} (hu : (s.screen x).inUse = true) (hsel : (s.screen x).selectorAuto = false) :
    screenRake x.index s = .refuse s .localControl := by
  rw [screenRake, namedScreen_used hu]
  exact if_pos hsel

theorem screenRake_triggers {x : Screen} (hu : (s.screen x).inUse = true) (hsel : (s.screen x).selectorAuto = true) :
    screenRake x.index s =
      ⟨s.setScreen x (triggered s x (s.screen x)), .ok, [byte (triggered s x (s.screen x)).state.code]⟩ := by
  have htrigger : screenRake x.index s = ⟨trigger x s, .ok, [byte ((trigger x s).screen x).state.code]⟩ := by
    rw [screenRake, namedScreen_used hu]
    exact if_neg (by rw [hsel]; decide)
  rw [htrigger, trigger_eq s x hu, screen_setScreen_self]

/-! ## SCREEN_RESET (R121) -/

theorem screenReset_unnamed {n : Nat} (h : s.namedScreen n = none) : screenReset n s = .refuse s .badIndex := by
  rw [screenReset, h]

theorem screenReset_named {x : Screen} (hu : (s.screen x).inUse = true) : screenReset x.index s =
    if (s.screen x).selectorAuto = false then .refuse s .localControl
    else if (s.screen x).state ≠ .jammed then .done s
    else if s.rakeTripped x then .refuse s .stillFaulted
    else .done (clearJam x s) := by
  rw [screenReset, namedScreen_used hu]

end

end Sys2Proof.Machine

open Sys2Proof Sys2Proof.Machine Sys2Proof.Spec

/-- Settles O30, timer by timer, the inputs judged where the rake rises again. -/
theorem rakeTimersMoveTheRake : Obligations.RakeTimersMoveTheRake := by
  refine ⟨fun x s h ht hu => ?_, fun x s h ht => ?_, fun x s h ht hst => ?_⟩
  · have expires {r : ScreenRec}
        (hr : triggered s x { s.screen x with interval := { (s.screen x).interval with elapsed := none } } = r) :
        exec (.intervalTimerExpiry x) s = .next (withScreen s x r) :=
      exec_intervalTimerExpiry x h ht ((intervalExpired_eq x s hu).trans (congrArg _ hr)) rfl
    exact ⟨fun hheld => expires (triggered_held hheld), fun hidle hfree => expires (triggered_free hidle hfree)⟩
  · have expires {why : JamReason} (hjams : Jams s (strokeExpired x s) x why) :
        ∃ u, exec (.strokeTimerExpiry x) s = .next u ∧ Jams s u x why :=
      ⟨_, exec_strokeTimerExpiry x h ht rfl (jams_inbox hjams), hjams⟩
    exact ⟨fun hst => expires (strokeExpired_jams x s _ (.inl ⟨hst, rfl⟩)),
      fun hst => expires (strokeExpired_jams x s _ (.inr ⟨hst, rfl⟩))⟩
  · have hrises := clearExpired_eq x s hst
    refine ⟨fun ho htop => ?_, fun ho htop => ?_, fun ho hseen => ?_⟩
    · exact exec_clearTimerExpiry x h ht (hrises.trans (judgeRise_clear ho htop)) rfl
    · have hlowers := hrises.trans (judgeRise_top ho htop)
      rw [topReached, modScreen_eq, screen_setScreen_self, setScreen_setScreen] at hlowers
      exact exec_clearTimerExpiry x h ht hlowers rfl
    · have hjudged : Jams (s.setScreen x (risen s (s.screen x))) (clearExpired x s) x .overloadTwice := by
        rw [hrises]
        exact judgeRise_jams ho ((congrArg ScreenRec.overloadSeen (screen_setScreen_self s x _)).trans hseen)
      have hjams := jams_of_setScreen hjudged rfl
      exact ⟨_, exec_clearTimerExpiry x h ht rfl (jams_inbox hjams), hjams⟩

/-- Settles O31: a trigger pending as the inhibit goes off is answered as where a hold lifts. -/
theorem screenInhibitRestsTheScreen : Obligations.ScreenInhibitRestsTheScreen := by
  intro ans screen value s h
  refine ⟨fun hv => privileged_refuses h (screenInhibit_value screen hv),
    fun hv hx => privileged_refuses h (screenInhibit_unnamed hv (namedScreen_outside hx)), fun x hx hv => ?_⟩
  subst hx
  have judged (hu : (s.screen x).inUse = true) := screenInhibit_named (s := s.heard.spent) hv hu
  have taken {r : ScreenRec} (hu : (s.screen x).inUse = true) (hsel : (s.screen x).selectorAuto = true)
      (hr : (if value = 1 then inhibitOn x s.heard.spent else inhibitOff x s.heard.spent) = s.heard.spent.setScreen x r) :
      exec (.screenInhibit ans x.index value) s = .next ((withScreen s.heard.spent x r).replying 0x0E .ok []) :=
    privileged_reply h (a := .done (s.heard.spent.setScreen x r))
      ((judged hu).trans ((if_neg (ne_false_of_eq_true hsel)).trans (congrArg Answer.done hr))) (cleared_inbox (s := s) h)
  refine ⟨fun hu => privileged_refuses h (screenInhibit_unnamed hv (namedScreen_unused hu)),
    fun hu hsel => privileged_refuses h ((judged hu).trans (if_pos hsel)), fun hu hsel hon => ?_,
    fun hu hsel hoff hpending => ?_, fun hu hsel hoff hst hpending => ?_⟩
  · exact taken hu hsel ((if_pos hon).trans (inhibitOn_eq x _))
  · refine taken hu hsel ((if_neg (by omega)).trans ?_)
    split
    · next hst =>
      rw [inhibitOff_rests (s := s.heard.spent) hu hst,
        retried, if_neg fun ⟨_, _, hp, _⟩ => Bool.eq_false_iff.1 (hpending hst) hp]
      rfl
    · next hst => exact inhibitOff_stays hst
  · refine taken hu hsel ((if_neg (by omega)).trans ?_)
    have hrake : SameRake s s.heard.spent := ⟨rfl, rfl, rfl, rfl, rfl⟩
    rw [inhibitOff_rests (s := s.heard.spent) hu hst, hrake.retried]
    exact congrArg _ (retried_pending (r := uninhibited (s.screen x)) hu rfl hpending)

/-- Settles O32: the reply's state is that of the record the trigger leaves. -/
theorem screenRakeTriggersACycle : Obligations.ScreenRakeTriggersACycle := by
  intro screen s h
  refine ⟨fun hx => addressed_reply h (screenRake_unnamed (namedScreen_outside hx)) h.inbox_eq, fun x hx => ?_⟩
  subst hx
  have taken {r : ScreenRec} (hu : (s.screen x).inUse = true) (hsel : (s.screen x).selectorAuto = true)
      (hr : triggered s.heard x (s.heard.screen x) = r) : exec (.screenRake x.index) s =
        .next ((withScreen s.heard x r).replying 0x0D .ok [byte r.state.code]) :=
    hr ▸ addressed_reply h (screenRake_triggers (s := s.heard) hu hsel) h.inbox_eq
  refine ⟨fun hu => addressed_reply h (screenRake_unnamed (namedScreen_unused hu)) h.inbox_eq,
    fun hu hsel => addressed_reply h (screenRake_local (s := s.heard) hu hsel) h.inbox_eq,
    fun hu hsel hheld => taken hu hsel (triggered_held hheld),
    fun hu hsel hidle hfree => taken hu hsel (triggered_free hidle hfree)⟩

/-- Settles O33: the jam's record and its source as a jam cleared leaves them. -/
theorem screenResetClearsAJam : Obligations.ScreenResetClearsAJam := by
  intro ans screen s h
  refine ⟨fun hx => privileged_refuses h (screenReset_unnamed (namedScreen_outside hx)), fun x hx => ?_⟩
  subst hx
  have judged (hu : (s.screen x).inUse = true) := screenReset_named (s := s.heard.spent) hu
  have auto {α : Type} {a b : α} (hsel : (s.screen x).selectorAuto = true) :
      (if (s.screen x).selectorAuto = false then a else b) = b := if_neg (ne_false_of_eq_true hsel)
  refine ⟨fun hu => privileged_refuses h (screenReset_unnamed (namedScreen_unused hu)),
    fun hu hsel => privileged_refuses h ((judged hu).trans (if_pos hsel)), fun hu hsel hst => ?_,
    fun hu hsel hst ho => ?_, fun hu hsel hst ho => ?_⟩
  · exact privileged_reply h (a := .done s.heard.spent) ((judged hu).trans ((auto hsel).trans (if_pos hst)))
      (cleared_inbox h)
  · have htripped : s.heard.spent.rakeTripped x = true := congrArg (!·) ho
    exact privileged_refuses h
      ((judged hu).trans ((auto hsel).trans ((if_neg (not_not.2 hst)).trans (if_pos htripped))))
  · have hfree : s.heard.spent.rakeTripped x ≠ true := Bool.eq_false_iff.1 (congrArg (!·) ho)
    have hrake : SameRake s s.heard.spent := ⟨rfl, rfl, rfl, rfl, rfl⟩
    have hclear := clearJam_eq x s.heard.spent
    rw [hrake.homed] at hclear
    have hcond (i : Source) : (clearJam x s.heard.spent).cond i = (s.heard.spent.report (jamSource x) false).cond i := by
      rw [hclear]; rfl
    have hinbox : (clearJam x s.heard.spent).inbox = [] := by rw [hclear]; exact cleared_inbox (s := s) h
    refine ⟨clearJam x s.heard.spent, privileged_reply h (a := .done (clearJam x s.heard.spent)) ((judged hu).trans
      ((auto hsel).trans ((if_neg (not_not.2 hst)).trans (if_neg hfree)))) hinbox, ?_, fun i hi => ?_, ?_⟩
    · rw [hcond, cond_report_self]; rfl
    · rw [hcond, cond_report_ne _ _ _ hi]; rfl
    · rw [hclear]; rfl

end

section
/-! PROOFS. The rating read by its segments (R129), and volume carried exactly (R134). -/

namespace Sys2Proof.Machine

open Sys2Proof.Spec

/-! ## The rated flow (R129) -/

/-- The walk along the rating passes every point at or below the head. -/
theorem segmentFlow_skip {head : Int} {p : Int × Nat} (hp : p.1 ≤ head) (rest : List (Int × Nat)) :
    ∀ (front : List (Int × Nat)) (a : Int × Nat), (∀ x ∈ front, x.1 ≤ head) →
      segmentFlow head a (front ++ p :: rest) = segmentFlow head p rest
  | [], _, _ => if_pos hp
  | b :: front, _, h => (if_pos (h b List.mem_cons_self)).trans
      (segmentFlow_skip hp rest front b fun x hx => h x (List.mem_cons_of_mem b hx))

/-- The walk stops at a point with the head below the next one. -/
theorem segmentFlow_stops {head : Int} {p q : Int × Nat} (rest : List (Int × Nat)) (h : head < q.1) :
    segmentFlow head p (q :: rest) = p.2 + ((((q.2 - p.2 : Nat) : Int) * (head - p.1)) / (q.1 - p.1)).toNat :=
  if_neg (not_le.2 h)

/-- At a point's own head the walk from it reads its flow. -/
theorem segmentFlow_own {p : Int × Nat} {rest : List (Int × Nat)} (h : ∀ q ∈ rest, p.1 < q.1) :
    segmentFlow p.1 p rest = p.2 := by
  cases rest with
  | nil => rfl
  | cons q rest => rw [segmentFlow_stops rest (h q List.mem_cons_self)]; simp

/-- In a list whose images rise, what stands before a point and what stands after it. -/
theorem rising_about {α β : Type} {r : β → β → Prop} [Trans r r r] {f : α → β} {front rest : List α} {p : α}
    (h : ((front ++ p :: rest).map f).IsChain r) : (∀ x ∈ front, r (f x) (f p)) ∧ ∀ x ∈ rest, r (f p) (f x) := by
  have hpair := List.pairwise_append.1 (List.pairwise_map.1 (List.isChain_iff_pairwise.1 h))
  exact ⟨fun x hx => hpair.2.2 x hx p List.mem_cons_self, (List.pairwise_cons.1 hpair.2.1).1⟩

/-- The rated flow is what the walk reads from any point at or below the head. -/
theorem Rating.flow_from {m : Rating} {head : Int} {front rest : List (Int × Nat)} {p : Int × Nat}
    (hheads : (m.points.map Prod.fst).IsChain (· < ·)) (hm : m.points = front ++ p :: rest) (hp : p.1 ≤ head) :
    m.flow head = segmentFlow head p rest := by
  rw [hm] at hheads
  obtain ⟨hbefore, hafter⟩ := rising_about hheads
  unfold Rating.flow
  rw [hm]
  cases front with
  | nil =>
    show (if head ≤ p.1 then p.2 else segmentFlow head p rest) = _
    split
    · next h => rw [le_antisymm h hp, segmentFlow_own hafter]
    · rfl
  | cons a front =>
    have ha : a.1 < p.1 := hbefore a List.mem_cons_self
    show (if head ≤ a.1 then a.2 else segmentFlow head a (front ++ p :: rest)) = _
    rw [if_neg (by omega)]
    exact segmentFlow_skip hp rest front a fun x hx => by
      have := hbefore x (List.mem_cons_of_mem a hx)
      omega

/-- A head at or below the first reads the first flow. -/
theorem Rating.flow_first {m : Rating} {head : Int} {p : Int × Nat} {rest : List (Int × Nat)} (hm : m.points = p :: rest)
    (hp : head ≤ p.1) : m.flow head = p.2 := by
  unfold Rating.flow
  rw [hm]
  exact if_pos hp

end Sys2Proof.Machine

open Sys2Proof Sys2Proof.Machine

/-- Settles O35: below the first point by the definition, and elsewhere by the walk from the point at or below the head. -/
theorem ratedFlowIsInterpolated : Obligations.RatedFlowIsInterpolated := by
  intro m head hheads hflows
  refine ⟨fun p rest => Rating.flow_first, fun front p hm hp => ?_, fun front p q rest hm hp hq => ?_⟩
  · rw [Rating.flow_from hheads hm hp]; rfl
  · rw [Rating.flow_from hheads hm hp, segmentFlow_stops rest hq]
    rw [hm] at hflows
    have hrise : p.2 ≤ q.2 := (rising_about hflows).2 q List.mem_cons_self
    have hpos : 0 ≤ ((q.2 - p.2 : Nat) : Int) * (head - p.1) / (q.1 - p.1) :=
      Int.ediv_nonneg (mul_nonneg (by omega) (by omega)) (by omega)
    rw [Nat.cast_add, Int.toNat_of_nonneg hpos, Nat.cast_sub hrise]

namespace Sys2Proof.Machine

open Sys2Proof.Spec

/-! ## Volume (R134) -/

/-- A record that is saturated takes no volume (R134). -/
theorem carried_full {t : Tally} (litres tenths : Nat) (h : t.flags.volumeSaturated = true) :
    carried t litres tenths = (t.litres, t.rem, true) := if_pos h

/-- Volume past the limit saturates (R134). -/
theorem carried_saturates {t : Tally} {litres tenths : Nat} (h : t.flags.volumeSaturated = false)
    (hover : 4294967295 < t.litres + litres + (t.rem + tenths) / 10) : carried t litres tenths = (4294967295, 0, true) :=
  (if_neg (Bool.eq_false_iff.1 h)).trans (if_pos hover)

/-- Volume within the limit is carried (R134). -/
theorem carried_fits {t : Tally} {litres tenths : Nat} (h : t.flags.volumeSaturated = false)
    (hfits : t.litres + litres + (t.rem + tenths) / 10 ≤ 4294967295) :
    carried t litres tenths = (t.litres + litres + (t.rem + tenths) / 10, (t.rem + tenths) % 10, false) :=
  (if_neg (Bool.eq_false_iff.1 h)).trans (if_neg (not_lt.2 hfits))

end Sys2Proof.Machine

/-- Settles O36, by the three cases of the carrying rule. -/
theorem volumeIsCarriedExactly : Obligations.VolumeIsCarriedExactly := by
  intro t q hrem u
  have hu : u = _ := addVolume_eq 0 q t
  refine ⟨fun h => ?_, fun h hfits => ?_, fun h hover => ?_⟩
  · rw [hu, carried_full _ _ h]
    dsimp only
    rw [← h]
  · rw [carried_fits h (by simpa using hfits), ← h] at hu
    rw [hu]
    dsimp only
    exact ⟨by omega, by omega, rfl⟩
  · rw [hu, carried_saturates h (by simpa using hover)]

end

section
/-! PROOFS. The spill second at the Episode Table: the record it is added to, and what begins, resumes, closes and marks an
episode (R143 to R146, R150 to R152). -/

namespace Sys2Proof.Machine

open Sys2Proof.Spec

/-! ## The second added, and the tags present (R144, R145) -/

/-- A second added to its receiving record (R134, R135, R144, R145). -/
theorem addSecond_eq (r : SpillSecond) (tags : Causes) (now : Nat) (t : Tally) :
    t.addSecond r tags now = withSecond r tags now t := by
  unfold Tally.addSecond withSecond
  simp only [addVolume_eq, raiseFlow_eq, raiseHead_eq]
  cases r.head <;> rfl

section
variable (s : State)

theorem causeTags_power : s.causeTags.power = true ↔ s.supply.state = .none ∨ s.supply.limit < s.duty.order.length := by
  simp [State.causeTags]

theorem causeTags_shortfall : s.causeTags.shortfall = true ↔ s.duty.order.length < s.roster.installed := by
  simp [State.causeTags]

theorem causeTags_screen : s.causeTags.screen = true ↔ ∃ x : Screen, (s.screen x).inUse = true ∧
    ((s.screen x).state = .jammed ∨ (s.screen x).blinded = true ∨ (s.screen x).state = .inhibited) := by
  have hall (x : Screen) : x ∈ Screen.all := by cases x <;> decide
  simp [State.causeTags, hall, or_assoc]

theorem causeTags_sensor : s.causeTags.sensor = true ↔ (s.channel .ww).valid = false ∨ (s.channel .ww).level = none := by
  simp [State.causeTags, ChannelRec.usable]

theorem causeTags_override : s.causeTags.override = true ↔ ∃ b : Bay, (s.pump b).forced = .stop := by
  have hall (b : Bay) : b ∈ Bay.all := by cases b <;> decide
  simp [State.causeTags, hall]

/-- None of the five tags that name a cause is present (R144). -/
def State.uncaused (s : State) : Bool :=
  !(s.causeTags.power || s.causeTags.shortfall || s.causeTags.screen || s.causeTags.sensor || s.causeTags.override)

theorem uncaused_iff : s.uncaused = true ↔ s.causeTags.power = false ∧ s.causeTags.shortfall = false ∧
    s.causeTags.screen = false ∧ s.causeTags.sensor = false ∧ s.causeTags.override = false := by
  simp [State.uncaused, and_assoc]

/-- CAPACITY and LAG part the seconds without a named cause by the pumps of the duty order (R144). -/
theorem causeTags_capacity : s.causeTags.capacity =
    (s.uncaused && s.duty.order.all fun b => (s.pump b).state == .running) := rfl

theorem causeTags_lag : s.causeTags.lag =
    (s.uncaused && !s.duty.order.all fun b => (s.pump b).state == .running) := rfl

end

/-! ## What a second makes of the table (R143) -/

/-- The second added to a record of the table as it stands. -/
def added (r : SpillSecond) (s : State) : Tally → Tally := withSecond r s.causeTags s.clock.time

/-- The mark of a settings change on the episode in progress, by a report that adds no second (R145). -/
def withMark (r : SpillSecond) (s : State) : State :=
  if r.marks.settingsChanged = true then s.modProgress (marked r) else s

section
variable {s : State} {r : SpillSecond}

/-- A second added to the pending accumulation of what the report leaves (R143). -/
theorem takeSecond_pending {u : State} (hnow : r.now = true) (h : takeSpill s = (u, .pending)) :
    takeSecond r s = u.modPending (added r s) := by
  rw [takeSecond, if_pos hnow, h]
  exact congrArg u.modPending (funext (addSecond_eq _ _ _))

/-- A second added to the episode in progress of what the report leaves (R143). -/
theorem takeSecond_progress {u : State} (hnow : r.now = true) (h : takeSpill s = (u, .progress)) :
    takeSecond r s = u.modProgress (added r s) := by
  rw [takeSecond, if_pos hnow, h]
  exact congrArg u.modProgress (funext (addSecond_eq _ _ _))

/-- The flag of a settings change (R145). -/
theorem addFlags_settingsChanged (h : r.marks.settingsChanged = true) :
    Tally.addFlags { RecordFlags.empty with settingsChanged := true } = marked r := by
  funext t
  simp [Tally.addFlags, RecordFlags.union, RecordFlags.empty, marked, h]

/-- A report without a spill: what an ENDED second does, and the mark (R143, R145). -/
theorem takeSecond_dry (hnow : r.now = false) :
    takeSecond r s = withMark r (if r.before = true then takeEnded s else s) := by
  rw [takeSecond, if_neg (Bool.eq_false_iff.1 hnow), withMark]
  dsimp only
  split
  · next h => rw [addFlags_settingsChanged h]
  · rfl

theorem withMark_unchanged (h : r.marks.settingsChanged = false) : withMark r s = s := if_neg (Bool.eq_false_iff.1 h)

theorem takeEnded_qualifying (h : s.episodes.qualifying = true) : takeEnded s = discardQualification s := if_pos h

theorem takeEnded_opened (hq : s.episodes.qualifying = false) (h : s.episodes.progressState = some .opened) :
    takeEnded s = closeEpisode s := by
  rw [takeEnded, if_neg (Bool.eq_false_iff.1 hq), if_pos (by rw [EpisodeTable.isOpen, h]; rfl)]

end

/-! ## The episode in progress, in its slot and in the accumulator -/

section
variable {t : EpisodeTable} {i : Fin 16} {e : Episode} {p : AccProgress}

theorem progressState_none (hi : t.inProgress = .none) : t.progressState = none := by
  unfold EpisodeTable.progressState; rw [hi]

theorem progressState_slot (hi : t.inProgress = .slot i) (he : t.slots.get i = some e) :
    t.progressState = some e.state := by
  unfold EpisodeTable.progressState; rw [hi]; dsimp only; rw [he]; rfl

theorem progressState_accumulator (hi : t.inProgress = .accumulator) (hp : t.acc.current = some p) :
    t.progressState = some (if p.closing = true then .closing else .opened) := by
  unfold EpisodeTable.progressState; rw [hi]; dsimp only; rw [hp]; rfl

theorem setProgress_slot (closing : Bool) (finish : Option Nat) (hi : t.inProgress = .slot i)
    (he : t.slots.get i = some e) : t.setProgress closing finish =
      t.setSlot i (some { e with state := if closing then .closing else .opened, finish := finish }) := by
  unfold EpisodeTable.setProgress; rw [hi]; dsimp only; rw [he]; rfl

theorem setProgress_accumulator (closing : Bool) (finish : Option Nat) (hi : t.inProgress = .accumulator)
    (hp : t.acc.current = some p) : t.setProgress closing finish =
      { t with acc := { t.acc with current := some { p with closing := closing, finish := finish } } } := by
  unfold EpisodeTable.setProgress; rw [hi]; dsimp only; rw [hp]; rfl

theorem countMerge_slot (hi : t.inProgress = .slot i) (he : t.slots.get i = some e) :
    t.countMerge = t.setSlot i (some { e with merges := min 255 (e.merges + 1) }) := by
  unfold EpisodeTable.countMerge; rw [hi]; dsimp only; rw [he]; rfl

theorem countMerge_accumulator (hi : t.inProgress = .accumulator) :
    t.countMerge = { t with acc := { t.acc with merges := min 65535 (t.acc.merges + 1) } } := by
  unfold EpisodeTable.countMerge; rw [hi]; rfl

/-- The table once its episode in progress is resumed (R151). -/
def EpisodeTable.resumed (t : EpisodeTable) : EpisodeTable :=
  EpisodeTable.countMerge { t.setProgress false none with mergeTimer := none }

theorem resumed_slot (hi : t.inProgress = .slot i) (he : t.slots.get i = some e) :
    t.resumed = { t.setSlot i (some { e with state := .opened, finish := none, merges := min 255 (e.merges + 1) }) with
      mergeTimer := none } := by
  rw [EpisodeTable.resumed, setProgress_slot _ _ hi he]
  let opened : Episode := { e with state := .opened, finish := none }
  refine (countMerge_slot (t := { t.setSlot i (some opened) with mergeTimer := none }) hi (setSlot_get_self _ _ _)).trans ?_
  exact congrArg (fun v : EpisodeTable => { v with mergeTimer := none }) (setSlot_setSlot t i _ _)

theorem resumed_accumulator (hi : t.inProgress = .accumulator) (hp : t.acc.current = some p) :
    t.resumed = { t with
      acc := { t.acc with
        merges := min 65535 (t.acc.merges + 1), current := some { p with closing := false, finish := none } }
      mergeTimer := none } := by
  rw [EpisodeTable.resumed, setProgress_accumulator _ _ hi hp]
  exact countMerge_accumulator hi

/-- The episode in progress, wherever it stands, is CLOSING once it is closed (R150). -/
theorem setProgress_closing_state (t : EpisodeTable) (finish : Option Nat) :
    (t.setProgress true finish).progressState = t.progressState.map fun _ => .closing := by
  unfold EpisodeTable.setProgress
  cases hi : t.inProgress with
  | none => simp [EpisodeTable.progressState, hi]
  | slot i =>
    unfold EpisodeTable.progressState
    simp only [EpisodeTable.setSlot, hi]
    rw [show (t.slots.set i _ i.isLt).get i = _ from setSlot_get_self t i _]
    cases t.slots.get i <;> rfl
  | accumulator =>
    simp only [EpisodeTable.progressState, hi]
    cases t.acc.current <;> rfl

end

section
variable {s : State} {r : SpillSecond} (hq : s.episodes.qualifying = false)
include hq

/-- A second with no episode OPEN or CLOSING begins a qualification (R146, log 16). -/
theorem takeSecond_begins (hnow : r.now = true)
    (h : s.episodes.progressState = none ∨ s.episodes.progressState = some .closed) :
    takeSecond r s = (beginQualification s).modPending (added r s) :=
  takeSecond_pending hnow (by rcases h with h | h <;> rw [takeSpill, if_neg (Bool.eq_false_iff.1 hq), h])

/-- An OPEN episode goes on with a second. -/
theorem takeSecond_opened (hnow : r.now = true) (h : s.episodes.progressState = some .opened) :
    takeSecond r s = s.modProgress (added r s) :=
  takeSecond_progress hnow (by rw [takeSpill, if_neg (Bool.eq_false_iff.1 hq), h])

/-- A second resumes a CLOSING episode (R151). -/
theorem takeSecond_resumes (hnow : r.now = true) (h : s.episodes.progressState = some .closing) :
    takeSecond r s = (resumeEpisode s).modProgress (added r s) :=
  takeSecond_progress hnow (by rw [takeSpill, if_neg (Bool.eq_false_iff.1 hq), h])

/-- An ENDED second closes an OPEN episode (R150). -/
theorem takeSecond_closes (hbefore : r.before = true) (hnow : r.now = false)
    (h : s.episodes.progressState = some .opened) : takeSecond r s = withMark r (closeEpisode s) := by
  rw [takeSecond_dry hnow, if_pos hbefore, takeEnded_opened hq h]

end

/-- A report with no spill before or now leaves its mark alone (R145). -/
theorem takeSecond_marks {s : State} {r : SpillSecond} (hbefore : r.before = false) (hnow : r.now = false) :
    takeSecond r s = withMark r s := by
  rw [takeSecond_dry hnow, if_neg (Bool.eq_false_iff.1 hbefore)]

/-! ## A slot's record through more than one write -/

section
variable {t : EpisodeTable} {i : Fin 16} {e : Episode} {s : State} {r : SpillSecond}

theorem slotBecomes_itself (he : t.slots.get i = some e) : SlotBecomes t t i e := ⟨he, fun _ _ => rfl, rfl⟩

/-- A slot written a second time. -/
theorem slotBecomes_again {u : EpisodeTable} (h : SlotBecomes t u i e) (f : Episode) (attn : Bool) :
    SlotBecomes t { u.setSlot i (some f) with attn := attn } i f := by
  obtain ⟨-, hothers, hframe⟩ := h
  exact ⟨setSlot_get_self _ _ _, fun j hj => (setSlot_get_ne u _ hj).trans (hothers j hj),
    congrArg (fun v : EpisodeTable => { v with slots := (u.setSlot i (some f)).slots, attn := attn }) hframe⟩

/-- The record of a slot in progress, its totals changed after another write. -/
theorem slotBecomes_modProgress (h : SlotBecomes t s.episodes i e) (hi : t.inProgress = .slot i) (f : Tally → Tally) :
    SlotBecomes t (s.modProgress f).episodes i { e with tally := f e.tally } := by
  have hplace : s.episodes.inProgress = .slot i := by rw [h.2.2]; exact hi
  rw [State.modProgress, modProgress_slot f hplace h.1]
  exact slotBecomes_again h _ _

theorem marked_unchanged (h : r.marks.settingsChanged = false) (q : Tally) : marked r q = q := by
  unfold marked; rw [h, Bool.or_false]

/-- The record of a slot in progress, marked after another write. -/
theorem slotBecomes_withMark (h : SlotBecomes t s.episodes i e) (hi : t.inProgress = .slot i) :
    SlotBecomes t (withMark r s).episodes i { e with tally := marked r e.tally } := by
  unfold withMark
  split
  · exact slotBecomes_modProgress h hi _
  · next hr => rw [marked_unchanged (Bool.eq_false_iff.2 hr)]; exact h

/-- The accumulator's totals, marked. -/
theorem withMark_accumulator (hi : s.episodes.inProgress = .accumulator) : (withMark r s).episodes = { s.episodes with
    acc := { s.episodes.acc with tally := marked r s.episodes.acc.tally }
    attn := (withMark r s).episodes.attn } := by
  unfold withMark
  split
  · rw [State.modProgress, modProgress_accumulator _ hi]; rfl
  · next hr => rw [marked_unchanged (Bool.eq_false_iff.2 hr)]

/-- A mark is written in the Episode Table alone. -/
theorem withMark_frame (r : SpillSecond) (s : State) : withMark r s = { s with episodes := (withMark r s).episodes } := by
  unfold withMark; split <;> rfl

/-- With nothing in progress there is nothing to mark. -/
theorem withMark_idle {q : EpisodeTable} (hq : q.inProgress = .none)
    (h : s.episodes = { q with attn := episodeAttn q }) : withMark r s = s := by
  unfold withMark
  split
  · rw [State.modProgress, modProgress_none _ (by rw [h]; exact hq), State.setEpisodes, h]
    exact congrArg (fun v : EpisodeTable => { s with episodes := v }) h.symm
  · rfl

end

/-! ## The closing (R150, R152) -/

section
variable {s : State}

/-- The table with its episode in progress closed at the station time. -/
def closing (s : State) : EpisodeTable := s.episodes.setProgress true (some s.clock.time)

theorem reportOverflow_open (h : s.episodes.isOpen = true) :
    reportOverflow s = s.report .overflowActive true (some (.serial s.episodes.progressSerial)) := if_pos h

theorem reportOverflow_closed (h : s.episodes.progressState ≠ some .opened) :
    reportOverflow s = s.report .overflowActive false := if_neg (by simpa [EpisodeTable.isOpen] using h)

/-- With a merge gap the episode is CLOSING and its merge timer runs (R150). -/
theorem closeEpisode_later (hgap : 0 < s.itemNat 6 37) : closeEpisode s =
    ((s.setEpisodes { closing s with mergeTimer := some (s.itemNat 6 37 * 1000) }).post (.allOut false)).report
      .overflowActive false := by
  unfold closeEpisode
  dsimp only
  rw [if_neg (by omega)]
  refine reportOverflow_closed ?_
  show (closing s).progressState ≠ _
  rw [closing, setProgress_closing_state]
  simp

/-- Without one it settles, with the storm state judged, before the notice (R150, R152, log 32). -/
theorem closeEpisode_atOnce (hgap : s.itemNat 6 37 = 0) : closeEpisode s =
    ((setRain (rainAfter s) (s.setEpisodes (closing s).settled)).post (.allOut false)).report .overflowActive false := by
  have hjudged (attn : Bool) : s.setEpisodes (EpisodeTable.settled { closing s with attn := attn }) =
      s.setEpisodes (closing s).settled := by
    unfold EpisodeTable.settled; dsimp only; split <;> rfl
  have hsettled : settleEpisode (s.setEpisodes (closing s)) =
      setRain (rainAfter s) (s.setEpisodes (closing s).settled) := by
    rw [settleEpisode_eq, ← hjudged (episodeAttn (closing s))]; rfl
  unfold closeEpisode
  dsimp only
  rw [if_pos hgap, ← closing, hsettled]
  have hidle : (s.setEpisodes (closing s).settled).episodes.progressState = none :=
    progressState_none (settled_inProgress (closing s))
  refine reportOverflow_closed ?_
  rw [post_episodes, setRain_episodes, hidle]
  simp

/-- What a closing hands on (R150). -/
theorem closes_of_report {v : State} (hc : v.conditions = s.conditions) (ht : v.clock = s.clock) :
    Closes s ((v.post (.allOut false)).report .overflowActive false) := by
  have hcond (i : Source) : v.cond i = s.cond i := congrArg (fun k : Conditions => k.recs.get i.index) hc
  refine ⟨?_, by simp [State.post], fun i hi => (cond_report_ne _ _ _ hi).trans (hcond i)⟩
  exact (cond_report_self _ _ _ _).trans (told_congr (hcond _) ht _ _)

theorem closeEpisode_closes (s : State) : Closes s (closeEpisode s) := by
  rcases Nat.eq_zero_or_pos (s.itemNat 6 37) with hgap | hgap
  · rw [closeEpisode_atOnce hgap, setRain_frame]
    exact closes_of_report rfl rfl
  · rw [closeEpisode_later hgap]
    exact closes_of_report rfl rfl

/-- What a closing hands on stands when the episode is marked. -/
theorem closes_withMark {t : State} (h : Closes s t) (r : SpillSecond) : Closes s (withMark r t) := by
  rw [withMark_frame]; exact h

/-- With a merge gap a closing moves the Episode Table, the conditions and the notice alone. -/
theorem withMark_closeEpisode_later (r : SpillSecond) (hgap : 0 < s.itemNat 6 37) : withMark r (closeEpisode s) = { s with
    episodes := (withMark r (closeEpisode s)).episodes, conditions := (withMark r (closeEpisode s)).conditions
    inbox := s.inbox ++ [.allOut false] } := by
  rw [withMark_frame, closeEpisode_later hgap]; rfl

/-- The table of an episode that has settled at once (R152). -/
theorem closeEpisode_atOnce_episodes (hgap : s.itemNat 6 37 = 0) : (closeEpisode s).episodes =
    { (closing s).settled with attn := episodeAttn (closing s).settled } := by
  rw [closeEpisode_atOnce hgap, report_episodes, post_episodes, setRain_episodes]; rfl

/-- An episode that has settled at once takes no mark. -/
theorem withMark_closeEpisode_atOnce (r : SpillSecond) (hgap : s.itemNat 6 37 = 0) :
    withMark r (closeEpisode s) = closeEpisode s :=
  withMark_idle (settled_inProgress _) (closeEpisode_atOnce_episodes hgap)

/-- What the settlement at once moves of the part that no notice reaches. -/
theorem closeEpisode_atOnce_plant (hgap : s.itemNat 6 37 = 0) : (closeEpisode s).plant =
    { s.plant with rain := rainAfter s, episodes := (closeEpisode s).episodes } := by
  rw [closeEpisode_atOnce_episodes hgap, closeEpisode_atOnce hgap, report_plant, post_plant, setRain_plant]; rfl

section
variable {i : Fin 16} {e : Episode} (hi : s.episodes.inProgress = .slot i) (he : s.episodes.slots.get i = some e)
include hi he

/-- The slot of an episode that is CLOSING for the merge gap, with its mark (R145, R150). -/
theorem slotBecomes_closing (r : SpillSecond) (hgap : 0 < s.itemNat 6 37) :
    SlotBecomes { s.episodes with mergeTimer := some (s.itemNat 6 37 * 1000) } (withMark r (closeEpisode s)).episodes i
      { e with state := .closing, finish := some s.clock.time, tally := marked r e.tally } := by
  refine slotBecomes_withMark (e := { e with state := .closing, finish := some s.clock.time }) ?_ hi
  rw [closeEpisode_later hgap, closing, setProgress_slot _ _ hi he]
  exact slotBecomes_setSlot _ i _ _

/-- The slot of an episode that has settled at once (R150, R152). -/
theorem slotBecomes_closed (hgap : s.itemNat 6 37 = 0) :
    SlotBecomes { s.episodes with mergeTimer := none, inProgress := .none } (closeEpisode s).episodes i
      { e with state := .closed, finish := some s.clock.time } := by
  rw [closeEpisode_atOnce_episodes hgap, closing, setProgress_slot _ _ hi he,
    settled_slot (t := s.episodes.setSlot i _) hi (setSlot_get_self _ _ _), setSlot_setSlot]
  exact slotBecomes_setSlot { s.episodes with mergeTimer := none, inProgress := .none } i _ _

end

section
variable {p : AccProgress} (hi : s.episodes.inProgress = .accumulator) (hp : s.episodes.acc.current = some p)
include hi hp

/-- The accumulator with its episode CLOSING for the merge gap, and its mark (R145, R150). -/
theorem accumulator_closing (r : SpillSecond) (hgap : 0 < s.itemNat 6 37) : (withMark r (closeEpisode s)).episodes =
    { s.episodes with
      acc := { s.episodes.acc with
        current := some { p with closing := true, finish := some s.clock.time }, tally := marked r s.episodes.acc.tally }
      mergeTimer := some (s.itemNat 6 37 * 1000)
      attn := (withMark r (closeEpisode s)).episodes.attn } := by
  have hclose : (closeEpisode s).episodes = { s.episodes with
      acc := { s.episodes.acc with current := some { p with closing := true, finish := some s.clock.time } }
      mergeTimer := some (s.itemNat 6 37 * 1000)
      attn := (closeEpisode s).episodes.attn } := by
    rw [closeEpisode_later hgap, closing, setProgress_accumulator _ _ hi hp]; rfl
  have hmark := withMark_accumulator (r := r) (s := closeEpisode s) (by rw [hclose]; exact hi)
  rw [hclose] at hmark
  exact hmark

/-- The accumulator with its episode settled at once (R150, R152). -/
theorem accumulator_closed (hgap : s.itemNat 6 37 = 0) : (closeEpisode s).episodes =
    { s.episodes with
      acc := { s.episodes.acc with current := none, latest := s.clock.time }
      inProgress := .none
      mergeTimer := none
      attn := (closeEpisode s).episodes.attn } := by
  have hsettled : (closing s).settled = { s.episodes with
      acc := { s.episodes.acc with current := none, latest := s.clock.time }, mergeTimer := none, inProgress := .none } := by
    rw [closing, setProgress_accumulator _ _ hi hp]
    exact settled_accumulator (last := s.clock.time) hi rfl rfl
  rw [closeEpisode_atOnce_episodes hgap, hsettled]

end

/-! ## The resumption (R151) -/

/-- An episode that is OPEN in the table resumed. -/
theorem resumeEpisode_eq (h : s.episodes.resumed.progressState = some .opened) : resumeEpisode s =
    ((s.setEpisodes s.episodes.resumed).post (.allOut true)).report .overflowActive true
      (some (.serial s.episodes.resumed.progressSerial)) :=
  reportOverflow_open (beq_iff_eq.2 h)

/-- What a resumption hands on, and the second after it (R151). -/
theorem resumeEpisode_resumes (h : s.episodes.resumed.progressState = some .opened) (f : Tally → Tally) :
    Resumes s ((resumeEpisode s).modProgress f) s.episodes.resumed.progressSerial := by
  rw [resumeEpisode_eq h]
  exact ⟨cond_report_self _ _ _ _, fun i hi => cond_report_ne _ _ _ hi, rfl⟩

/-- The slot of an episode that is resumed, with the second after it (R151). -/
theorem slotBecomes_resumed {i : Fin 16} {e : Episode} (hi : s.episodes.inProgress = .slot i)
    (he : s.episodes.slots.get i = some e) (f : Tally → Tally) :
    Resumes s ((resumeEpisode s).modProgress f) e.serial ∧
    SlotBecomes { s.episodes with mergeTimer := none } ((resumeEpisode s).modProgress f).episodes i
      { e with state := .opened, finish := none, merges := min 255 (e.merges + 1), tally := f e.tally } := by
  let opened : Episode := { e with state := .opened, finish := none, merges := min 255 (e.merges + 1) }
  have hresumed := resumed_slot hi he
  have hrecord : s.episodes.resumed.slots.get i = some opened := by rw [hresumed]; exact setSlot_get_self _ _ _
  have hplace : s.episodes.resumed.inProgress = .slot i := by rw [hresumed]; exact hi
  have hopen : s.episodes.resumed.progressState = some .opened := progressState_slot hplace hrecord
  have hserial : s.episodes.resumed.progressSerial = e.serial := by
    unfold EpisodeTable.progressSerial; rw [hplace]; dsimp only; rw [hrecord]
  refine ⟨hserial ▸ resumeEpisode_resumes hopen f, ?_⟩
  refine slotBecomes_modProgress (t := { s.episodes with mergeTimer := none }) (e := opened) ?_ hi f
  rw [resumeEpisode_eq hopen, hresumed]
  exact slotBecomes_setSlot { s.episodes with mergeTimer := none } i _ _

/-- The accumulator with its episode resumed, and the second after it (R151). -/
theorem accumulator_resumed {p : AccProgress} (hi : s.episodes.inProgress = .accumulator)
    (hp : s.episodes.acc.current = some p) (f : Tally → Tally) :
    Resumes s ((resumeEpisode s).modProgress f) s.episodes.acc.lastSerial ∧
    ((resumeEpisode s).modProgress f).episodes = { s.episodes with
      acc := { s.episodes.acc with
        merges := min 65535 (s.episodes.acc.merges + 1), current := some { p with closing := false, finish := none }
        tally := f s.episodes.acc.tally }
      mergeTimer := none
      attn := ((resumeEpisode s).modProgress f).episodes.attn } := by
  have hresumed := resumed_accumulator hi hp
  have hplace : s.episodes.resumed.inProgress = .accumulator := by rw [hresumed]; exact hi
  have hopen : s.episodes.resumed.progressState = some .opened := by
    rw [progressState_accumulator (p := { p with closing := false, finish := none }) hplace (by rw [hresumed])]; rfl
  have hserial : s.episodes.resumed.progressSerial = s.episodes.acc.lastSerial := by
    unfold EpisodeTable.progressSerial; rw [hplace, hresumed]
  refine ⟨hserial ▸ resumeEpisode_resumes hopen f, ?_⟩
  have hwritten : (resumeEpisode s).episodes =
      { s.episodes.resumed with attn := (resumeEpisode s).episodes.attn } := by rw [resumeEpisode_eq hopen]; rfl
  rw [State.modProgress, modProgress_accumulator f (by rw [hwritten]; exact hplace), hwritten, hresumed]; rfl

end

end Sys2Proof.Machine

open Sys2Proof Sys2Proof.Machine

/-- Settles O37, by what a second makes of the table and, for a closing and a resumption, by the record in its slot or in the
accumulator. -/
theorem spillSecondMovesTheEpisode : Obligations.SpillSecondMovesTheEpisode := by
  refine ⟨addSecond_eq, fun s => ⟨causeTags_power s, causeTags_shortfall s, causeTags_screen s, causeTags_sensor s,
    causeTags_override s, ?_, ?_⟩, fun s r => ⟨?_, ?_, ?_, ?_, ?_, ?_⟩⟩
  · rw [← uncaused_iff, causeTags_capacity]; simp
  · rw [← uncaused_iff, causeTags_lag]; simp
  · intro hnow hq hi
    rw [takeSecond_begins hq hnow (.inl (progressState_none hi)), beginQualification, addFlags_clockUnset]; rfl
  · intro a hnow hq ha
    rw [takeSecond_pending hnow (if_pos hq), State.modPending, ha]; rfl
  · intro hbefore hnow hq hr
    rw [takeSecond_dry hnow, if_pos hbefore, takeEnded_qualifying hq, withMark_unchanged hr]; rfl
  · intro hbefore hnow hr
    rw [takeSecond_marks hbefore hnow, withMark_unchanged hr]
  · intro i e hq hi he
    have hstate : s.episodes.progressState = some e.state := progressState_slot hi he
    refine ⟨fun hnow hst => ?_, fun _ hnow hst => ?_, fun hbefore hnow _ => ?_, fun hbefore hnow hst => ?_⟩
    · rw [takeSecond_opened hq hnow (hst ▸ hstate)]
      exact ⟨rfl, slotBecomes_modProgress (slotBecomes_itself he) hi _⟩
    · rw [takeSecond_resumes hq hnow (hst ▸ hstate)]
      exact slotBecomes_resumed hi he _
    · rw [takeSecond_marks hbefore hnow]
      exact ⟨withMark_frame r s, slotBecomes_withMark (slotBecomes_itself he) hi⟩
    · rw [takeSecond_closes hq hbefore hnow (hst ▸ hstate)]
      refine ⟨closes_withMark (closeEpisode_closes s) r, fun hgap =>
        ⟨withMark_closeEpisode_later r hgap, slotBecomes_closing hi he r hgap⟩, fun hgap => ?_⟩
      rw [withMark_closeEpisode_atOnce r hgap]
      exact ⟨closeEpisode_atOnce_plant hgap, slotBecomes_closed hi he hgap⟩
  · intro p hq hi hp
    have hopened (h : p.closing = false) : s.episodes.progressState = some .opened := by
      rw [progressState_accumulator hi hp, h]; rfl
    have hclosing (h : p.closing = true) : s.episodes.progressState = some .closing := by
      rw [progressState_accumulator hi hp, h]; rfl
    refine ⟨fun hnow hc => ?_, fun _ hnow hc => ?_, fun hbefore hnow _ => ?_, fun hbefore hnow hc => ?_⟩
    · rw [takeSecond_opened hq hnow (hopened hc), State.modProgress, modProgress_accumulator _ hi]; rfl
    · rw [takeSecond_resumes hq hnow (hclosing hc)]
      exact accumulator_resumed hi hp _
    · rw [takeSecond_marks hbefore hnow, ← withMark_accumulator hi]
      exact withMark_frame r s
    · rw [takeSecond_closes hq hbefore hnow (hopened hc)]
      refine ⟨closes_withMark (closeEpisode_closes s) r, fun hgap => ?_, fun hgap => ?_⟩
      · rw [← accumulator_closing hi hp r hgap]
        exact withMark_closeEpisode_later r hgap
      · rw [withMark_closeEpisode_atOnce r hgap, ← accumulator_closed hi hp hgap]
        exact closeEpisode_atOnce_plant hgap
end

section
/-! PROOFS. The integration: the judgement of the spill, the second it makes, and the report of RATING_EXCEEDED (R126 to
R133). -/

namespace Sys2Proof.Machine

open Sys2Proof.Spec

/-! ## What a spill second moves of the part that no notice reaches -/

/-- Of what no notice reaches, the rain, the pending accumulation and the Episode Table alone have moved. -/
def SecondMoves (s t : State) : Prop :=
  t.plant = { s.plant with
    rain := t.rain, spill := { s.spill with accumulation := t.spill.accumulation }, episodes := t.episodes }

theorem SecondMoves.trans {s t u : State} (hst : SecondMoves s t) (htu : SecondMoves t u) : SecondMoves s u := by
  have hspill : t.spill = { s.spill with accumulation := t.spill.accumulation } := congrArg Plant.spill hst
  unfold SecondMoves at *
  rw [htu, hst, hspill]

/-- The sources and the notices are no part of it. -/
theorem SecondMoves.of_plant {s t u : State} (h : SecondMoves s t) (hu : u.plant = t.plant) : SecondMoves s u := by
  have hrain : u.rain = t.rain := congrArg Plant.rain hu
  have hspill : u.spill = t.spill := congrArg Plant.spill hu
  have hepisodes : u.episodes = t.episodes := congrArg Plant.episodes hu
  unfold SecondMoves
  rw [hu, hrain, hspill, hepisodes]
  exact h

theorem secondMoves_closeEpisode (s : State) : SecondMoves s (closeEpisode s) := by
  rcases Nat.eq_zero_or_pos (s.itemNat 6 37) with hgap | hgap
  · rw [closeEpisode_atOnce hgap, setRain_frame]; exact rfl
  · rw [closeEpisode_later hgap]; exact rfl

theorem secondMoves_resumeEpisode (s : State) : SecondMoves s (resumeEpisode s) :=
  SecondMoves.of_plant (t := s.setEpisodes s.episodes.resumed) rfl ((reportOverflow_plant _).trans (post_plant _ _))

theorem secondMoves_takeEnded (s : State) : SecondMoves s (takeEnded s) := by
  unfold takeEnded
  split
  · exact rfl
  · split
    · exact secondMoves_closeEpisode s
    · exact rfl

theorem secondMoves_withMark (r : SpillSecond) (s : State) : SecondMoves s (withMark r s) := by
  rw [withMark_frame]; exact rfl

theorem secondMoves_takeSecond (r : SpillSecond) (s : State) : SecondMoves s (takeSecond r s) := by
  cases hnow : r.now with
  | true =>
    cases hq : s.episodes.qualifying with
    | true => rw [takeSecond_pending hnow (if_pos hq)]; rfl
    | false =>
      rcases hstate : s.episodes.progressState with _ | _ | _ | _
      · rw [takeSecond_begins hq hnow (.inl hstate)]; rfl
      · rw [takeSecond_opened hq hnow hstate]; rfl
      · rw [takeSecond_resumes hq hnow hstate]; exact (secondMoves_resumeEpisode s).trans rfl
      · rw [takeSecond_begins hq hnow (.inr hstate)]; rfl
  | false =>
    rw [takeSecond_dry hnow]
    split
    · exact (secondMoves_takeEnded s).trans (secondMoves_withMark r _)
    · exact secondMoves_withMark r s

/-! ## The judgement of the spill (R126 to R132) -/

/-- The Spill Meter after the judgement of an integration, the second not yet taken. -/
def spillJudged (s : State) : Spill :=
  { s.spill with rating := s.store.working.rating, integrationTimer := some 1000 }.judge
    (s.item 6 34) (s.item 6 35) (flowOf (s.item 6 38))

section
variable {s : State}

/-- With IN usable the head judges (R126 to R131). -/
theorem spillJudged_head {level : Int} (hu : s.spill.report.usable = true) (hl : s.spill.report.level = some level) :
    let rating := s.store.working.rating
    let head := level - s.item 6 0
    let spills := spillsByHead (s.item 6 34) (s.item 6 35) head (s.spill.spilling || s.spill.fromSpilling)
    spillJudged s = { s.spill with
      rating := rating, integrationTimer := some 1000, head := some head, rated := some (rating.flow head)
      held := rating.flow head, above := decide (rating.lastHead < head), spilling := spills, fromSpilling := false
      basis := .head, flowUsed := if spills = true then rating.flow head else 0 } := by
  have hknown : s.spill.report.known = some level := by rw [ChannelReport.known, if_pos hu, hl]
  intro rating head spills
  unfold spillJudged Spill.judge
  dsimp only
  rw [hknown]
  rfl

/-- With no level the probe judges (R126, R132). -/
theorem spillJudged_probe (hknown : s.spill.report.known = none) :
    spillJudged s = { s.spill with
      rating := s.store.working.rating, integrationTimer := some 1000, head := none, rated := none
      spilling := s.spill.spWet, fromSpilling := false, basis := .probe
      flowUsed := if s.spill.spWet = true then
        (if 0 < s.spill.held then s.spill.held else flowOf (s.item 6 38)) else 0 } := by
  unfold spillJudged Spill.judge
  dsimp only
  rw [hknown]

/-- What is so of the Spill Meter whatever judges (R126, R127, R139). -/
theorem spillJudged_keeps (s : State) :
    (spillJudged s).rating = s.store.working.rating ∧ (spillJudged s).report = s.spill.report ∧
    (spillJudged s).spWet = s.spill.spWet ∧ (spillJudged s).integrationTimer = some 1000 ∧
    (spillJudged s).fromSpilling = false ∧ (spillJudged s).accumulation = s.spill.accumulation := by
  unfold spillJudged Spill.judge
  split <;> exact ⟨rfl, rfl, rfl, rfl, rfl, rfl⟩

/-! ## The integration (R126, R130, R133) -/

/-- The integration has the Episode Table take its second, and reports a change of above rating (R130, R133). -/
theorem integrate_eq (s : State) : integrate s =
    let u := takeSecond (secondOf s (spillJudged s)) { s with spill := spillJudged s }
    if (spillJudged s).above = s.spill.above then u else u.report .ratingExceeded (spillJudged s).above := by
  have hchanged : (s.store.working.rating != s.spill.rating) = decide (s.store.working.rating ≠ s.spill.rating) := by
    rw [bne, Bool.eq_iff_iff]; simp
  unfold integrate secondOf
  rw [← hchanged]
  rfl

/-- RATING_EXCEEDED as a state leaves it (R130). -/
theorem ratingReported (above was : Bool) (u : State) :
    RatingReported above was u (if above = was then u else u.report .ratingExceeded above) := by
  unfold RatingReported
  split
  · exact ⟨rfl, fun _ _ => rfl, rfl⟩
  · exact ⟨rfl, fun i hi => cond_report_ne _ _ _ hi, cond_report_self _ _ _ _⟩

/-- What an integration and its notices leave of the part that no notice reaches. -/
theorem settle_integrate_plant (s : State) : (settle (integrate s)).plant = { s.plant with
    rain := (settle (integrate s)).rain
    spill := { spillJudged s with accumulation := (settle (integrate s)).spill.accumulation }
    episodes := (settle (integrate s)).episodes } := by
  have hsecond := secondMoves_takeSecond (secondOf s (spillJudged s)) { s with spill := spillJudged s }
  have hmoves : SecondMoves { s with spill := spillJudged s } (settle (integrate s)) := by
    refine hsecond.of_plant ((settle_plant _).trans ?_)
    rw [integrate_eq]
    dsimp only
    split <;> rfl
  exact hmoves

theorem settle_integrate_spill (s : State) : (settle (integrate s)).spill =
    { spillJudged s with accumulation := (settle (integrate s)).spill.accumulation } :=
  congrArg Plant.spill (settle_integrate_plant s)

theorem exec_integrationTimerExpiry (hp : s.power = .on) (h : s.spill.integrationTimer.isSome = true) :
    exec .integrationTimerExpiry s = .next (settle (integrate s)) := by
  rw [show exec .integrationTimerExpiry s = execIntegrationTimerExpiry s from rfl, execIntegrationTimerExpiry,
    powered_on _ _ hp, if_pos h]

end

end Sys2Proof.Machine

open Sys2Proof Sys2Proof.Machine

/-- Settles O34: the judgement by the head or by the probe, and the second handed on with RATING_EXCEEDED after it. -/
theorem integrationJudgesTheSpill : Obligations.IntegrationJudgesTheSpill := by
  intro s hp htimer before rating
  have hplant := settle_integrate_plant s
  have hspill := settle_integrate_spill s
  obtain ⟨hrating, hreport, hwet, hperiod, hfrom, haccumulation⟩ := spillJudged_keeps s
  have hjudged : { (settle (integrate s)).spill with accumulation := s.spill.accumulation } = spillJudged s := by
    rw [hspill, ← haccumulation]
  refine ⟨_, exec_integrationTimerExpiry hp htimer, (congrArg Spill.rating hspill).trans hrating,
    (congrArg Spill.report hspill).trans hreport, (congrArg Spill.spWet hspill).trans hwet,
    (congrArg Spill.integrationTimer hspill).trans hperiod, (congrArg Spill.fromSpilling hspill).trans hfrom,
    congrArg Plant.store hplant, congrArg Plant.clock hplant, congrArg Plant.contacts hplant,
    congrArg Plant.channels hplant, congrArg Plant.supply hplant, congrArg Plant.line hplant,
    congrArg Plant.authority hplant, fun level hu hl => ?_, fun hu => ?_, spillJudged s, integrate s, hjudged.symm, rfl, ?_⟩
  · rw [hspill, spillJudged_head hu hl]
    exact ⟨rfl, rfl, rfl, rfl, rfl, rfl, rfl⟩
  · rw [hspill, spillJudged_probe (if_neg (Bool.eq_false_iff.1 hu))]
    exact ⟨rfl, rfl, rfl, rfl, rfl, rfl, rfl⟩
  · rw [integrate_eq]
    exact ratingReported _ _ _
end

section
/-! PROOFS. RETIRE_EPISODE and RETIRE_ACCUMULATOR, judged in the order of R153 and R154. -/

namespace Sys2Proof.Machine

open Sys2Proof.Spec

/-! ## The record a request names (R153) -/

section
variable {t : EpisodeTable}

theorem named_past {n : Nat} (h : 15 < n) : t.named n = none := by
  rw [EpisodeTable.named, slotOf, dif_neg (by omega)]; rfl

theorem named_slot (t : EpisodeTable) (i : Fin 16) : t.named i = (t.slots.get i).map fun e => (i, e) := by
  rw [EpisodeTable.named, slotOf, dif_pos i.isLt]; rfl

theorem named_free {i : Fin 16} (h : t.slots.get i = none) : t.named i = none := by rw [named_slot, h]; rfl

theorem named_occupied {i : Fin 16} {e : Episode} (h : t.slots.get i = some e) : t.named i = some (i, e) := by
  rw [named_slot, h]; rfl

/-- A table with a FREE slot is not full (R155). -/
theorem full_of_free {i : Fin 16} (h : t.slots.get i = none) : t.full = false := by
  refine Bool.eq_false_iff.2 fun hfull => ?_
  have hi := (full_iff t).1 hfull i
  rw [h] at hi
  exact absurd hi (by decide)

end

/-! ## RETIRE_EPISODE (R153) -/

/-- The state with a slot FREE and EPISODE_TABLE_FULL reported as the slots then stand. -/
def slotFreed (i : Fin 16) (s : State) : State := reportFull (s.setEpisodes (s.episodes.setSlot i none))

section
variable {s : State} {n serial : Nat}

theorem retireEpisode_unnamed (h : s.episodes.named n = none) : retireEpisode n serial s = .refuse s .badIndex := by
  rw [retireEpisode, h]

variable {i : Fin 16} {e : Episode} (h : s.episodes.named n = some (i, e))
include h

theorem retireEpisode_stale (hserial : serial ≠ e.serial) : retireEpisode n serial s = ⟨s, .stale, word e.serial⟩ := by
  rw [retireEpisode, h]; exact if_pos hserial

theorem retireEpisode_notSettled (hserial : serial = e.serial) (hstate : e.state ≠ .closed) :
    retireEpisode n serial s = .refuse s .notSettled := by
  rw [retireEpisode, h]; exact (if_neg (not_not.2 hserial)).trans (if_pos hstate)

theorem retireEpisode_frees (hserial : serial = e.serial) (hstate : e.state = .closed) :
    retireEpisode n serial s = .done (slotFreed i s) := by
  rw [retireEpisode, h]; exact (if_neg (not_not.2 hserial)).trans (if_neg (not_not.2 hstate))

end

section
variable (i : Fin 16) (s : State)

/-- A FREE slot leaves EPISODE_TABLE_FULL inactive (R155). -/
theorem slotFreed_notFull : ((slotFreed i s).cond .episodeTableFull).active = false := by
  rw [slotFreed, reportFull, cond_report_self, told, CondRec.takeReport_active]
  exact full_of_free (setSlot_get_self s.episodes i none)

theorem slotFreed_cond {c : Source} (h : c ≠ .episodeTableFull) : (slotFreed i s).cond c = s.cond c := cond_report_ne _ _ _ h

end

/-! ## RETIRE_ACCUMULATOR (R154) -/

section
variable {s : State}

theorem retireAccumulator_stale {count : Nat} (h : count ≠ s.episodes.acc.count) :
    retireAccumulator count s = ⟨s, .stale, word s.episodes.acc.count⟩ := if_pos h

theorem retireAccumulator_notSettled (h : s.episodes.acc.current.isSome = true) :
    retireAccumulator s.episodes.acc.count s = .refuse s .notSettled := (if_neg (not_not.2 rfl)).trans (if_pos h)

theorem retireAccumulator_empties (h : s.episodes.acc.current = none) :
    retireAccumulator s.episodes.acc.count s = .done (s.setEpisodes { s.episodes with acc := .empty }) :=
  (if_neg (not_not.2 rfl)).trans (if_neg (by rw [h]; decide))

end

end Sys2Proof.Machine

open Sys2Proof Sys2Proof.Machine

/-- Settles O41, judgement by judgement: each test of R153 and R154 once those before it have passed, and the table that a
retirement leaves. -/
theorem retirementFreesTheRecord : Obligations.RetirementFreesTheRecord := by
  intro s hs
  refine ⟨fun n serial hn => ?_, fun i serial hi => ?_, fun i e serial hi => ⟨fun hserial => ?_, fun hserial hstate => ?_,
    fun hserial hstate => ?_⟩, fun count hcount => ?_, fun hcurrent => ?_, fun hcurrent => ?_⟩
  · exact addressed_reply hs (retireEpisode_unnamed (named_past hn)) hs.inbox_eq
  · exact addressed_reply hs (retireEpisode_unnamed (named_free hi)) hs.inbox_eq
  · exact addressed_reply hs (retireEpisode_stale (named_occupied hi) hserial) hs.inbox_eq
  · exact addressed_reply hs (retireEpisode_notSettled (named_occupied hi) hserial hstate) hs.inbox_eq
  · refine ⟨slotFreed i s.heard, addressed_reply hs (retireEpisode_frees (named_occupied hi) hserial hstate) hs.inbox_eq,
      setSlot_get_self _ _ _, fun j hj => setSlot_get_ne _ _ hj, rfl, rfl, slotFreed_notFull i _,
      fun c hc => slotFreed_cond i _ hc, rfl⟩
  · exact addressed_reply hs (retireAccumulator_stale hcount) hs.inbox_eq
  · exact addressed_reply hs (retireAccumulator_notSettled hcurrent) hs.inbox_eq
  · exact ⟨_, addressed_reply hs (retireAccumulator_empties hcurrent) hs.inbox_eq, rfl, rfl, rfl⟩
end

section
/-! PROOFS. What the law of the serials reads, and the next serial value (R148). -/

namespace Sys2Proof.Machine

/-! ## The ledger of the serials -/

/-- What the law of the serials reads of an Episode Table: the serial counter, and the serial in each slot (R148). -/
structure Ledger where
  counter : Nat
  held : Fin 16 → Option Nat

/-- A table's ledger. -/
def EpisodeTable.ledger (t : EpisodeTable) : Ledger := ⟨t.serialCounter, fun i => (t.slots.get i).map (·.serial)⟩

/-- The ledger of a part's table. -/
def Plant.ledger (p : Plant) : Ledger := p.episodes.ledger

/-- R148: the counter is a serial value, and the serials in the slots are distinct and not 0. -/
structure Ledger.Lawful (l : Ledger) : Prop where
  counter : 1 ≤ l.counter ∧ l.counter ≤ 65535
  ne_zero : ∀ i n, l.held i = some n → n ≠ 0
  distinct : ∀ i j n, l.held i = some n → l.held j = some n → i = j

theorem held_iff {t : EpisodeTable} {i : Fin 16} {n : Nat} :
    t.ledger.held i = some n ↔ ∃ e, t.slots.get i = some e ∧ e.serial = n := Option.map_eq_some_iff

/-- The law of the serials is a law of the ledger. -/
theorem serialsLawful_iff (s : State) : s.SerialsLawful ↔ s.plant.ledger.Lawful := by
  constructor
  · rintro ⟨hcounter, hzero, hdistinct⟩
    refine ⟨hcounter, fun i n hi => ?_, fun i j n hi hj => ?_⟩
    · obtain ⟨e, he, rfl⟩ := held_iff.1 hi
      exact hzero i e he
    · obtain ⟨e, he, rfl⟩ := held_iff.1 hi
      obtain ⟨f, hf, hef⟩ := held_iff.1 hj
      exact hdistinct i j e f he hf hef.symm
  · rintro ⟨hcounter, hzero, hdistinct⟩
    exact ⟨hcounter, fun i e he => hzero i _ (held_iff.2 ⟨e, he, rfl⟩),
      fun i j e f he hf hef => hdistinct i j _ (held_iff.2 ⟨e, he, rfl⟩) (held_iff.2 ⟨f, hf, hef.symm⟩)⟩

theorem State.SerialsLawful.of_ledger {s t : State} (hs : s.SerialsLawful) (h : t.plant.ledger = s.plant.ledger) :
    t.SerialsLawful := by
  rw [serialsLawful_iff] at hs ⊢
  rwa [h]

/-- A table with nothing in it keeps the law (R159). -/
theorem blank_ledger_lawful : EpisodeTable.blank.ledger.Lawful := by
  have hfree (i : Fin 16) : EpisodeTable.blank.ledger.held i = none := by
    show ((Vector.replicate 16 none).get i).map Episode.serial = none
    rw [show (Vector.replicate 16 (none : Option Episode)).get i = none from Vector.getElem_replicate i.isLt]; rfl
  refine ⟨by decide, fun i n h => ?_, fun i j n h => ?_⟩ <;> (rw [hfree] at h; cases h)

/-! ## A slot written -/

theorem setSlot_ledger (t : EpisodeTable) (i : Fin 16) (e : Option Episode) :
    (t.setSlot i e).ledger = { t.ledger with held := Function.update t.ledger.held i (e.map (·.serial)) } := by
  refine congrArg (Ledger.mk t.serialCounter) (funext fun j => ?_)
  by_cases hj : j = i
  · subst hj
    rw [setSlot_get_self, Function.update_self]
  · rw [setSlot_get_ne _ _ hj, Function.update_of_ne hj]; rfl

/-- A record changed in its slot with its serial as it was. -/
theorem setSlot_map_ledger (t : EpisodeTable) (i : Fin 16) {f : Episode → Episode} (hf : ∀ e, (f e).serial = e.serial) :
    (t.setSlot i ((t.slots.get i).map f)).ledger = t.ledger := by
  have hserial : ((t.slots.get i).map f).map Episode.serial = t.ledger.held i :=
    (Option.map_map ..).trans (congrArg (Option.map · _) (funext hf))
  rw [setSlot_ledger, hserial, Function.update_eq_self]

/-- A slot that is freed, or that takes a serial which is not 0 and which no other slot holds. -/
theorem Ledger.Lawful.update {l : Ledger} (h : l.Lawful) (i : Fin 16) {e : Option Nat}
    (he : ∀ n, e = some n → n ≠ 0 ∧ ∀ j, l.held j ≠ some n) :
    ({ l with held := Function.update l.held i e } : Ledger).Lawful := by
  have hself (n : Nat) (hi : Function.update l.held i e i = some n) := he n (by rwa [Function.update_self] at hi)
  have hother {j : Fin 16} {n : Nat} (hj : Function.update l.held i e j = some n) (hne : j ≠ i) : l.held j = some n := by
    rwa [Function.update_of_ne hne] at hj
  refine ⟨h.counter, fun j n hj => ?_, fun j k n hj hk => ?_⟩
  · by_cases hji : j = i
    · exact (hself n (hji ▸ hj)).1
    · exact h.ne_zero j n (hother hj hji)
  · by_cases hji : j = i <;> by_cases hki : k = i
    · exact hji.trans hki.symm
    · exact absurd (hother hk hki) ((hself n (hji ▸ hj)).2 k)
    · exact absurd (hother hj hji) ((hself n (hki ▸ hk)).2 j)
    · exact h.distinct j k n (hother hj hji) (hother hk hki)

/-! ## The next serial value -/

/-- Serial values run from 1 to 65535 and round again. -/
theorem nextSerial_eq {n : Nat} (h : 1 ≤ n ∧ n ≤ 65535) : nextSerial n = n % 65535 + 1 := by
  unfold nextSerial
  split <;> omega

theorem nextSerial_range {n : Nat} (h : 1 ≤ n ∧ n ≤ 65535) : 1 ≤ nextSerial n ∧ nextSerial n ≤ 65535 := by
  rw [nextSerial_eq h]; omega

/-- The serial value some places on from another. -/
def serialAfter (n k : Nat) : Nat := (n - 1 + k) % 65535 + 1

theorem serialAfter_zero {n : Nat} (h : 1 ≤ n ∧ n ≤ 65535) : serialAfter n 0 = n := by
  unfold serialAfter; omega

theorem serialAfter_succ {n : Nat} (h : 1 ≤ n ∧ n ≤ 65535) (k : Nat) :
    serialAfter n (k + 1) = serialAfter (nextSerial n) k := by
  rw [nextSerial_eq h]; unfold serialAfter; omega

/-- Fewer than 65536 values in a row are different. -/
theorem serialAfter_injective {n j k : Nat} (hj : j < 65535) (hk : k < 65535) (h : serialAfter n j = serialAfter n k) :
    j = k := by
  unfold serialAfter at h; omega

theorem holdsSerial_iff (t : EpisodeTable) (n : Nat) : t.holdsSerial n = true ↔ ∃ i, t.ledger.held i = some n := by
  unfold EpisodeTable.holdsSerial
  rw [List.any_eq_true]
  constructor
  · rintro ⟨i, -, hi⟩
    split at hi
    · next e he => exact ⟨i, held_iff.2 ⟨e, he, by simpa using hi⟩⟩
    · cases hi
  · rintro ⟨i, hi⟩
    obtain ⟨e, he, hserial⟩ := held_iff.1 hi
    exact ⟨i, mem_slotNumbers i, by rw [he]; exact beq_iff_eq.2 hserial⟩

/-! ## The first value that no slot holds -/

theorem freeSerial_range (t : EpisodeTable) (k : Nat) :
    ∀ {n : Nat}, 1 ≤ n ∧ n ≤ 65535 → 1 ≤ t.freeSerial k n ∧ t.freeSerial k n ≤ 65535 := by
  induction k with
  | zero => exact id
  | succ k ih =>
    intro n h
    unfold EpisodeTable.freeSerial
    split
    · exact ih (nextSerial_range h)
    · exact h

/-- A search whose value is held after all has found every value that it tried held. -/
theorem held_of_freeSerial_held (t : EpisodeTable) (k : Nat) : ∀ {n : Nat}, 1 ≤ n ∧ n ≤ 65535 →
    t.holdsSerial (t.freeSerial k n) = true → ∀ j, j < k → t.holdsSerial (serialAfter n j) = true := by
  induction k with
  | zero => exact fun _ _ _ hj => absurd hj (Nat.not_lt_zero _)
  | succ k ih =>
    intro n h hheld j hj
    unfold EpisodeTable.freeSerial at hheld
    have hn : t.holdsSerial n = true := by
      split at hheld <;> assumption
    rw [if_pos hn] at hheld
    cases j with
    | zero => rw [serialAfter_zero h]; exact hn
    | succ j => rw [serialAfter_succ h]; exact ih (nextSerial_range h) hheld j (by omega)

/-- Sixteen slots hold sixteen serials at most, so seventeen trials find a value that none holds (R148). -/
theorem serialOf_unheld {t : EpisodeTable} (h : 1 ≤ t.serialCounter ∧ t.serialCounter ≤ 65535) (i : Fin 16) :
    t.ledger.held i ≠ some (serialOf t) := by
  intro hi
  have htried (j : Fin 17) : ∃ i, t.ledger.held i = some (serialAfter t.serialCounter j) :=
    (holdsSerial_iff _ _).1 (held_of_freeSerial_held t 17 h ((holdsSerial_iff _ _).2 ⟨i, hi⟩) j j.isLt)
  choose slot hslot using htried
  obtain ⟨j, k, hjk, hsame⟩ := Fintype.exists_ne_map_eq_of_card_lt slot (by simp)
  have hserial := (hslot j).symm.trans ((congrArg t.ledger.held hsame).trans (hslot k))
  exact hjk (Fin.ext (serialAfter_injective (n := t.serialCounter) (by omega) (by omega) (Option.some.inj hserial)))

end Sys2Proof.Machine
end

section
/-! PROOFS. What the blocks make of the serials: every operation but an opening and a retirement leaves the ledger as it is
(R143 to R152, R158). -/

namespace Sys2Proof.Machine

/-! ## The Episode Table's own operations -/

section
variable (t : EpisodeTable)

@[simp] theorem modProgress_ledger (f : Tally → Tally) : (t.modProgress f).ledger = t.ledger := by
  unfold EpisodeTable.modProgress
  split
  · rfl
  · exact setSlot_map_ledger t _ fun _ => rfl
  · rfl

@[simp] theorem setProgress_ledger (closing : Bool) (finish : Option Nat) :
    (t.setProgress closing finish).ledger = t.ledger := by
  unfold EpisodeTable.setProgress
  split
  · rfl
  · exact setSlot_map_ledger t _ fun _ => rfl
  · rfl

@[simp] theorem countMerge_ledger : t.countMerge.ledger = t.ledger := by
  unfold EpisodeTable.countMerge
  split
  · rfl
  · exact setSlot_map_ledger t _ fun _ => rfl
  · rfl

@[simp] theorem settled_ledger : t.settled.ledger = t.ledger := by
  unfold EpisodeTable.settled
  dsimp only
  split
  · rfl
  · exact setSlot_map_ledger t _ fun _ => rfl
  · rfl

@[simp] theorem resumed_ledger : t.resumed.ledger = t.ledger :=
  (countMerge_ledger _).trans (setProgress_ledger t false none)

/-- A warm restart marks and settles; it moves no serial (R158). -/
@[simp] theorem rewarmed_ledger (gap : Nat) : (t.rewarmed gap).ledger = t.ledger := by
  have hmarked := modProgress_ledger t.kept (Tally.addFlags { RecordFlags.empty with interrupted := true })
  rw [rewarmed_eq, EpisodeTable.mergedAgain]
  split
  · split
    · exact (settled_ledger _).trans hmarked
    · exact hmarked
  · exact hmarked

end

/-! ## Rain, episodes and spills -/

section
variable (s : State)

theorem setEpisodes_ledger (t : EpisodeTable) : (s.setEpisodes t).plant.ledger = t.ledger := rfl

@[simp] theorem modProgress_plant_ledger (f : Tally → Tally) : (s.modProgress f).plant.ledger = s.plant.ledger :=
  modProgress_ledger _ f

@[simp] theorem setRain_ledger (r : Rain) : (setRain r s).plant.ledger = s.plant.ledger := by rw [setRain_plant]; rfl

@[simp] theorem countTip_ledger : (countTip s).plant.ledger = s.plant.ledger := by
  rw [countTip_eq, setRain_ledger]
  unfold episodeTip
  split
  · rfl
  · exact modProgress_plant_ledger s _

@[simp] theorem closeBin_ledger : (closeBin s).plant.ledger = s.plant.ledger := by rw [closeBin_eq, setRain_ledger]

@[simp] theorem dryOut_ledger : (dryOut s).plant.ledger = s.plant.ledger := by rw [dryOut_eq, setRain_ledger]

@[simp] theorem settleEpisode_ledger : (settleEpisode s).plant.ledger = s.plant.ledger := by
  rw [settleEpisode_eq, setRain_ledger, setEpisodes_ledger]; exact settled_ledger _

theorem closing_ledger : (closing s).ledger = s.plant.ledger := setProgress_ledger _ _ _

@[simp] theorem closeEpisode_ledger : (closeEpisode s).plant.ledger = s.plant.ledger := by
  rcases Nat.eq_zero_or_pos (s.itemNat 6 37) with hgap | hgap
  · rw [closeEpisode_atOnce hgap, report_plant, post_plant, setRain_ledger, setEpisodes_ledger, settled_ledger, closing_ledger]
  · rw [closeEpisode_later hgap, report_plant, post_plant, setEpisodes_ledger]; exact closing_ledger s

@[simp] theorem resumeEpisode_ledger : (resumeEpisode s).plant.ledger = s.plant.ledger := by
  unfold resumeEpisode
  dsimp only
  rw [reportOverflow_plant, post_plant, setEpisodes_ledger]
  exact resumed_ledger _

@[simp] theorem takeSpill_ledger : (takeSpill s).1.plant.ledger = s.plant.ledger := by
  unfold takeSpill
  split
  · rfl
  · split
    · rfl
    · exact resumeEpisode_ledger s
    all_goals rfl

@[simp] theorem takeEnded_ledger : (takeEnded s).plant.ledger = s.plant.ledger := by
  unfold takeEnded
  split
  · rfl
  · split
    · exact closeEpisode_ledger s
    · rfl

@[simp] theorem withMark_ledger (r : SpillSecond) : (withMark r s).plant.ledger = s.plant.ledger := by
  unfold withMark
  split
  · exact modProgress_plant_ledger s _
  · rfl

/-- A spill second opens and frees no slot (R143). -/
@[simp] theorem takeSecond_ledger (r : SpillSecond) : (takeSecond r s).plant.ledger = s.plant.ledger := by
  have hspill := takeSpill_ledger s
  by_cases hnow : r.now = true
  · unfold takeSecond
    rw [if_pos hnow]
    dsimp only
    split <;> rename_i heq <;> rw [heq] at hspill
    · exact hspill
    · exact (modProgress_plant_ledger _ _).trans hspill
    · exact hspill
  · rw [takeSecond_dry (Bool.eq_false_iff.2 hnow), withMark_ledger]
    split
    · exact takeEnded_ledger s
    · rfl

@[simp] theorem integrate_ledger : (integrate s).plant.ledger = s.plant.ledger := by
  unfold integrate
  dsimp only
  split <;> exact takeSecond_ledger _ _

/-! ## The inputs, a sample, a loss of supply -/

@[simp] theorem filterExpires_ledger (i : Input) : (filterExpires i s).plant.ledger = s.plant.ledger := by
  unfold filterExpires
  split <;> split
  · rfl
  · rw [settle_plant]; exact congrArg (fun v : Still => v.episodes.ledger) (handSwitch_still _ _ _)
  · rfl
  · rw [settle_plant, selectorChange_plant]; rfl

theorem loseSupply_ledger : (loseSupply s).plant.ledger = s.plant.ledger := by
  unfold loseSupply cutCommit
  split
  · rfl
  · split <;> rfl

@[simp] theorem sampleArrives_ledger (c : Channel) (i : Nat) : (sampleArrives c i s).plant.ledger = s.plant.ledger := by
  rw [sampleArrives_plant]; rfl

@[simp] theorem restoreExpired_ledger : (restoreExpired s).plant.ledger = s.plant.ledger :=
  congrArg (fun v : Still => v.episodes.ledger) (restoreExpired_still s)

end

/-! ## An opening, a retirement, a restart -/

section
variable {s : State} (hs : s.SerialsLawful)
include hs

/-- An opening takes a serial that no slot holds, and the counter goes on from it (R148). -/
theorem openEpisode_serialsLawful : (openEpisode s).SerialsLawful := by
  cases hp : s.spill.accumulation with
  | none => unfold openEpisode; rw [hp]; exact hs
  | some p =>
    have hlaw : s.episodes.ledger.Lawful := (serialsLawful_iff s).1 hs
    have hserial := freeSerial_range s.episodes 17 hlaw.counter
    have htaken : s.episodes.serialTaken.ledger.Lawful :=
      ⟨nextSerial_range hserial, hlaw.ne_zero, hlaw.distinct⟩
    have hledger : (openEpisode s).plant.ledger = (tableOpened s (opening s p)).ledger := by
      rw [openEpisode_frame s hp]
      show (openedBare s p).episodes.ledger = _
      rw [openedBare_episodes]; rfl
    rw [serialsLawful_iff, hledger]
    cases hfree : s.episodes.lowestFree with
    | none => rw [tableOpened_accumulator s _ hfree]; exact htaken
    | some i =>
      rw [tableOpened_slot s _ hfree]
      show (s.episodes.serialTaken.setSlot i _).ledger.Lawful
      rw [setSlot_ledger]
      refine htaken.update i fun n hn => ?_
      obtain rfl : serialOf s.episodes = n := Option.some.inj hn
      exact ⟨Nat.one_le_iff_ne_zero.1 hserial.1, serialOf_unheld hlaw.counter⟩

/-- A slot that is freed drops its serial (R153). -/
theorem slotFreed_serialsLawful (i : Fin 16) : (slotFreed i s).SerialsLawful := by
  rw [serialsLawful_iff] at hs ⊢
  show (s.episodes.setSlot i none).ledger.Lawful
  rw [setSlot_ledger]
  exact hs.update i fun n hn => by cases hn

theorem restart_serialsLawful (cause : RestartCause) : (restart cause s).SerialsLawful := by
  have hledger : (restart cause s).plant.ledger =
      (if cause == .cold then EpisodeTable.blank else
        s.episodes.rewarmed ((restartChannels (conditioned cause s)).itemNat 6 37)).ledger := by
    show (restart cause s).episodes.ledger = _
    rw [restart_episodes]; rfl
  rw [serialsLawful_iff, hledger]
  split
  · exact blank_ledger_lawful
  · rw [rewarmed_ledger]; exact (serialsLawful_iff s).1 hs

end

end Sys2Proof.Machine
end

section
/-! PROOFS. The Episode Table at the owners of the requests: none but a retirement moves it (R180). -/

namespace Sys2Proof.Machine

/-! ## The owners that move pumps, screens and conditions alone -/

/-- An owner whose answer moves nothing of the part that no notice reaches. -/
def LeavesPlant (act : State → Answer) : Prop := ∀ s, (act s).state.plant = s.plant

theorem readRecords_leavesPlant (size : Nat) (record : State → Nat → List Byte) (start count : Nat) :
    LeavesPlant fun s => readRecords size (record s) start count s := by
  intro s; unfold readRecords; dsimp only; repeat' split
  all_goals rfl

theorem readSettings_leavesPlant (table start count : Nat) : LeavesPlant (readSettings table start count) := by
  intro s; unfold readSettings; split
  · rfl
  · exact readRecords_leavesPlant _ (fun s i => signed (s.item table i)) start count s

theorem ackCondition_leavesPlant (i n : Nat) : LeavesPlant (ackCondition i n) := by
  intro s; unfold ackCondition; split <;> [rfl; (split <;> rfl)]

theorem shelve_leavesPlant (i m : Nat) : LeavesPlant (shelve i m) := by
  intro s; unfold shelve; repeat' split
  all_goals rfl

theorem unshelve_leavesPlant (i : Nat) : LeavesPlant (unshelve i) := by
  intro s; unfold unshelve; split <;> rfl

theorem pumpService_leavesPlant (b v : Nat) : LeavesPlant (pumpService b v) := by
  intro s; unfold pumpService; repeat' split
  all_goals simp [Answer.refuse, Answer.done]

theorem pumpForce_leavesPlant (b m : Nat) : LeavesPlant (pumpForce b m) := by
  intro s; unfold pumpForce; repeat' split
  all_goals simp [Answer.refuse, Answer.done]

theorem pumpReset_leavesPlant (b : Nat) : LeavesPlant (pumpReset b) := by
  intro s; unfold pumpReset; repeat' split
  all_goals simp [Answer.refuse, Answer.done]

theorem screenRake_leavesPlant (x : Nat) : LeavesPlant (screenRake x) := by
  intro s; unfold screenRake; repeat' split
  all_goals simp [Answer.refuse]

theorem screenInhibit_leavesPlant (x v : Nat) : LeavesPlant (screenInhibit x v) := by
  intro s; unfold screenInhibit; repeat' split
  all_goals simp [Answer.refuse, Answer.done]

theorem screenReset_leavesPlant (x : Nat) : LeavesPlant (screenReset x) := by
  intro s; unfold screenReset; repeat' split
  all_goals simp [Answer.refuse, Answer.done]

/-! ## The owners that leave the Episode Table -/

/-- An owner whose answer leaves the Episode Table as it is. -/
def LeavesTable (act : State → Answer) : Prop := ∀ s, (act s).state.plant.episodes = s.plant.episodes

theorem LeavesPlant.table {act : State → Answer} (h : LeavesPlant act) : LeavesTable act :=
  fun s => congrArg Plant.episodes (h s)

/-- A lapse, whatever the authority it drops, moves nothing of the table (R193). -/
theorem lapse_table (s : State) : (lapse s).plant.episodes = s.plant.episodes := by rw [lapse_plant]

theorem privileged_leavesTable (ans : Nat) {act : State → Answer} (h : LeavesTable act) : LeavesTable (privileged ans act) := by
  intro s
  unfold privileged
  split
  · rfl
  · rfl
  · split
    · exact h (grantAuthority s)
    · exact lapse_table (countFailure s)
  · rfl

theorem openAuthority_leavesTable : LeavesTable openAuthority := by
  intro s; unfold openAuthority; repeat' split
  all_goals rfl

theorem answerChallenge_leavesTable (v : Nat) : LeavesTable (answerChallenge v) := by
  intro s; unfold answerChallenge
  split
  · rfl
  · split <;> rfl
  · split
    · rfl
    · exact lapse_table (countFailure s)
  · rfl

theorem releaseAuthority_leavesTable : LeavesTable releaseAuthority := by
  intro s; unfold releaseAuthority
  split
  · rfl
  · rfl
  · exact lapse_table (dropAuthority s)
  · rfl

theorem restartRequest_leavesTable : LeavesTable restartRequest := by
  intro s; unfold restartRequest; split <;> rfl

theorem commitSettings_leavesTable : LeavesTable commitSettings := by
  intro s; unfold commitSettings; split <;> rfl

theorem clearChannel_leavesTable (i : Nat) : LeavesTable (clearChannel i) := by
  intro s; unfold clearChannel; split <;> [rfl; (split <;> rfl)]

theorem writeEffects_table (table item : Nat) (s : State) :
    (writeEffects table item s).plant.episodes = s.plant.episodes := by
  unfold writeEffects
  split
  · split <;> rfl
  · split
    · exact congrArg Still.episodes (limitWritten_still s)
    · rfl

theorem writeItem_table (table item : Nat) (value : Int) (s : State) :
    (writeItem table item value s).state.plant.episodes = s.plant.episodes := by
  unfold writeItem
  dsimp only
  split
  · exact writeEffects_table _ _ _
  · rfl

theorem writeSetting_leavesTable (table item : Nat) (value : Int) : LeavesTable (writeSetting table item value) := by
  intro s
  unfold writeSetting
  split
  · rfl
  · split
    · rfl
    · split
      · rfl
      · exact writeItem_table _ _ _ s

/-! ## Every owner keeps the law -/

theorem LeavesTable.lawful {act : State → Answer} (h : LeavesTable act) {s : State} (hs : s.SerialsLawful) :
    (act s).state.SerialsLawful := hs.of_ledger (congrArg EpisodeTable.ledger (h s))

theorem LeavesPlant.lawful {act : State → Answer} (h : LeavesPlant act) {s : State} (hs : s.SerialsLawful) :
    (act s).state.SerialsLawful := h.table.lawful hs

theorem retireEpisode_serialsLawful (n serial : Nat) {s : State} (hs : s.SerialsLawful) :
    (retireEpisode n serial s).state.SerialsLawful := by
  unfold retireEpisode
  split
  · exact hs
  · split
    · exact hs
    · split
      · exact hs
      · exact slotFreed_serialsLawful hs _

theorem retireAccumulator_serialsLawful (n : Nat) {s : State} (hs : s.SerialsLawful) :
    (retireAccumulator n s).state.SerialsLawful := by
  unfold retireAccumulator
  split
  · exact hs
  · split <;> exact hs

/-- Every owner's answer keeps the law of the serials. -/
theorem ownerAnswer_serialsLawful (i : Instr) (s : State) (hs : s.SerialsLawful) : (ownerAnswer i s).state.SerialsLawful := by
  have privileged {a : Nat} {act : State → Answer} (h : LeavesTable act) : (privileged a act s).state.SerialsLawful :=
    (privileged_leavesTable a h).lawful hs
  cases i with
  | retireEpisode i n => exact retireEpisode_serialsLawful i n hs
  | retireAccumulator n => exact retireAccumulator_serialsLawful n hs
  | readChannels st c => exact (readRecords_leavesPlant 4 channelChars st c).lawful hs
  | readConditions st c => exact (readRecords_leavesPlant 25 conditionChars st c).lawful hs
  | readPumps st c => exact (readRecords_leavesPlant 4 pumpChars st c).lawful hs
  | readScreens st c => exact (readRecords_leavesPlant 2 screenChars st c).lawful hs
  | readEpisodes st c => exact (readRecords_leavesPlant 16 episodeChars st c).lawful hs
  | readSettings t st c => exact (readSettings_leavesPlant t st c).lawful hs
  | ackCondition i n => exact (ackCondition_leavesPlant i n).lawful hs
  | screenRake x => exact (screenRake_leavesPlant x).lawful hs
  | openAuthority => exact openAuthority_leavesTable.lawful hs
  | answer v => exact (answerChallenge_leavesTable v).lawful hs
  | releaseAuthority => exact releaseAuthority_leavesTable.lawful hs
  | shelve a i m => exact privileged (shelve_leavesPlant i m).table
  | unshelve a i => exact privileged (unshelve_leavesPlant i).table
  | pumpService a b v => exact privileged (pumpService_leavesPlant b v).table
  | pumpForce a b m => exact privileged (pumpForce_leavesPlant b m).table
  | pumpReset a b => exact privileged (pumpReset_leavesPlant b).table
  | screenInhibit a x v => exact privileged (screenInhibit_leavesPlant x v).table
  | screenReset a x => exact privileged (screenReset_leavesPlant x).table
  | restart a => exact privileged restartRequest_leavesTable
  | writeSetting a t i v => exact privileged (writeSetting_leavesTable t i v)
  | commitSettings a => exact privileged commitSettings_leavesTable
  | clearChannel a i => exact privileged (clearChannel_leavesTable i)
  | _ => exact hs.of_ledger rfl

end Sys2Proof.Machine
end

section
/-! PROOFS. The law of the serials over a step (R148). -/

namespace Sys2Proof.Machine

theorem serialsLawful_keptOnLine : KeptOnLine State.SerialsLawful where
  line _ _ hs := hs
  linkLost _ _ hs := hs
  clock _ _ hs := hs
  settle s hs := hs.of_ledger (congrArg Plant.ledger (settle_plant s))
  restart _ hs := restart_serialsLawful hs _
  owner := ownerAnswer_serialsLawful

/-- A command that is no request keeps the law of the serials. -/
theorem event_serialsLawful {c : Instr} (hc : c.request = none) {s t : State} (hs : s.SerialsLawful)
    (h : exec c s = .next t) : t.SerialsLawful := by
  have still {f : State → State} (h : powered f s = .next t) (hf : (f s).plant.ledger = s.plant.ledger) :
      t.SerialsLawful := powered_keeps (fun _ => hs.of_ledger hf) hs h
  have loses : (loseSupply s).SerialsLawful := hs.of_ledger (loseSupply_ledger s)
  cases c with
  | coldStart => cases h; exact restart_serialsLawful loses _
  | warmSupplyRestart => cases h; exact restart_serialsLawful loses _
  | supplyLoss => cases h; exact loses
  | qualifyTimerExpiry =>
    refine powered_keeps (fun hs => ?_) hs h
    split
    · exact serialsLawful_keptOnLine.settle _ (openEpisode_serialsLawful hs)
    · exact hs
  | replySent =>
    refine powered_keeps (fun hs => ?_) hs h
    split
    · exact serialsLawful_keptOnLine.replyEnds hs
    · exact hs
  | receiveCharacter c => exact powered_keeps (serialsLawful_keptOnLine.receive c) hs h
  | lineBreak => exact powered_keeps serialsLawful_keptOnLine.lineError hs h
  | rawContactChange c v => cases c <;> (cases h; exact hs)
  | filterTimerExpiry i => exact still h (filterExpires_ledger s i)
  | bounceTimerExpiry => cases h; split <;> exact hs
  | tipArrival => unfold exec execTipArrival at h; exact still h (by split <;> simp)
  | dryTimerExpiry => unfold exec execDryTimerExpiry at h; exact still h (by split <;> [rfl; (split <;> [rfl; simp])])
  | stopConfirmTimerExpiry _ => exact still h (by split <;> [(split <;> simp); rfl])
  | commitCompletion | clockSecondExpiry | turnaroundTimerExpiry | gapLimitExpiry | linkTimerExpiry | answerWindowExpiry
  | shelveTimerExpiry _ => exact still h (by split <;> rfl)
  | supervisionTimerExpiry => exact still h (by split <;> [(rw [settle_plant, lapse_plant]; rfl); rfl])
  | sampleArrival _ _ | binClose | rosterSecondTimerExpiry | rampTimerExpiry | gapTimerExpiry | feedbackLossTimerExpiry _
  | minRunTimerExpiry _ | minRestTimerExpiry _ | restartHoldExpiry | changeoverTimerExpiry _ | restoreTimerExpiry
  | intervalTimerExpiry _ | strokeTimerExpiry _ | clearTimerExpiry _ | integrationTimerExpiry | mergeTimerExpiry =>
    exact still h (by split <;> simp)
  | _ => simp [Instr.request] at hc

end Sys2Proof.Machine

open Sys2Proof.Machine

/-- Settles O39, by the ledger of serials that each command leaves: an opening alone takes a serial, the first from the counter
on that none of the sixteen slots holds, a retirement drops one, and a cold start empties the table. -/
theorem serialLawIsKept : Obligations.SerialLawIsKept := by
  intro s t hs h
  unfold step at h
  split at h
  · exact powered_keeps (fun hs : s.SerialsLawful => hs) hs h
  · rename_i rest _
    have hs' : ({ s with pending := rest } : State).SerialsLawful := hs
    exact serialsLawful_keptOnLine.exec (fun hc => event_serialsLawful hc hs') hs' h
end

section
/-! PROOFS. The moves of a condition record at a report and at an acknowledgement (R161 to R165). -/

namespace Sys2Proof.Machine

/-! ## The moves of a record (R161, R162) -/

namespace CondRec

variable (now : Nat) (r : CondRec)

/-- A change of state, field by field: the change number and the time move with the state alone (R161). -/
theorem moveTo_eq (st : CondState) : r.moveTo now st = { r with
    state := st
    change := if st = r.state then r.change else (r.change + 1) % 256
    changedAt := if st = r.state then r.changedAt else now } := by
  unfold moveTo
  by_cases h : r.state = st
  · subst h; rw [if_pos rfl, if_pos rfl, if_pos rfl]
  · rw [if_neg h, if_neg (Ne.symm h), if_neg (Ne.symm h)]

/-- Where a report of a source's activity moves its record's state (R162). -/
def reported (active : Bool) (r : CondRec) : CondState :=
  if active = r.active then r.state else if active = true then r.state.raised else r.state.returned

/-- A report of activity: a raise, a return, or neither (R162). -/
theorem takeActivity_eq (active : Bool) : r.takeActivity now active = { r with
    state := r.reported active
    active := active
    raises := if active = true ∧ r.active = false then min 255 (r.raises + 1) else r.raises
    change := if r.reported active = r.state then r.change else (r.change + 1) % 256
    changedAt := if r.reported active = r.state then r.changedAt else now } := by
  unfold takeActivity reported
  by_cases h : active = r.active
  · subst h; simp
  · cases active with
    | true => simp [moveTo_eq, satAdd, Bool.eq_false_iff.2 (Ne.symm h)]
    | false => simp [h, moveTo_eq]

/-- A report with its detail (R162, R163). -/
theorem takeReport_eq (active : Bool) (detail : Option Detail) : r.takeReport now active detail =
    { r.takeActivity now active with
      detail := if active = true ∧ detail.isSome = true then detail else r.detail } := by
  have hdetail : (r.takeActivity now active).detail = r.detail := by rw [takeActivity_eq]
  unfold takeReport
  simp only [Bool.and_eq_true, ← hdetail]
  split <;> rfl

/-- An acknowledgement moves the two states that call for one (R164, R165). -/
theorem acknowledge_state_ne : ((r.acknowledge now).state != r.state) = r.state.calls := by
  rw [acknowledge, moveTo_eq]
  cases r.state <;> rfl

end CondRec

end Sys2Proof.Machine

open Sys2Proof.Machine

/-- Settles O42, by the report's activity and then its detail. -/
theorem reportMovesTheRecord : Obligations.ReportMovesTheRecord := by
  intro now active detail r moved
  have hmoved : moved = r.reported active := by
    unfold moved CondRec.reported
    split
    · rfl
    · cases active <;> cases r.state <;> rfl
  rw [hmoved, CondRec.takeReport_eq, CondRec.takeActivity_eq]
end

section
/-! PROOFS. The requests that acknowledge, shelve and unshelve a condition record, and the shelve timer (R164 to R167). -/

namespace Sys2Proof.Machine

/-! ## Records changed by name (R160) -/

theorem Source.ofIndex_index (i : Source) : Source.ofIndex i.index = some i := by cases i <;> rfl

theorem Source.ofIndex_past {n : Nat} (h : 24 < n) : Source.ofIndex n = none :=
  List.getElem?_eq_none (show 25 ≤ n from h)

/-- The sources that may not be shelved (R160). -/
theorem Source.shelvable_iff (i : Source) :
    i.shelvable = true ↔ i ∉ [Source.wwFloatHigh, .supplyNone, .overflowActive, .restart, .settingsDefaulted] := by
  cases i <;> decide

section
variable (s : State)

@[simp] theorem cond_modCond_self (i : Source) (f : CondRec → CondRec) : (s.modCond i f).cond i = f (s.cond i) :=
  Conditions.get_modify_self _ _ _

theorem cond_modCond_ne {i j : Source} (f : CondRec → CondRec) (h : j ≠ i) : (s.modCond i f).cond j = s.cond j :=
  Conditions.get_modify_ne _ _ h

/-- An acknowledgement of all is one of each record (R165). -/
@[simp] theorem cond_acknowledgeAll (i : Source) : (acknowledgeAll s).cond i = (s.cond i).acknowledge s.clock.time :=
  Vector.getElem_map (xs := s.conditions.recs) _ i.index.isLt

end

/-! ## The owner's answers, judgement by judgement -/

section
variable {s : State}

theorem ackCondition_past {n : Nat} (change : Nat) (h : 24 < n) :
    ackCondition n change s = ⟨s, .badIndex, [byte n, byte 255, byte 0]⟩ := by
  rw [ackCondition, Source.ofIndex_past h]

theorem ackCondition_named (i : Source) (change : Nat) : ackCondition i.index change s =
    if (s.cond i).change ≠ change then ⟨s, .stale, condBrief s i⟩
    else ⟨s.modCond i (·.acknowledge s.clock.time), .ok, condBrief (s.modCond i (·.acknowledge s.clock.time)) i⟩ := by
  rw [ackCondition, Source.ofIndex_index]

/-- SHELVE's answer once its judgements have passed (R166). -/
def shelved (i : Source) (mins : Nat) (s : State) : Answer :=
  let u := s.modCond i (·.shelve s.clock.time (minutes mins))
  ⟨u, .ok, [byte i.index, byte 4, byte (u.cond i).change] ++ long (mins * 60)⟩

theorem shelve_minutes (n : Nat) {mins : Nat} (h : mins < 1 ∨ 1440 < mins) : shelve n mins s = .refuse s .badRequest :=
  if_pos h

section
variable {mins : Nat} (hmin : 1 ≤ mins) (hmax : mins ≤ 1440)
include hmin hmax

theorem shelve_past {n : Nat} (h : 24 < n) : shelve n mins s = .refuse s .badIndex := by
  rw [shelve, if_neg (by omega), Source.ofIndex_past h]

theorem shelve_named (i : Source) : shelve i.index mins s =
    if i.shelvable = true then shelved i mins s else .refuse s .notShelvable := by
  have hstate : ((s.modCond i (·.shelve s.clock.time (minutes mins))).cond i).state = .shelved := by
    rw [cond_modCond_self, CondRec.shelve, CondRec.moveTo_eq]
  have hleft : secondsLeft ((s.modCond i (·.shelve s.clock.time (minutes mins))).cond i).shelf = mins * 60 := by
    rw [cond_modCond_self]
    show mins * 60000 / 1000 = mins * 60
    omega
  rw [shelve, if_neg (by omega), Source.ofIndex_index, shelved, ← hleft]
  dsimp only
  rw [condBrief, hstate]
  rfl

end

theorem unshelve_past {n : Nat} (h : 24 < n) : unshelve n s = .refuse s .badIndex := by
  rw [unshelve, Source.ofIndex_past h]

theorem unshelve_named (i : Source) : unshelve i.index s =
    ⟨s.modCond i (·.unshelve s.clock.time), .ok, condBrief (s.modCond i (·.unshelve s.clock.time)) i⟩ := by
  rw [unshelve, Source.ofIndex_index]

end

end Sys2Proof.Machine

open Sys2Proof Sys2Proof.Machine

/-- Settles O43, by the judgements of ACK_CONDITION and by ACK_ALL record by record. -/
theorem acknowledgementSettlesTheRecord : Obligations.AcknowledgementSettlesTheRecord := by
  intro s hs acked
  have hacked (i : Source) : (s.heard.cond i).acknowledge s.heard.clock.time = acked i := by
    unfold acked
    rw [CondRec.acknowledge, CondRec.moveTo_eq]
    generalize s.heard.cond i = r
    rcases r with ⟨st, _⟩
    cases st <;> rfl
  refine ⟨fun n change h => addressed_reply hs (ackCondition_past change h) hs.inbox_eq, fun i change h => ?_, fun i => ?_, ?_⟩
  · exact addressed_reply hs ((ackCondition_named i change).trans (if_pos (Ne.symm h))) hs.inbox_eq
  · have hu : (s.heard.modCond i (·.acknowledge s.heard.clock.time)).cond i = acked i :=
      (cond_modCond_self _ _ _).trans (hacked i)
    refine ⟨_, ?_, hu, fun j hj => cond_modCond_ne _ _ hj, rfl⟩
    rw [← hu]
    exact addressed_reply hs ((ackCondition_named i _).trans (if_neg (not_not.2 rfl))) hs.inbox_eq
  · have hmoves : s.heard.acknowledgeable = (Source.all.filter fun i => (acked i).state != (s.heard.cond i).state).length := by
      simp only [← hacked, CondRec.acknowledge_state_ne]; rfl
    refine ⟨acknowledgeAll s.heard, ?_, fun i => (cond_acknowledgeAll _ i).trans (hacked i), rfl⟩
    rw [← hmoves]
    exact addressed_reply hs (act := ackAll) rfl hs.inbox_eq

/-- Settles O44: a record taken out of SHELVED by the timer's expiry and by UNSHELVE alike, and the judgements of SHELVE. -/
theorem shelvingTakesTheRecordOut : Obligations.ShelvingTakesTheRecordOut := by
  intro s moved down
  have hmoved (t : State) (i : Source) (st : CondState) : (t.cond i).moveTo s.clock.time st = moved t i st := rfl
  have hdown (t : State) (i : Source) : (t.cond i).unshelve s.clock.time = down t i := by
    unfold down
    rw [CondRec.unshelve]
    split
    · rw [← hmoved, CondRec.moveTo_eq, CondRec.moveTo_eq]
    · rfl
  refine ⟨fun i hp ht => ?_, fun ans h => ⟨fun n mins hm => ?_, fun n mins hmin hmax hn => ?_, fun i mins hmin hmax hi => ?_,
    fun i mins hmin hmax hi => ?_, fun n hn => ?_, fun i => ?_⟩⟩
  · exact ⟨_, powered_timer (fun s => (s.cond i).shelf) (fun s => s.modCond i (·.unshelve s.clock.time)) hp ht,
      (cond_modCond_self _ _ _).trans (hdown s i), fun j hj => cond_modCond_ne _ _ hj, rfl⟩
  · exact privileged_refuses h (shelve_minutes n hm)
  · exact privileged_refuses h (shelve_past hmin hmax hn)
  · have hshelf : ¬ i.shelvable = true := fun k => (Source.shelvable_iff i).1 k hi
    exact privileged_refuses h ((shelve_named hmin hmax i).trans (if_neg hshelf))
  · have hu : (s.heard.spent.modCond i (·.shelve s.clock.time (minutes mins))).cond i =
        { moved s.heard i .shelved with shelf := some (mins * 60000) } := cond_modCond_self _ _ _
    exact ⟨_, privileged_reply h ((shelve_named hmin hmax i).trans (if_pos ((Source.shelvable_iff i).2 hi)))
      (cleared_inbox (s := s) h), hu, fun j hj => cond_modCond_ne _ _ hj, rfl⟩
  · exact privileged_refuses h (unshelve_past hn)
  · have hu : (s.heard.spent.modCond i (·.unshelve s.clock.time)).cond i = down s.heard i :=
      (cond_modCond_self _ _ _).trans (hdown s.heard i)
    refine ⟨_, ?_, hu, fun j hj => cond_modCond_ne _ _ hj, rfl⟩
    rw [← hu]
    exact privileged_reply h (unshelve_named i) (cleared_inbox (s := s) h)
end

section
/-! PROOFS. The operations that report no source. A rake's moves but for a jam, a pump's changes of state but for a lockout,
the queue test and the grant test, and the Duty Controller's evaluation leave the Condition Table as it is, and so does the
settling of a step. -/

namespace Sys2Proof.Machine

variable (s : State)

/-! ## The Screen Controller (R111 to R119) -/

@[simp] theorem startTest_conditions (x : Screen) : (startTest x s).conditions = s.conditions := by rw [startTest_eq]; rfl

@[simp] theorem trigger_conditions (x : Screen) : (trigger x s).conditions = s.conditions := by
  unfold trigger; split <;> [(split <;> simp); rfl]

@[simp] theorem returnToRest_conditions (x : Screen) : (returnToRest x s).conditions = s.conditions := by
  rw [returnToRest_eq]; rfl

@[simp] theorem enterHoming_conditions (x : Screen) : (enterHoming x s).conditions = s.conditions := by
  rw [enterHoming_eq]; rfl

@[simp] theorem topMade_conditions (x : Screen) : (topMade x s).conditions = s.conditions := by
  unfold topMade; split <;> rfl

@[simp] theorem homeMade_conditions (x : Screen) : (homeMade x s).conditions = s.conditions := by
  unfold homeMade; split <;> [(split <;> simp); rfl]

@[simp] theorem intervalExpired_conditions (x : Screen) : (intervalExpired x s).conditions = s.conditions := by
  simp [intervalExpired]

@[simp] theorem forScreens_retest_conditions : (forScreens retest s).conditions = s.conditions :=
  forScreens_view s State.conditions _ fun x t => by rw [retest_eq]; rfl

@[simp] theorem screensRamping_conditions (on : Bool) : (screensRamping on s).conditions = s.conditions := by
  unfold screensRamping; dsimp only; split <;> simp

@[simp] theorem setRain_conditions (r : Rain) : (setRain r s).conditions = s.conditions := by rw [setRain_frame]

theorem inhibitOff_conditions (x : Screen) : (inhibitOff x s).conditions = s.conditions := by
  obtain ⟨r, h, -⟩ := inhibitOff_writes x s
  rw [h]; rfl

/-! ## A pump's changes of state (R45 to R59) -/

@[simp] theorem enterState_conditions (b : Bay) (st : PumpState) : (enterState b st s).conditions = s.conditions := by
  unfold enterState; dsimp only; split <;> [rfl; (split <;> rfl)]

@[simp] theorem enterGap_conditions : (enterGap s).conditions = s.conditions := rfl

@[simp] theorem depart_conditions (b : Bay) : (depart b s).conditions = s.conditions := by
  have hqueue : (dequeue b s).conditions = s.conditions := rfl
  have hramp : (abortRamp b s).conditions = s.conditions := by unfold abortRamp; split <;> simp
  unfold depart; split <;> simp [hqueue, hramp]

@[simp] theorem goResting_conditions (b : Bay) : (goResting b s).conditions = s.conditions := by simp [goResting]
@[simp] theorem goIdle_conditions (b : Bay) : (goIdle b s).conditions = s.conditions := by simp [goIdle]
@[simp] theorem goUnavailable_conditions (b : Bay) : (goUnavailable b s).conditions = s.conditions := by
  simp [goUnavailable]

@[simp] theorem stopConfirmed_conditions (b : Bay) : (stopConfirmed b s).conditions = s.conditions := by
  unfold stopConfirmed; split <;> simp

@[simp] theorem goStopping_conditions (b : Bay) : (goStopping b s).conditions = s.conditions := by
  unfold goStopping; dsimp only; split <;> simp

@[simp] theorem setStartLimited_conditions (b : Bay) (on : Bool) : (setStartLimited b on s).conditions = s.conditions := by
  unfold setStartLimited; dsimp only; split <;> [rfl; (split <;> rfl)]

@[simp] theorem judgeStartLimited_conditions (b : Bay) : (judgeStartLimited b s).conditions = s.conditions := by
  simp [judgeStartLimited]

@[simp] theorem setForced_conditions (b : Bay) (f : Forced) : (setForced b f s).conditions = s.conditions := by
  unfold setForced; dsimp only; split <;> rfl

@[simp] theorem handChange_conditions (b : Bay) (w : Bool) : (handChange b w s).conditions = s.conditions := by
  unfold handChange; split <;> rfl

@[simp] theorem selectorOffAuto_conditions (b : Bay) (p : Selector) : (selectorOffAuto b p s).conditions = s.conditions := by
  unfold selectorOffAuto
  split
  · rfl
  · rfl
  · split <;> rfl
  all_goals simp

/-! ## The grant test and the queue test (R49, R51, R91) -/

theorem grantFrom_conditions (q : List Bay) : ∀ s, (grantFrom q s).conditions = s.conditions := by
  induction q with
  | nil => exact fun _ => rfl
  | cons b q ih =>
    intro s
    have htaken : (takeGrant b q s).conditions = s.conditions := by simp [takeGrant]
    have hdeclined : (declineGrant b q s).conditions = s.conditions := by simp [declineGrant]
    unfold grantFrom
    split
    · split
      · split
        · rw [ih, hdeclined]
        · exact htaken
      · rw [ih]
    · rfl

@[simp] theorem grantTest_conditions : (grantTest s).conditions = s.conditions := grantFrom_conditions _ s

@[simp] theorem queueTest_conditions : (queueTest s).conditions = s.conditions :=
  foldl_view State.conditions _ (fun t b => by unfold queueOne; split <;> [(split <;> simp); rfl]) _ s

/-! ## The timers of the pumps and of the Arbiter (R48, R54, R57, R68, R94) -/

theorem rosterSecond_conditions : (rosterSecond s).conditions = s.conditions :=
  forBays_view _ State.conditions _ fun b t => by unfold bayExpires; split <;> simp

theorem minRunServed_conditions (b : Bay) : (minRunServed b s).conditions = s.conditions := by
  unfold minRunServed; dsimp only; split <;> simp

theorem minRestServed_conditions (b : Bay) : (minRestServed b s).conditions = s.conditions := by
  unfold minRestServed; dsimp only; split <;> simp

theorem holdEnds_conditions : (holdEnds s).conditions = s.conditions := by simp [holdEnds]

theorem gapExpires_conditions : (gapExpires s).conditions = s.conditions := by unfold gapExpires; split <;> simp

/-! ## Pumps brought within the running limit (R59, R101) -/

@[simp] theorem shedToLimit_conditions (n : Nat) : ∀ s, (shedToLimit n s).conditions = s.conditions := by
  have hshed (s : State) (b : Bay) : (shedPump b s).conditions = s.conditions := by unfold shedPump; split <;> simp
  induction n with
  | zero => exact fun _ => rfl
  | succ n ih => intro s; unfold shedToLimit; split <;> [(split <;> simp [ih, hshed]); rfl]

@[simp] theorem withdrawExcess_conditions (n : Nat) : ∀ s, (withdrawExcess n s).conditions = s.conditions := by
  induction n with
  | zero => exact fun _ => rfl
  | succ n ih => intro s; unfold withdrawExcess; split <;> [(split <;> simp [ih]); rfl]

@[simp] theorem recomputeLimit_conditions : (recomputeLimit s).conditions = s.conditions := by
  unfold recomputeLimit; dsimp only; split <;> [rfl; (split <;> simp)]

@[simp] theorem limitWritten_conditions : (limitWritten s).conditions = s.conditions := by
  unfold limitWritten; dsimp only; split <;> simp

/-! ## The Duty Controller's evaluation, and the settling of a step (R70 to R85) -/

@[simp] theorem setChangeover_conditions (b : Bay) (t : Timer) : (setChangeover b t s).conditions = s.conditions := rfl
@[simp] theorem leftRunning_conditions (b : Bay) : (leftRunning b s).conditions = s.conditions := rfl
@[simp] theorem dropDue_conditions (b : Bay) : (dropDue b s).conditions = s.conditions := rfl

@[simp] theorem updateMembership_conditions (b : Bay) (was now : PumpState) :
    (updateMembership b was now s).conditions = s.conditions := by
  unfold updateMembership; split <;> [(split <;> rfl); rfl]

@[simp] theorem enteredRunning_conditions (b : Bay) : (enteredRunning b s).conditions = s.conditions := by
  have hmarks (t : State) :
      (forBays (fun c s => if (s.pump c).changeoverDue then setReplaced c true s else s) t).conditions = t.conditions :=
    forBays_view t State.conditions _ fun c u => by split <;> rfl
  unfold enteredRunning; dsimp only; split <;> split <;> simp [hmarks]

@[simp] theorem forcedChanged_conditions (b : Bay) (was now : Forced) :
    (forcedChanged b was now s).conditions = s.conditions := by
  unfold forcedChanged; split <;> [(split <;> [rfl; (split <;> rfl)]); rfl]

@[simp] theorem reclass_conditions (b : Bay) : (reclass b s).conditions = s.conditions := by
  unfold reclass; split <;> rfl

theorem ownEffect_conditions (n : Notice) : (ownEffect n s).conditions = s.conditions := by
  cases n with
  | changeover b => unfold ownEffect; dsimp only; split <;> rfl
  | pump b was now =>
    have hleft : (if was = .running then leftRunning b (updateMembership b was now s) else
        updateMembership b was now s).conditions = s.conditions := by split <;> simp
    unfold ownEffect
    dsimp only
    split
    · rw [enteredRunning_conditions]; exact hleft
    · split <;> exact hleft
  | forced b was now => exact forcedChanged_conditions s b was now
  | lapse was => exact forBays_view s State.conditions _ fun b t => forcedChanged_conditions t b _ _
  | degraded b => exact reclass_conditions s b
  | _ => rfl

theorem settleStage_conditions (n : Notice) (d : Nat) : (settleStage n d s).conditions = s.conditions := by
  cases n with
  | wwReport r => unfold settleStage levelStep; dsimp only; split <;> [rfl; (split <;> rfl)]
  | _ => rfl

theorem evaluated_conditions (n : Notice) : (evaluated n s).conditions = s.conditions := by
  unfold evaluated
  rw [foldl_view State.conditions _ fun t b => dropDue_conditions t b, rotate_frame]
  exact (settleStage_conditions _ n s.duty.stage).trans (ownEffect_conditions s n)

theorem cutoffNotice_conditions (n : Notice) : (cutoffNotice n s).conditions = s.conditions := by
  have hcutoff (t : State) : (forBays cutoffPump t).conditions = t.conditions :=
    forBays_view t State.conditions _ fun b t => by unfold cutoffPump; split <;> simp
  cases n with
  | lf covered => unfold cutoffNotice; dsimp only; split <;> simp [hcutoff]
  | restart => unfold cutoffNotice; dsimp only; split <;> simp [hcutoff]
  | _ => rfl

theorem takeWanted_conditions (counted uncounted stops : List Bay) :
    (takeWanted counted uncounted stops s).conditions = s.conditions := by
  have hunwanted (b : Bay) (t : State) : (unwanted b t).conditions = t.conditions := by
    unfold unwanted
    split
    · simp
    · simp
    · split <;> simp
    all_goals rfl
  have hstop (b : Bay) (t : State) : (changeoverStop b t).conditions = t.conditions := by
    unfold changeoverStop; split <;> simp
  unfold takeWanted
  dsimp only
  rw [queueTest_conditions, forBays_view _ State.conditions _ fun b t => by split <;> [rfl; exact hunwanted b t],
    forBays_view _ State.conditions _ fun b t => by split <;> [exact hstop b t; rfl]]

theorem evaluate_conditions (n : Notice) : (evaluate n s).conditions = s.conditions := by
  rw [evaluate_eq, takeWanted_conditions, cutoffNotice_conditions, evaluated_conditions]

/-- The notices of a step report no source: the Condition Table stands as the step's own event left it. -/
@[simp] theorem settle_conditions : (settle s).conditions = s.conditions :=
  settle_law (P := fun t => t.conditions = s.conditions) (fun _ _ h => h) (fun t h => (queueTest_conditions t).trans h)
    (fun n t h => (evaluate_conditions t n).trans h) s rfl

end Sys2Proof.Machine
end

section
/-! PROOFS. What the operations that report a source keep of the law of attention: a table judged from its records (R168, R169)
stays so. -/

namespace Sys2Proof.Machine

/-! ## The two halves of the law -/

/-- The summary, ATTN_CONDITION, the beacon and the horn stand as the records give them (R168, R169). -/
def Conditions.Judged (t : Conditions) : Prop := t.judge = t

/-- ATTN_EPISODE stands as the slots and the accumulator give it (R155). -/
def EpisodeTable.Judged (t : EpisodeTable) : Prop := t.attn = episodeAttn t

theorem attentionLawful_iff (s : State) : s.AttentionLawful ↔ s.conditions.Judged ∧ s.episodes.Judged := by
  unfold State.AttentionLawful Conditions.Judged EpisodeTable.Judged
  rcases s.conditions with ⟨recs, summary, attn, beacon, horn⟩
  simp only [Conditions.judge, Conditions.mk.injEq, true_and, and_assoc, eq_comm]

section
variable {s t : State}

/-- A table judged, beside an Episode Table as it was. -/
theorem State.AttentionLawful.of_table (hs : s.AttentionLawful) (he : t.plant.episodes = s.plant.episodes)
    (hc : s.conditions.Judged → t.conditions.Judged) : t.AttentionLawful := by
  obtain ⟨hconditions, htable⟩ := (attentionLawful_iff s).1 hs
  have he : t.episodes = s.episodes := he
  exact (attentionLawful_iff t).2 ⟨hc hconditions, he ▸ htable⟩

/-- What of the state no notice reaches stands, and the Condition Table is judged. -/
theorem State.AttentionLawful.of_plant (hs : s.AttentionLawful) (hp : t.plant = s.plant)
    (hc : s.conditions.Judged → t.conditions.Judged) : t.AttentionLawful := hs.of_table (congrArg Plant.episodes hp) hc

theorem ite_judged {p : Prop} [Decidable p] (hs : p → s.conditions.Judged) (ht : ¬ p → t.conditions.Judged) :
    (if p then s else t).conditions.Judged := by
  split
  · exact hs ‹_›
  · exact ht ‹_›

end

/-! ## Where a table is judged outright -/

section
variable (s : State)

theorem report_judged (i : Source) (a : Bool) (d : Option Detail) : (s.report i a d).conditions.Judged := rfl

theorem jamScreen_judged (x : Screen) (why : JamReason) : (jamScreen x why s).conditions.Judged := rfl

theorem clearJam_judged (x : Screen) : (clearJam x s).conditions.Judged := by
  rw [clearJam, enterHoming_conditions]; rfl

theorem lockOut_judged (b : Bay) (why : LockoutReason) : (lockOut b why s).conditions.Judged := rfl

theorem releaseLockout_judged (b : Bay) : (releaseLockout b s).conditions.Judged :=
  ite_judged (fun _ => by rw [goResting_conditions]; rfl) fun _ => by rw [goUnavailable_conditions]; rfl

theorem reportStarter_judged : (reportStarter s).conditions.Judged := ite_judged (fun _ => rfl) fun _ => rfl

theorem changeSupply_judged (n : SupplyState) : (changeSupply n s).conditions.Judged := rfl

theorem reportOverflow_judged : (reportOverflow s).conditions.Judged := ite_judged (fun _ => rfl) fun _ => rfl

theorem reportChannel_judged (c : Channel) : (reportChannel c s).conditions.Judged := by
  unfold reportChannel; cases c <;> rfl

theorem lapse_judged : (lapse s).conditions.Judged := rfl

/-- A restart ends with a pulse (R172). -/
theorem restart_judged (cause : RestartCause) : (restart cause s).conditions.Judged := by
  rw [restart_pulses]; exact ite_judged (fun _ => rfl) fun _ => rfl

end

/-! ## Where a table that was judged stays so -/

section
variable {s : State} (h : s.conditions.Judged)
include h

/-! The Screen Controller (R110 to R118) -/

theorem overloadInRising_judged (x : Screen) : (overloadInRising x s).conditions.Judged :=
  ite_judged (fun _ => jamScreen_judged s x _) fun _ => h

theorem judgeRise_judged (x : Screen) : (judgeRise x s).conditions.Judged :=
  ite_judged (fun _ => overloadInRising_judged h x) fun _ => ite_judged (fun _ => h) fun _ => h

theorem rakeTrip_judged (x : Screen) : (rakeTrip x s).conditions.Judged :=
  ite_judged (fun _ => overloadInRising_judged h x) fun _ => h

theorem strokeExpired_judged (x : Screen) : (strokeExpired x s).conditions.Judged := by
  unfold strokeExpired
  dsimp only
  split
  · exact jamScreen_judged _ x _
  · exact jamScreen_judged _ x _
  · exact jamScreen_judged _ x _
  all_goals exact h

theorem clearExpired_judged (x : Screen) : (clearExpired x s).conditions.Judged :=
  ite_judged (fun _ => by refine judgeRise_judged ?_ x; exact h) fun _ => h

theorem screenSelectorChange_judged (x : Screen) (auto : Bool) : (screenSelectorChange x auto s).conditions.Judged := by
  refine ite_judged (fun _ => ite_judged (fun _ => ?_) fun _ => ?_) fun _ => h
  · split
    · exact ite_judged (fun _ => ite_judged (fun _ => h) fun _ => clearJam_judged _ x) fun _ => h
    · rw [enterHoming_conditions]; exact h
    all_goals exact h
  · split <;> exact h

theorem updateDifferential_judged (accepted : Bool) (x : Screen) : (updateDifferential accepted x s).conditions.Judged := by
  have hsight (d : Option Int) : (sight x d s).conditions.Judged := ite_judged (fun _ => h) fun _ => rfl
  by_cases hu : (s.screen x).inUse = true
  · rw [updateDifferential_eq accepted hu]; exact hsight _
  · rw [updateDifferential, if_neg hu]; exact h

theorem screensReport_judged (c : Channel) (r : ChannelReport) : (screensReport c r s).conditions.Judged := by
  cases c with
  | ww => exact h
  | inlet =>
    refine updateDifferential_judged (updateDifferential_judged ?_ _ _) _ _
    exact h
  | sa => refine updateDifferential_judged ?_ _ _; exact h
  | sb => refine updateDifferential_judged ?_ _ _; exact h

theorem handReport_judged (c : Channel) (r : ChannelReport) : (handReport c r s).conditions.Judged := by
  cases c with
  | ww => exact h
  | inlet => refine screensReport_judged ?_ .inlet r; exact h
  | sa => exact screensReport_judged h .sa r
  | sb => exact screensReport_judged h .sb r

/-! The Pump Roster (R46, R47, R52, R55 to R65) -/

theorem leaveUnavailable_judged (b : Bay) : (leaveUnavailable b s).conditions.Judged :=
  ite_judged (fun _ => lockOut_judged s b _) fun _ =>
    ite_judged (fun _ => by rwa [goStopping_conditions]) fun _ => by rwa [goIdle_conditions]

theorem selectorToAuto_judged (b : Bay) : (selectorToAuto b s).conditions.Judged := by
  unfold selectorToAuto
  dsimp only
  split
  · exact ite_judged (fun _ => leaveUnavailable_judged h b) fun _ => h
  · exact ite_judged (fun _ => ite_judged (fun _ => h) fun _ => releaseLockout_judged s b) fun _ => h
  all_goals exact h

theorem selectorChange_judged (b : Bay) (pos : Selector) : (selectorChange b pos s).conditions.Judged := by
  by_cases ha : (s.pump b).state = .absent
  · rw [selectorChange_absent pos ha]; exact h
  · have hwritten : (selectorWritten b pos s).conditions.Judged :=
      ite_judged (fun _ => h) fun _ => by rw [setForced_conditions]; exact h
    rw [selectorChange_eq pos ha, handChange_conditions, post_conditions]
    exact ite_judged (fun _ => selectorToAuto_judged hwritten b) fun _ => by rwa [selectorOffAuto_conditions]

theorem feedbackChange_judged (b : Bay) (on : Bool) : (feedbackChange b on s).conditions.Judged := by
  rw [feedbackChange_eq, handChange_conditions]
  unfold feedbackActs
  split
  · exact lockOut_judged s b _
  · exact lockOut_judged s b _
  · exact lockOut_judged s b _
  · exact h
  · rwa [stopConfirmed_conditions]
  · exact h

theorem overloadTrip_judged (b : Bay) : (overloadTrip b s).conditions.Judged := by
  unfold overloadTrip
  split
  · exact h
  · exact h
  · exact report_judged _ _ _ _
  all_goals exact lockOut_judged s b _

theorem sealChange_judged (b : Bay) (leak : Bool) : (sealChange b leak s).conditions.Judged :=
  ite_judged (fun _ => h) fun _ => report_judged _ _ _ _

theorem settleStart_judged (b : Bay) : (settleStart b s).conditions.Judged :=
  ite_judged (fun _ => ite_judged (fun _ => by rw [goRunning, modPump_conditions, enterState_conditions]; exact h)
    fun _ => lockOut_judged s b _) fun _ => h

theorem rampExpires_judged : (rampExpires s).conditions.Judged := by
  unfold rampExpires
  dsimp only
  rw [screensRamping_conditions]
  split
  · refine settleStart_judged ?_ _; exact h
  · exact h

theorem outOfService_judged (b : Bay) : (outOfService b s).conditions.Judged := by
  unfold outOfService; dsimp only; split <;> simpa using h

/-! The Arbiter and the Supply Monitor (R95 to R103) -/

theorem judgeStarter_judged : (judgeStarter s).conditions.Judged :=
  ite_judged (fun _ => h) fun _ => ite_judged (fun _ => reportStarter_judged _) fun _ =>
    ite_judged (fun _ => reportStarter_judged _) fun _ => reportStarter_judged _

theorem arbiterGate_judged (st : SupplyState) (restore : Bool) : (arbiterGate st restore s).conditions.Judged := by
  rw [arbiterGate, grantTest_conditions]; exact judgeStarter_judged h

theorem decideSupply_judged : (decideSupply s).conditions.Judged :=
  ite_judged (fun _ => h) fun _ => changeSupply_judged s _

/-! Contacts, authority and settings (R26, R171, R192) -/

theorem permitChange_judged (on : Bool) : (permitChange on s).conditions.Judged := by
  refine ite_judged (fun _ => ?_) fun _ => ?_
  · split <;> exact h
  · split
    · exact h
    · exact lapse_judged _
    all_goals exact h

theorem handSwitch_judged (w : Switch) (v : Bool) : (handSwitch w v s).conditions.Judged := by
  cases w with
  | hf => exact report_judged s _ _ _
  | lf => exact h
  | sp => exact h
  | runFeedback b => exact feedbackChange_judged h b v
  | overload b => exact ite_judged (fun _ => h) fun _ => overloadTrip_judged h b
  | sealLeak b => exact sealChange_judged h b v
  | screenSelector x => exact screenSelectorChange_judged h x v
  | topLimit x => exact ite_judged (fun _ => by rwa [topMade_conditions]) fun _ => h
  | homeLimit x => exact ite_judged (fun _ => by rwa [homeMade_conditions]) fun _ => h
  | rakeOverload x => exact ite_judged (fun _ => h) fun _ => rakeTrip_judged h x
  | starterReady => exact judgeStarter_judged h
  | starterFault => exact judgeStarter_judged h
  | mainsPresent => exact decideSupply_judged (report_judged _ _ _ _)
  | generatorRunning => exact decideSupply_judged h
  | accept => exact ite_judged (fun _ => rfl) fun _ => h
  | remotePermit => exact permitChange_judged h v

theorem filterExpires_judged (i : Input) : (filterExpires i s).conditions.Judged := by
  unfold filterExpires
  split
  · split
    · exact h
    · rw [settle_conditions]; refine handSwitch_judged ?_ _ _; exact h
  · split
    · exact h
    · rw [settle_conditions]; refine selectorChange_judged ?_ _ _; exact h

theorem writeEffects_judged (table item : Nat) : (writeEffects table item s).conditions.Judged := by
  refine ite_judged (fun _ => ?_) fun _ => ite_judged (fun _ => by rwa [limitWritten_conditions]) fun _ => h
  split
  · rfl
  · exact h

end

/-- A millisecond moves the shelve timers, which no output reads. -/
theorem passMillisecond_judged {s : State} (h : s.conditions.Judged) : (passMillisecond s).conditions.Judged := by
  have hget (i : Source) : (s.conditions.recs.map passShelf).get i.index = passShelf (s.conditions.recs.get i.index) :=
    Vector.getElem_map (xs := s.conditions.recs) _ i.index.isLt
  have hjudge : ({ s.conditions with recs := s.conditions.recs.map passShelf } : Conditions).judge =
      { s.conditions.judge with recs := s.conditions.recs.map passShelf } := by
    simp only [Conditions.judge, summaryOf, attnOf, beaconOf, hornOf, hget]
    rfl
  rw [Conditions.Judged] at h
  show ({ s.conditions with recs := s.conditions.recs.map passShelf } : Conditions).judge = _
  rw [hjudge, h]
  rfl

end Sys2Proof.Machine
end

section
/-! PROOFS. What the blocks that write the Episode Table, a loss of supply and a restart keep of the law of attention (R155,
R168, R169). -/

namespace Sys2Proof.Machine

theorem setEpisodes_judged (s : State) (t : EpisodeTable) : (s.setEpisodes t).episodes.Judged := rfl

/-- A restart judges the table that it writes (R155, R158, R159). -/
theorem restart_attentionLawful (cause : RestartCause) (s : State) : (restart cause s).AttentionLawful := by
  refine (attentionLawful_iff _).2 ⟨restart_judged s cause, ?_⟩
  rw [restart_episodes, recalled_episodes]
  exact setEpisodes_judged _ _

section
variable {s : State} (hs : s.AttentionLawful)
include hs

theorem setEpisodes_attentionLawful (t : EpisodeTable) : (s.setEpisodes t).AttentionLawful :=
  (attentionLawful_iff _).2 ⟨((attentionLawful_iff s).1 hs).1, rfl⟩

theorem setRain_attentionLawful (r : Rain) : (setRain r s).AttentionLawful := by
  rw [attentionLawful_iff, setRain_conditions, setRain_episodes]
  exact (attentionLawful_iff s).1 hs

theorem report_attentionLawful (i : Source) (a : Bool) (d : Option Detail) : (s.report i a d).AttentionLawful :=
  hs.of_plant rfl fun _ => report_judged s i a d

theorem reportOverflow_attentionLawful : (reportOverflow s).AttentionLawful :=
  hs.of_plant (reportOverflow_plant s) fun _ => reportOverflow_judged s

theorem settle_attentionLawful : (settle s).AttentionLawful := hs.of_plant (settle_plant s) fun h => by rwa [settle_conditions]

/-! ## Rain (R29 to R38) -/

theorem countTip_attentionLawful : (countTip s).AttentionLawful := by
  rw [countTip_eq]
  refine setRain_attentionLawful ?_ _
  unfold episodeTip
  split
  · exact hs
  · exact setEpisodes_attentionLawful hs _

theorem closeBin_attentionLawful : (closeBin s).AttentionLawful := by rw [closeBin_eq]; exact setRain_attentionLawful hs _

theorem dryOut_attentionLawful : (dryOut s).AttentionLawful := by rw [dryOut_eq]; exact setRain_attentionLawful hs _

/-! ## Episodes (R143 to R152) -/

theorem settleEpisode_attentionLawful : (settleEpisode s).AttentionLawful := by
  rw [settleEpisode_eq]
  exact setRain_attentionLawful (setEpisodes_attentionLawful hs _) _

theorem openEpisode_attentionLawful : (openEpisode s).AttentionLawful := by
  cases hp : s.spill.accumulation with
  | none => rw [openEpisode, hp]; exact hs
  | some p =>
    have hopened : (openedBare s p).AttentionLawful := by
      refine setRain_attentionLawful (s := { s.setEpisodes (tableOpened s (opening s p)) with
        spill := { s.spill with accumulation := none } }) ?_ (rainOpened s)
      exact setEpisodes_attentionLawful hs _
    have hreported := report_attentionLawful hopened .overflowActive true (some (.serial (serialOf s.episodes)))
    rw [openEpisode_eq s hp]
    dsimp only
    split
    · exact report_attentionLawful hreported _ _ _
    · exact hreported

theorem closeEpisode_attentionLawful : (closeEpisode s).AttentionLawful := by
  rcases Nat.eq_zero_or_pos (s.itemNat 6 37) with hgap | hgap
  · rw [closeEpisode_atOnce hgap]
    refine report_attentionLawful ?_ _ _ _
    exact setRain_attentionLawful (setEpisodes_attentionLawful hs _) _
  · rw [closeEpisode_later hgap]
    refine report_attentionLawful ?_ _ _ _
    exact setEpisodes_attentionLawful hs _

theorem resumeEpisode_attentionLawful : (resumeEpisode s).AttentionLawful := by
  refine reportOverflow_attentionLawful ?_
  exact setEpisodes_attentionLawful hs _

theorem takeSpill_attentionLawful : (takeSpill s).1.AttentionLawful := by
  unfold takeSpill
  split
  · exact hs
  · split
    · exact hs
    · exact resumeEpisode_attentionLawful hs
    all_goals exact hs

theorem takeEnded_attentionLawful : (takeEnded s).AttentionLawful := by
  unfold takeEnded
  split
  · exact hs
  · split
    · exact closeEpisode_attentionLawful hs
    · exact hs

theorem withMark_attentionLawful (r : SpillSecond) : (withMark r s).AttentionLawful := by
  unfold withMark
  split
  · exact setEpisodes_attentionLawful hs _
  · exact hs

theorem takeSecond_attentionLawful (r : SpillSecond) : (takeSecond r s).AttentionLawful := by
  have hspill := takeSpill_attentionLawful hs
  by_cases hnow : r.now = true
  · unfold takeSecond
    rw [if_pos hnow]
    dsimp only
    split <;> rename_i heq <;> rw [heq] at hspill
    · exact hspill
    · exact setEpisodes_attentionLawful hspill _
    · exact hspill
  · rw [takeSecond_dry (Bool.eq_false_iff.2 hnow)]
    refine withMark_attentionLawful ?_ r
    split
    · exact takeEnded_attentionLawful hs
    · exact hs

theorem integrate_attentionLawful : (integrate s).AttentionLawful := by
  have hsecond (m : Spill) (r : SpillSecond) : (takeSecond r { s with spill := m }).AttentionLawful := by
    refine takeSecond_attentionLawful ?_ r
    exact hs
  unfold integrate
  dsimp only
  split
  · exact hsecond _ _
  · exact report_attentionLawful (hsecond _ _) _ _ _

/-! ## Samples, contacts, time and a loss of supply -/

theorem sampleArrives_attentionLawful (c : Channel) (i : Nat) : (sampleArrives c i s).AttentionLawful := by
  refine hs.of_table (by rw [sampleArrives_plant]) fun _ => ?_
  rw [sampleArrives, settle_conditions]
  exact handReport_judged (reportChannel_judged _ c) _ _

theorem filterExpires_attentionLawful (i : Input) : (filterExpires i s).AttentionLawful := by
  refine hs.of_table ?_ fun h => filterExpires_judged h i
  unfold filterExpires
  split <;> split
  · rfl
  · rw [settle_plant]; exact congrArg Still.episodes (handSwitch_still _ _ _)
  · rfl
  · rw [settle_plant, selectorChange_plant]; rfl

theorem restoreExpired_attentionLawful : (restoreExpired s).AttentionLawful :=
  hs.of_table (congrArg Still.episodes (restoreExpired_still s)) fun h => by refine arbiterGate_judged ?_ _ _; exact h

theorem loseSupply_attentionLawful : (loseSupply s).AttentionLawful := by
  unfold loseSupply cutCommit
  split
  · exact hs
  · split <;> exact hs

theorem passMillisecond_attentionLawful : (passMillisecond s).AttentionLawful := by
  obtain ⟨hconditions, htable⟩ := (attentionLawful_iff s).1 hs
  exact (attentionLawful_iff _).2 ⟨passMillisecond_judged hconditions, htable⟩

end

end Sys2Proof.Machine
end

section
/-! PROOFS. What the owners of the requests keep of the law of attention (R155, R168, R169, R180). -/

namespace Sys2Proof.Machine

/-! ## The Condition Table at each owner -/

/-- An owner whose answer leaves a judged Condition Table judged. -/
def LeavesJudged (act : State → Answer) : Prop := ∀ s, s.conditions.Judged → (act s).state.conditions.Judged

theorem privileged_leavesJudged (ans : Nat) {act : State → Answer} (ha : LeavesJudged act) :
    LeavesJudged (privileged ans act) := by
  intro s h
  unfold privileged
  split
  · exact h
  · exact h
  · split
    · exact ha (grantAuthority s) h
    · exact lapse_judged _
  · exact h

theorem readRecords_leavesJudged (size : Nat) (record : State → Nat → List Byte) (start count : Nat) :
    LeavesJudged fun s => readRecords size (record s) start count s := by
  intro s h; unfold readRecords; dsimp only
  split <;> [exact h; (split <;> exact h)]

theorem readSettings_leavesJudged (table start count : Nat) : LeavesJudged (readSettings table start count) := by
  intro s h; unfold readSettings
  split
  · exact h
  · exact readRecords_leavesJudged _ (fun s i => signed (s.item table i)) start count s h

theorem ackCondition_leavesJudged (i n : Nat) : LeavesJudged (ackCondition i n) := by
  intro s h; unfold ackCondition
  split <;> [exact h; (split <;> [exact h; rfl])]

theorem shelve_leavesJudged (i m : Nat) : LeavesJudged (shelve i m) := by
  intro s h; unfold shelve
  split
  · exact h
  · split
    · exact h
    · split <;> [rfl; exact h]

theorem unshelve_leavesJudged (i : Nat) : LeavesJudged (unshelve i) := by
  intro s h; unfold unshelve
  split <;> [exact h; rfl]

theorem pumpService_leavesJudged (b v : Nat) : LeavesJudged (pumpService b v) := by
  intro s h; unfold pumpService
  split
  · exact h
  · split
    · exact h
    · split
      · exact h
      · split
        · exact h
        · split
          · exact ite_judged (fun _ => by refine leaveUnavailable_judged ?_ _; exact h) fun _ => h
          · exact outOfService_judged h _

theorem pumpForce_leavesJudged (b m : Nat) : LeavesJudged (pumpForce b m) := by
  intro s h; unfold pumpForce
  split
  · exact h
  · split
    · exact h
    · split
      · exact h
      · split <;> [exact h; exact (setForced_conditions s _ _).symm ▸ h]

theorem pumpReset_leavesJudged (b : Nat) : LeavesJudged (pumpReset b) := by
  intro s h; unfold pumpReset
  split
  · exact h
  · split
    · exact h
    · split
      · exact h
      · split <;> [exact h; exact releaseLockout_judged s _]

theorem screenRake_leavesJudged (x : Nat) : LeavesJudged (screenRake x) := by
  intro s h; unfold screenRake
  split
  · exact h
  · split <;> [exact h; exact (trigger_conditions s _).symm ▸ h]

theorem screenInhibit_leavesJudged (x v : Nat) : LeavesJudged (screenInhibit x v) := by
  intro s h; unfold screenInhibit
  split
  · exact h
  · split
    · exact h
    · split
      · exact h
      · exact ite_judged (fun _ => h) fun _ => by rwa [inhibitOff_conditions]

theorem screenReset_leavesJudged (x : Nat) : LeavesJudged (screenReset x) := by
  intro s h; unfold screenReset
  split
  · exact h
  · split
    · exact h
    · split
      · exact h
      · split <;> [exact h; exact clearJam_judged s _]

theorem openAuthority_leavesJudged : LeavesJudged openAuthority := by
  intro s h; unfold openAuthority
  split <;> [(split <;> exact h); exact h]

theorem answerChallenge_leavesJudged (v : Nat) : LeavesJudged (answerChallenge v) := by
  intro s h; unfold answerChallenge
  split
  · exact h
  · split <;> exact h
  · split <;> [exact h; exact lapse_judged _]
  · exact h

theorem releaseAuthority_leavesJudged : LeavesJudged releaseAuthority := by
  intro s h; unfold releaseAuthority
  split
  · exact h
  · exact h
  · exact lapse_judged _
  · exact h

theorem restartRequest_leavesJudged : LeavesJudged restartRequest := by
  intro s h; unfold restartRequest; split <;> exact h

theorem commitSettings_leavesJudged : LeavesJudged commitSettings := by
  intro s h; unfold commitSettings; split <;> exact h

theorem clearChannel_leavesJudged (i : Nat) : LeavesJudged (clearChannel i) := by
  intro s h; unfold clearChannel; split <;> [exact h; (split <;> exact h)]

theorem writeSetting_leavesJudged (table item : Nat) (value : Int) : LeavesJudged (writeSetting table item value) := by
  intro s h
  unfold writeSetting writeItem
  split
  · exact h
  · split
    · exact h
    · split
      · exact h
      · dsimp only
        split
        · refine writeEffects_judged ?_ table item; exact h
        · exact h

/-! ## Every owner keeps the law -/

/-- An owner that leaves the Episode Table, and the Condition Table judged. -/
theorem LeavesTable.attentionLawful {act : State → Answer} (ht : LeavesTable act) (hc : LeavesJudged act) {s : State}
    (hs : s.AttentionLawful) : (act s).state.AttentionLawful := hs.of_table (ht s) (hc s)

theorem LeavesPlant.attentionLawful {act : State → Answer} (hp : LeavesPlant act) (hc : LeavesJudged act) {s : State}
    (hs : s.AttentionLawful) : (act s).state.AttentionLawful := hp.table.attentionLawful hc hs

/-- A slot freed is judged with the rest (R153, R155). -/
theorem retireEpisode_attentionLawful (n serial : Nat) {s : State} (hs : s.AttentionLawful) :
    (retireEpisode n serial s).state.AttentionLawful := by
  unfold retireEpisode
  split
  · exact hs
  · split
    · exact hs
    · split
      · exact hs
      · exact report_attentionLawful (setEpisodes_attentionLawful hs _) _ _ _

theorem retireAccumulator_attentionLawful (n : Nat) {s : State} (hs : s.AttentionLawful) :
    (retireAccumulator n s).state.AttentionLawful := by
  unfold retireAccumulator
  split
  · exact hs
  · split <;> [exact hs; exact setEpisodes_attentionLawful hs _]

theorem ownerAnswer_attentionLawful (i : Instr) (s : State) (hs : s.AttentionLawful) :
    (ownerAnswer i s).state.AttentionLawful := by
  have privileged {a : Nat} {act : State → Answer} (ht : LeavesTable act) (hc : LeavesJudged act) :
      (privileged a act s).state.AttentionLawful :=
    (privileged_leavesTable a ht).attentionLawful (privileged_leavesJudged a hc) hs
  have reads (size : Nat) (record : State → Nat → List Byte) (start count : Nat) :
      (readRecords size (record s) start count s).state.AttentionLawful :=
    (readRecords_leavesPlant size record start count).attentionLawful (readRecords_leavesJudged size record start count) hs
  cases i with
  | retireEpisode i n => exact retireEpisode_attentionLawful i n hs
  | retireAccumulator n => exact retireAccumulator_attentionLawful n hs
  | readChannels st c => exact reads 4 channelChars st c
  | readConditions st c => exact reads 25 conditionChars st c
  | readPumps st c => exact reads 4 pumpChars st c
  | readScreens st c => exact reads 2 screenChars st c
  | readEpisodes st c => exact reads 16 episodeChars st c
  | readSettings t st c => exact (readSettings_leavesPlant t st c).attentionLawful (readSettings_leavesJudged t st c) hs
  | ackCondition i n => exact (ackCondition_leavesPlant i n).attentionLawful (ackCondition_leavesJudged i n) hs
  | ackAll => exact hs.of_plant rfl fun _ => rfl
  | screenRake x => exact (screenRake_leavesPlant x).attentionLawful (screenRake_leavesJudged x) hs
  | openAuthority => exact openAuthority_leavesTable.attentionLawful openAuthority_leavesJudged hs
  | answer v => exact (answerChallenge_leavesTable v).attentionLawful (answerChallenge_leavesJudged v) hs
  | releaseAuthority => exact releaseAuthority_leavesTable.attentionLawful releaseAuthority_leavesJudged hs
  | shelve a i m => exact privileged (shelve_leavesPlant i m).table (shelve_leavesJudged i m)
  | unshelve a i => exact privileged (unshelve_leavesPlant i).table (unshelve_leavesJudged i)
  | pumpService a b v => exact privileged (pumpService_leavesPlant b v).table (pumpService_leavesJudged b v)
  | pumpForce a b m => exact privileged (pumpForce_leavesPlant b m).table (pumpForce_leavesJudged b m)
  | pumpReset a b => exact privileged (pumpReset_leavesPlant b).table (pumpReset_leavesJudged b)
  | screenInhibit a x v => exact privileged (screenInhibit_leavesPlant x v).table (screenInhibit_leavesJudged x v)
  | screenReset a x => exact privileged (screenReset_leavesPlant x).table (screenReset_leavesJudged x)
  | restart a => exact privileged restartRequest_leavesTable restartRequest_leavesJudged
  | writeSetting a t i v => exact privileged (writeSetting_leavesTable t i v) (writeSetting_leavesJudged t i v)
  | commitSettings a => exact privileged commitSettings_leavesTable commitSettings_leavesJudged
  | clearChannel a i => exact privileged (clearChannel_leavesTable i) (clearChannel_leavesJudged i)
  | _ => exact hs

end Sys2Proof.Machine
end

section
/-! PROOFS. The law of attention over a step (R155, R168, R169). -/

namespace Sys2Proof.Machine

theorem attentionLawful_keptOnLine : KeptOnLine State.AttentionLawful where
  line _ _ hs := hs
  linkLost _ _ hs := report_attentionLawful hs _ _ _
  clock _ _ hs := hs
  settle _ hs := settle_attentionLawful hs
  restart s _ := restart_attentionLawful _ s
  owner := ownerAnswer_attentionLawful

section
variable {s : State} (hs : s.AttentionLawful)
include hs

/-- An effect that moves nothing of the part that no notice reaches and leaves the Condition Table judged, settled. -/
theorem attentionLawful_of_plant {f : State → State} (hp : (f s).plant = s.plant)
    (hc : s.conditions.Judged → (f s).conditions.Judged) : (settle (f s)).AttentionLawful :=
  settle_attentionLawful (hs.of_plant hp hc)

/-- An effect that moves nothing of that part and no condition record, settled. -/
theorem attentionLawful_of_quiet {f : State → State} (hp : (f s).plant = s.plant) (hc : (f s).conditions = s.conditions) :
    (settle (f s)).AttentionLawful := attentionLawful_of_plant hs hp fun h => by rwa [hc]

/-- A command that is no request keeps the law of attention. -/
theorem event_attentionLawful {c : Instr} (hc : c.request = none) {t : State} (h : exec c s = .next t) :
    t.AttentionLawful := by
  have acts {f : State → State} (h : powered f s = .next t) (hf : (f s).AttentionLawful) : t.AttentionLawful :=
    powered_keeps (fun _ => hf) hs h
  have ite {p : Prop} [Decidable p] {u v : State} (hu : u.AttentionLawful) (hv : v.AttentionLawful) :
      (if p then u else v).AttentionLawful := by split <;> assumption
  cases c with
  | coldStart => cases h; exact restart_attentionLawful _ _
  | warmSupplyRestart => cases h; exact restart_attentionLawful _ _
  | supplyLoss => cases h; exact loseSupply_attentionLawful hs
  | rawContactChange c v => cases c <;> (cases h; exact hs)
  | sampleArrival c i => exact acts h (ite (sampleArrives_attentionLawful hs c i) hs)
  | filterTimerExpiry i => exact acts h (filterExpires_attentionLawful hs i)
  | tipArrival =>
    unfold exec execTipArrival at h
    exact acts h (ite hs (settle_attentionLawful (countTip_attentionLawful hs)))
  | bounceTimerExpiry => cases h; split <;> exact hs
  | binClose => exact acts h (ite (settle_attentionLawful (closeBin_attentionLawful hs)) hs)
  | dryTimerExpiry =>
    unfold exec execDryTimerExpiry at h
    exact acts h (ite hs (ite hs (settle_attentionLawful (dryOut_attentionLawful hs))))
  | integrationTimerExpiry => exact acts h (ite (settle_attentionLawful (integrate_attentionLawful hs)) hs)
  | qualifyTimerExpiry => exact acts h (ite (settle_attentionLawful (openEpisode_attentionLawful hs)) hs)
  | mergeTimerExpiry => exact acts h (ite (settle_attentionLawful (settleEpisode_attentionLawful hs)) hs)
  | rosterSecondTimerExpiry =>
    exact acts h (ite (attentionLawful_of_quiet hs (rosterSecond_plant s) (rosterSecond_conditions s)) hs)
  | rampTimerExpiry => exact acts h (ite (attentionLawful_of_plant hs (rampExpires_plant s) fun h => rampExpires_judged h) hs)
  | gapTimerExpiry => exact acts h (ite (attentionLawful_of_quiet hs (gapExpires_plant s) (gapExpires_conditions s)) hs)
  | feedbackLossTimerExpiry b =>
    exact acts h (ite (attentionLawful_of_plant hs (lockOut_plant s b _) fun _ => lockOut_judged s b _) hs)
  | stopConfirmTimerExpiry b =>
    exact acts h (ite (ite (attentionLawful_of_plant hs (lockOut_plant s b _) fun _ => lockOut_judged s b _)
      (attentionLawful_of_quiet hs (stopConfirmed_plant s b) (stopConfirmed_conditions s b))) hs)
  | minRunTimerExpiry b =>
    exact acts h (ite (attentionLawful_of_quiet hs (minRunServed_plant s b) (minRunServed_conditions s b)) hs)
  | minRestTimerExpiry b =>
    exact acts h (ite (attentionLawful_of_quiet hs (minRestServed_plant s b) (minRestServed_conditions s b)) hs)
  | restartHoldExpiry => exact acts h (ite (attentionLawful_of_quiet hs (holdEnds_plant s) (holdEnds_conditions s)) hs)
  | changeoverTimerExpiry b => exact acts h (ite (settle_attentionLawful (s := s.post _) hs) hs)
  | restoreTimerExpiry => exact acts h (ite (settle_attentionLawful (restoreExpired_attentionLawful hs)) hs)
  | intervalTimerExpiry x =>
    exact acts h (ite (attentionLawful_of_quiet hs (intervalExpired_plant s x) (intervalExpired_conditions s x)) hs)
  | strokeTimerExpiry x =>
    exact acts h (ite (attentionLawful_of_plant hs (strokeExpired_plant s x) fun h => strokeExpired_judged h x) hs)
  | clearTimerExpiry x =>
    exact acts h (ite (attentionLawful_of_plant hs (clearExpired_plant s x) fun h => clearExpired_judged h x) hs)
  | shelveTimerExpiry i => exact acts h (ite (hs.of_plant rfl fun _ => rfl) hs)
  | receiveCharacter c => exact acts h (attentionLawful_keptOnLine.receive c hs)
  | lineBreak => exact acts h (attentionLawful_keptOnLine.lineError hs)
  | gapLimitExpiry => exact acts h (ite hs hs)
  | turnaroundTimerExpiry => exact acts h (ite hs hs)
  | replySent => exact acts h (ite (attentionLawful_keptOnLine.replyEnds hs) hs)
  | linkTimerExpiry =>
    exact acts h (ite (report_attentionLawful (s := s.setLine { s.line with linkTimer := none }) hs _ _ _) hs)
  | answerWindowExpiry => exact acts h (ite hs hs)
  | supervisionTimerExpiry =>
    exact acts h (ite (settle_attentionLawful (hs.of_table (lapse_table _) fun _ => lapse_judged _)) hs)
  | commitCompletion => exact acts h (ite hs hs)
  | clockSecondExpiry => exact acts h (ite hs hs)
  | _ => simp [Instr.request] at hc

end

end Sys2Proof.Machine

open Sys2Proof.Machine

/-- Settles O45: every report, acknowledgement and shelving judges the Condition Table anew, every write of an episode judges
ATTN_EPISODE anew, and what reports nothing leaves both tables as they are. -/
theorem attentionLawIsKept : Obligations.AttentionLawIsKept := by
  intro s t hs h
  unfold step at h
  split at h
  · exact powered_keeps (fun hs => passMillisecond_attentionLawful hs) hs h
  · rename_i rest _
    have hs' : ({ s with pending := rest } : State).AttentionLawful := hs
    exact attentionLawful_keptOnLine.exec (fun hc => event_attentionLawful hs' hc) hs' h
end

section
/-! PROOFS. The request table (R180, R186): no operand of a well-formed request loses a bit on the wire, and each code carries a
payload of one length. -/

namespace Sys2Proof.Machine

/-! ## The numbers of the wire read back -/

theorem toNat_byte (n : Nat) : (byte n).toNat = n % 256 := BitVec.toNat_ofNat n 8

theorem toNat_byte_fits {n : Nat} (h : fitsByte n) : (byte n).toNat = n := by rw [toNat_byte, Nat.mod_eq_of_lt h]

theorem ofWord_word {n : Nat} (h : fitsWord n) : ofWord (byte (n / 256)) (byte n) = n := by
  simp only [ofWord, toNat_byte]; omega

theorem ofLong_long {n : Nat} (h : fitsTime n) :
    ofLong (byte (n / 16777216)) (byte (n / 65536)) (byte (n / 256)) (byte n) = n := by
  simp only [ofLong, toNat_byte]; omega

theorem ofSigned_signed {v : Int} (h : fitsItem v) :
    ofSigned (byte (signedNat v / 256)) (byte (signedNat v)) = v := by
  have hfits : fitsWord (signedNat v) := by unfold signedNat fitsWord; omega
  obtain ⟨hlow, hhigh⟩ := h
  unfold ofSigned
  rw [ofWord_word hfits]
  unfold signedNat
  dsimp only
  split <;> omega

/-! ## The table, both ways -/

/-- A well-formed request of an addressed frame is the command its code and payload carry (R180, R186). -/
theorem ofRequest_request {c : Instr} {code : Nat} {payload : List Byte} (hc : c.WellFormed)
    (h : c.request = some (code, payload)) (hb : ∀ time, c ≠ .setClock true time) :
    Instr.ofRequest code payload = some c := by
  cases c with
  | setClock broadcast time =>
    cases broadcast with
    | true => exact absurd rfl (hb time)
    | false =>
      obtain ⟨rfl, rfl⟩ : 0x19 = code ∧ long time = payload := by simpa [Instr.request] using h
      exact congrArg (fun n => some (Instr.setClock false n)) (ofLong_long hc)
  | writeSetting a t i v =>
    obtain ⟨rfl, rfl⟩ : 0x17 = code ∧ word a ++ [byte t, byte i] ++ signed v = payload := by
      simpa [Instr.request] using h
    obtain ⟨ha, ht, hi, hv⟩ := hc
    show some (Instr.writeSetting _ _ _ _) = _
    rw [ofWord_word ha, toNat_byte_fits ht, toNat_byte_fits hi, ofSigned_signed hv]
  | _ =>
    simp only [Instr.request, Option.some.injEq, Prod.mk.injEq, reduceCtorEq] at h
    try
      obtain ⟨rfl, rfl⟩ := h
      simp only [Instr.WellFormed] at hc
      show some _ = some _
      simp [ofWord_word, toNat_byte_fits, hc]

/-- The number of payload characters that the table of 10.9 gives a code (R186). -/
def payloadLength : Nat → Option Nat
  | 0x01 | 0x05 | 0x12 | 0x14 | 0x15 | 0x1A | 0x1C => some 0
  | 0x0D => some 1
  | 0x02 | 0x03 | 0x08 | 0x0C | 0x10 | 0x13 | 0x18 | 0x1B | 0x1D => some 2
  | 0x04 | 0x07 | 0x0B | 0x0F | 0x11 | 0x16 | 0x1E => some 3
  | 0x09 | 0x0A | 0x0E | 0x19 => some 4
  | 0x06 => some 5
  | 0x17 => some 6
  | _ => none

/-- A code and payload carry a request exactly where the code is of the table and the length is the one it gives (R180). -/
theorem ofRequest_isSome (code : Nat) (payload : List Byte) :
    (Instr.ofRequest code payload).isSome = (payloadLength code == some payload.length) := by
  rcases Nat.lt_or_ge code 31 with hcode | hcode
  · interval_cases code <;> rcases payload with _ | ⟨_, _ | ⟨_, _ | ⟨_, _ | ⟨_, _ | ⟨_, _ | ⟨_, _ | _⟩⟩⟩⟩⟩⟩ <;> rfl
  · obtain ⟨n, rfl⟩ := Nat.exists_eq_add_of_le' hcode
    rfl

theorem payloadLength_of_ofRequest {code : Nat} {payload : List Byte} {c : Instr}
    (h : Instr.ofRequest code payload = some c) : payloadLength code = some payload.length := by
  have hsome := ofRequest_isSome code payload
  rw [h] at hsome
  exact beq_iff_eq.1 hsome.symm

/-- The codes of the table are 1 to 30, and no payload is longer than six characters. -/
theorem payloadLength_bounds {code n : Nat} (h : payloadLength code = some n) : 1 ≤ code ∧ code ≤ 0x1E ∧ n ≤ 6 := by
  unfold payloadLength at h
  split at h <;> cases h <;> omega

/-- A code and payload outside the table are refused with BAD_REQUEST and change nothing (R180). -/
theorem answerRequest_of_payloadLength_ne {code : Nat} {payload : List Byte} (s : State)
    (h : payloadLength code ≠ some payload.length) : answerRequest code payload s = ⟨s, .badRequest, []⟩ := by
  have hnone : Instr.ofRequest code payload = none := by
    rw [← Option.not_isSome_iff_eq_none, ofRequest_isSome]
    simpa using h
  rw [answerRequest, hnone]
  rfl

end Sys2Proof.Machine

open Sys2Proof Sys2Proof.Machine

/-- Settles O48: the numbers of the wire read back for the one half, and for the other the length that the table gives each
code. -/
theorem requestTableIsExact : Obligations.RequestTableIsExact := by
  refine ⟨fun c code payload hc h hb => ofRequest_request hc h hb, fun code payload s hout => ?_⟩
  refine answerRequest_of_payloadLength_ne s fun hlength => ?_
  have hbounds := payloadLength_bounds hlength
  have hgives {l : List Nat} {k n : Nat} (hk : k ∈ l) (hl : ∀ k ∈ l, payloadLength k = some n) (h : payload.length ≠ n)
      (hlength : payloadLength k = some payload.length) : False := h (Option.some.inj (hlength.symm.trans (hl k hk)))
  rcases hout with h | h | ⟨k, hk, rfl, h⟩ | ⟨k, hk, rfl, h⟩ | ⟨k, hk, rfl, h⟩ | ⟨k, hk, rfl, h⟩ | ⟨k, hk, rfl, h⟩ |
    ⟨k, hk, rfl, h⟩ | ⟨k, hk, rfl, h⟩
  · omega
  · omega
  all_goals exact hgives hk (by decide) h hlength
end

section
/-! PROOFS. The receiver (R174 to R178): what each state of it makes of a character, and the frame that a run of data characters
assembles. -/

namespace Sys2Proof.Machine

open Sys2Proof.Spec

/-! ## The line's commands on a part with supply -/

section
variable {s : State} (hp : s.power = .on)
include hp

theorem exec_receiveCharacter (c : Character) : exec (.receiveCharacter c) s = .next (receive c s) := powered_on _ _ hp

theorem exec_lineBreak : exec .lineBreak s = .next (lineError s) := powered_on _ _ hp

end

/-! ## Characters by kind (R174, R175) -/

theorem good_iff (c : Character) : c.good = true ↔ Good c := by simp [Character.good, Character.parityEven]

/-- A good character with its mark bit set is an address character. -/
theorem receive_address {c : Character} (hg : Good c) (hm : c.mark = true) (s : State) :
    receive c s = addressCharacter c.data.toNat s := by
  rw [receive, if_pos ((good_iff c).2 hg), if_pos hm]

/-- A good character with its mark bit clear is a data character. -/
theorem receive_data {c : Character} (hg : Good c) (hm : c.mark = false) (s : State) :
    receive c s = dataCharacter c.data s := by
  rw [receive, if_pos ((good_iff c).2 hg), if_neg (by rw [hm]; decide)]

theorem receive_errored {c : Character} (hg : ¬ Good c) (s : State) : receive c s = lineError s := by
  rw [receive, if_neg (mt (good_iff c).1 hg)]

/-! ## What each state of the receiver makes of them -/

section
variable {s : State}

/-- Only RECEIVING has anything to lose by an error. -/
theorem lineError_idle (h : s.line.receiver ≠ .receiving) : lineError s = s := by
  unfold lineError
  split
  · exact absurd ‹_› h
  all_goals rfl

theorem lineError_receiving (h : s.line.receiver = .receiving) : lineError s = abandonFrame s := by rw [lineError, h]

/-- Only RECEIVING takes data characters. -/
theorem dataCharacter_idle (h : s.line.receiver ≠ .receiving) (d : Byte) : dataCharacter d s = s := by
  unfold dataCharacter
  split
  · exact absurd ‹_› h
  · exact absurd ‹_› h
  all_goals rfl

theorem dataCharacter_receiving {f : Frame} (h : s.line.receiver = .receiving) (hf : s.line.frame = some f) (d : Byte) :
    dataCharacter d s = takeCharacter f d s := by rw [dataCharacter, h, hf]

/-- A character that is no good address character is heard in RECEIVING alone. -/
theorem receive_idle {c : Character} (hc : ¬ Good c ∨ c.mark = false) (h : s.line.receiver ≠ .receiving) :
    receive c s = s := by
  by_cases hg : Good c
  · rw [receive_data hg (hc.resolve_left (not_not_intro hg)), dataCharacter_idle h]
  · rw [receive_errored hg, lineError_idle h]

theorem receive_sending (c : Character) (h : s.line.receiver = .sending) : receive c s = s := by
  have hidle : s.line.receiver ≠ .receiving := by rw [h]; decide
  by_cases hc : Good c ∧ c.mark = true
  · rw [receive_address hc.1 hc.2, addressCharacter, h]
  · exact receive_idle ((not_and_or.1 hc).imp_right Bool.eq_false_iff.2) hidle

/-- An address character is heard on the line as it stands once it waits (R175, R176). -/
theorem hearAddress_listening (a : Nat) (l : Line) (s : State) (hl : l.address = s.line.address) :
    hearAddress a (s.setLine { l with receiver := .waiting }) = listening s l a := by
  unfold hearAddress listening
  simp only [setLine_line, hl]
  split
  · rfl
  · split <;> rfl

theorem addressCharacter_waiting (a : Nat) (h : s.line.receiver = .waiting) :
    addressCharacter a s = listening s s.line a := by
  have hsame : s = s.setLine { s.line with receiver := .waiting } := by rw [← h]; rfl
  rw [addressCharacter, h, ← hearAddress_listening a s.line s rfl, ← hsame]

/-- In RECEIVING the frame it breaks into is abandoned (R178). -/
theorem addressCharacter_breaksIn (a : Nat) (h : s.line.receiver = .receiving) :
    addressCharacter a s = listening s (abandoned s.line) a := by
  rw [addressCharacter, h]
  exact hearAddress_listening a (abandoned s.line) s rfl

/-- In TURNAROUND the pending reply is discarded (R181). -/
theorem addressCharacter_discards (a : Nat) (h : s.line.receiver = .turnaround) (hr : s.line.restartPending = false) :
    addressCharacter a s = listening s { s.line with turnaroundTimer := none, reply := none } a := by
  rw [addressCharacter, h]
  exact (if_neg (by rw [hr]; decide)).trans
    (hearAddress_listening a { s.line with turnaroundTimer := none, reply := none } s rfl)

/-- A discarded reply to RESTART brings the warm restart (R194). -/
theorem addressCharacter_restarts (a : Nat) (h : s.line.receiver = .turnaround) (hr : s.line.restartPending = true) :
    addressCharacter a s = restart .warmRequest s := by
  rw [addressCharacter, h]
  exact if_pos hr

end

/-! ## A frame's data characters (R176) -/

theorem lenKept_cons (len : Byte) (rest : List Byte) :
    lenKept (len :: rest) = true ↔ 1 ≤ len.toNat ∧ len.toNat ≤ 64 := by simp [lenKept]

theorem frameComplete_cons (len : Byte) (rest : List Byte) :
    frameComplete (len :: rest) = true ↔ rest.length = len.toNat + 2 := by simp [frameComplete]

section
variable {s : State} {f : Frame} {d len : Byte} {rest : List Byte} (hchars : f.chars ++ [d] = len :: rest)
include hchars

/-- A LEN out of range abandons the frame (R178). -/
theorem takeCharacter_lenRefused (h : len.toNat = 0 ∨ 64 < len.toNat) : takeCharacter f d s = abandonFrame s := by
  have hlen : lenKept (len :: rest) = false := by
    rw [← Bool.not_eq_true, lenKept_cons]; omega
  rw [takeCharacter, hchars]
  exact if_pos hlen

variable (hlow : 1 ≤ len.toNat) (hhigh : len.toNat ≤ 64)
include hlow hhigh

/-- A character that does not complete its frame joins it. -/
theorem takeCharacter_joins (h : rest.length ≠ len.toNat + 2) : takeCharacter f d s =
    s.setLine { s.line with frame := some { f with chars := len :: rest }, gapTimer := s.gapStart } := by
  have hlen : lenKept (len :: rest) = true := (lenKept_cons len rest).2 ⟨hlow, hhigh⟩
  have hpart : frameComplete (len :: rest) = false := Bool.eq_false_iff.2 (mt (frameComplete_cons len rest).1 h)
  rw [takeCharacter, hchars]
  simp only [hlen, hpart, Bool.true_eq_false, Bool.false_eq_true, if_false]

theorem takeCharacter_completes (h : rest.length = len.toNat + 2) :
    takeCharacter f d s = completeFrame f.broadcast (len :: rest) s := by
  have hlen : lenKept (len :: rest) = true := (lenKept_cons len rest).2 ⟨hlow, hhigh⟩
  rw [takeCharacter, hchars]
  simp only [hlen, (frameComplete_cons len rest).2 h, Bool.true_eq_false, if_false, if_true]

end

/-! ## A frame's completion (R177) -/

section
variable {s : State} {len : Byte} {rest : List Byte} (hwhole : rest.length = len.toNat + 2)
include hwhole

theorem completeFrame_refused (broadcast : Bool)
    (hcheck : rest.drop len.toNat ≠ checkChars (len :: rest.take len.toNat)) :
    completeFrame broadcast (len :: rest) s = abandonFrame s := by
  have hcut : (len :: rest).length - 2 = len.toNat + 1 := by rw [List.length_cons, hwhole]; rfl
  rw [completeFrame, checkedPart, hcut, List.drop_succ_cons, List.take_succ_cons, if_neg hcheck]

/-- A frame whose CHECK matches is a request's, addressed or broadcast. -/
theorem completeFrame_valid (broadcast : Bool) {req : Byte} {payload : List Byte}
    (hcheck : rest.drop len.toNat = checkChars (len :: rest.take len.toNat)) (hbody : rest.take len.toNat = req :: payload) :
    completeFrame broadcast (len :: rest) s =
      if broadcast then takeBroadcast req.toNat payload s else answerFrame req.toNat (answerRequest req.toNat payload) s := by
  have hcut : (len :: rest).length - 2 = len.toNat + 1 := by rw [List.length_cons, hwhole]; rfl
  rw [completeFrame, checkedPart, hcut, List.drop_succ_cons, List.take_succ_cons, if_pos hcheck, hbody]

end

theorem takeBroadcast_setClock (a b c d : Byte) (s : State) :
    takeBroadcast 0x19 [a, b, c, d] s = endBroadcast (setClock (ofLong a b c d) s) := rfl

/-- A broadcast that is no SET_CLOCK of four characters is not acted on (R180). -/
theorem takeBroadcast_other {req : Byte} {payload : List Byte} (s : State)
    (h : ∀ a b c d, req :: payload ≠ [0x19#8, a, b, c, d]) : takeBroadcast req.toNat payload s = endBroadcast s := by
  unfold takeBroadcast
  split
  · rename_i a b c d hreq
    exact absurd (by rw [BitVec.eq_of_toNat_eq (y := 0x19#8) hreq]) (h a b c d)
  · rfl

end Sys2Proof.Machine

open Sys2Proof Sys2Proof.Machine Sys2Proof.Spec

/-- Settles O46: by the receiver's state for characters and breaks, and in RECEIVING by what the character makes of its frame. -/
theorem receiverHearsAndAbandons : Obligations.ReceiverHearsAndAbandons := by
  refine ⟨fun c s hp => ?_, ?_⟩
  · rw [exec_receiveCharacter hp, exec_lineBreak hp]
    refine ⟨fun hg hm => ?_, fun hr => ?_, fun hr => ?_, fun hgap => ?_, fun hr => ?_⟩
    · rw [receive_address hg hm]
      exact ⟨fun hr => congrArg _ (addressCharacter_waiting _ hr), fun hr => congrArg _ (addressCharacter_breaksIn _ hr),
        fun hr hpending => congrArg _ (addressCharacter_discards _ hr hpending),
        fun hr hpending => congrArg _ (addressCharacter_restarts _ hr hpending)⟩
    · have hidle : s.line.receiver ≠ .receiving := by rcases hr with h | h <;> rw [h] <;> decide
      exact ⟨fun hc => congrArg _ (receive_idle hc hidle), congrArg _ (lineError_idle hidle)⟩
    · exact ⟨fun hg => congrArg _ ((receive_errored hg s).trans (lineError_receiving hr)),
        congrArg _ (lineError_receiving hr)⟩
    · exact (powered_on _ _ hp).trans (congrArg _ (if_pos hgap))
    · exact ⟨congrArg _ (receive_sending c hr), congrArg _ (lineError_idle (by rw [hr]; decide))⟩
  · intro c f len rest s hp hr hf hg hm hchars body
    rw [exec_receiveCharacter hp, receive_data hg hm, dataCharacter_receiving hr hf]
    refine ⟨fun hlen => congrArg _ (takeCharacter_lenRefused hchars hlen), fun hlow hhigh => ⟨fun hpart =>
      congrArg _ (takeCharacter_joins hchars hlow hhigh hpart), fun hwhole hcheck => ?_, fun hwhole hcheck hb => ?_⟩⟩
    · rw [takeCharacter_completes hchars hlow hhigh hwhole, completeFrame_refused hwhole _ hcheck]; rfl
    · rw [takeCharacter_completes hchars hlow hhigh hwhole, hb]
      have hvalid {req : Byte} {payload : List Byte} (hbody : body = req :: payload) :
          completeFrame true (len :: rest) s = takeBroadcast req.toNat payload s :=
        completeFrame_valid hwhole true hcheck hbody
      refine ⟨fun a b d e hbody => ?_, fun hother => ?_⟩
      · rw [hvalid hbody, show (0x19#8 : Byte).toNat = 0x19 from rfl, takeBroadcast_setClock]
        have htime : ofLong a b d e % timeRange = ofLong a b d e := by
          refine Nat.mod_eq_of_lt ?_
          unfold ofLong timeRange; omega
        rw [setClock, htime]; rfl
      · obtain ⟨req, payload, hbody⟩ : ∃ req payload, body = req :: payload := by
          refine List.exists_cons_of_length_pos ?_
          rw [List.length_take]; omega
        rw [hvalid hbody, takeBroadcast_other s (hbody ▸ hother)]; rfl
end

section
/-! PROOFS. A request command is its frame (R174 to R177, R180): the whole addressed frame, character by character. -/

namespace Sys2Proof.Machine

open Sys2Proof.Spec

/-! ## A run of data characters -/

/-- Data characters as a sender makes them (R174). -/
def dataRun (data : List Byte) : List Character := data.map (Character.make · false)

theorem hearAll_cons (c : Character) (chars : List Character) (s : State) :
    hearAll (c :: chars) s = hearAll chars (receive c s) := rfl

theorem hearAll_dataRun_cons (d : Byte) (data : List Byte) (s : State) :
    hearAll (dataRun (d :: data)) s = hearAll (dataRun data) (dataCharacter d s) := by
  rw [dataRun, List.map_cons, hearAll_cons, receive_data ((good_iff _).1 (good_make d false)) rfl]; rfl

theorem hearAll_dataRun_append (a b : List Byte) (s : State) :
    hearAll (dataRun (a ++ b)) s = hearAll (dataRun b) (hearAll (dataRun a) s) := by
  rw [hearAll, dataRun, List.map_append, List.foldl_append]; rfl

/-- A receiver that is not in RECEIVING hears no data character. -/
theorem hearAll_dataRun_idle {s : State} (h : s.line.receiver ≠ .receiving) (data : List Byte) :
    hearAll (dataRun data) s = s := by
  induction data with
  | nil => rfl
  | cons d data ih => rw [hearAll_dataRun_cons, dataCharacter_idle h, ih]

/-! ## An addressed frame being received (R176) -/

/-- The state in RECEIVING with the characters of an addressed frame heard so far, the gap timer just started. -/
def assembling (chars : List Byte) (s : State) : State :=
  s.setLine { s.line with receiver := .receiving, frame := some ⟨false, chars⟩, gapTimer := s.gapStart }

/-- The characters from LEN on of a frame that goes on being received: its LEN is kept and it is not complete. -/
def Unfinished : List Byte → Prop
  | [] => True
  | len :: rest => 1 ≤ len.toNat ∧ len.toNat ≤ 64 ∧ rest.length < len.toNat + 2

theorem Unfinished.of_append {a b : List Byte} (h : Unfinished (a ++ b)) : Unfinished a := by
  cases a with
  | nil => trivial
  | cons len rest =>
    obtain ⟨hlow, hhigh, hlength⟩ := h
    exact ⟨hlow, hhigh, (List.sublist_append_left rest b).length_le.trans_lt hlength⟩

/-- A character of a frame that stays unfinished joins it. -/
theorem dataCharacter_assembling {chars : List Byte} {d : Byte} (h : Unfinished (chars ++ [d])) (s : State) :
    dataCharacter d (assembling chars s) = assembling (chars ++ [d]) s := by
  obtain ⟨len, rest, hchars⟩ := List.exists_cons_of_ne_nil (List.append_ne_nil_of_right_ne_nil chars (List.cons_ne_nil d []))
  rw [hchars] at h ⊢
  obtain ⟨hlow, hhigh, hlength⟩ := h
  rw [dataCharacter_receiving (f := ⟨false, chars⟩) rfl rfl, takeCharacter_joins hchars hlow hhigh hlength.ne]
  rfl

/-- The characters of a frame that stays unfinished are assembled. -/
theorem hearAll_assembling (s : State) (data : List Byte) : ∀ chars, Unfinished (chars ++ data) →
    hearAll (dataRun data) (assembling chars s) = assembling (chars ++ data) s := by
  induction data with
  | nil => intro chars _; rw [List.append_nil]; rfl
  | cons d data ih =>
    intro chars h
    rw [List.append_cons] at h ⊢
    rw [hearAll_dataRun_cons, dataCharacter_assembling h.of_append, ih _ h]

/-- The last character of a good frame: the request is taken as from the state in which the frame began (R177). -/
theorem completeFrame_assembling {len req : Byte} {rest chars payload : List Byte} (s : State)
    (hwhole : rest.length = len.toNat + 2) (hcheck : rest.drop len.toNat = checkChars (len :: rest.take len.toNat))
    (hbody : rest.take len.toNat = req :: payload) : completeFrame false (len :: rest) (assembling chars s) =
      answerFrame req.toNat (answerRequest req.toNat payload) (assembling [] s) := by
  rw [completeFrame_valid hwhole false hcheck hbody]
  rfl

/-- A whole good addressed frame heard in RECEIVING, its two CHECK characters as they come (R176, R177). -/
theorem hearAll_checked {len req hi lo : Byte} {payload : List Byte} (s : State)
    (hlen : len.toNat = (req :: payload).length) (hhigh : (req :: payload).length ≤ 64)
    (hcheck : checkChars (len :: req :: payload) = [hi, lo]) :
    hearAll (dataRun (len :: req :: payload ++ [hi, lo])) (assembling [] s) =
      answerFrame req.toNat (answerRequest req.toNat payload) (assembling [] s) := by
  have hwhole : (req :: payload ++ [hi, lo]).length = len.toNat + 2 := by rw [hlen, List.length_append]; rfl
  have htake : (req :: payload ++ [hi, lo]).take len.toNat = req :: payload := by rw [hlen, List.take_left]
  have hdrop : (req :: payload ++ [hi, lo]).drop len.toNat =
      checkChars (len :: (req :: payload ++ [hi, lo]).take len.toNat) := by rw [htake, hcheck, hlen, List.drop_left]
  have hlow : 1 ≤ len.toNat := by rw [hlen]; exact Nat.succ_pos _
  have hhigh : len.toNat ≤ 64 := by rw [hlen]; exact hhigh
  have hfirst : Unfinished ([] ++ (len :: req :: payload ++ [hi])) := by
    have hlength : (req :: payload ++ [hi]).length = len.toNat + 1 := by rw [hlen, List.length_append]; rfl
    exact ⟨hlow, hhigh, hlength.trans_lt (Nat.lt_succ_self _)⟩
  have hlast : (len :: req :: payload ++ [hi]) ++ [lo] = len :: (req :: payload ++ [hi, lo]) := by simp
  calc hearAll (dataRun (len :: req :: payload ++ [hi, lo])) (assembling [] s)
      = hearAll (dataRun ((len :: req :: payload ++ [hi]) ++ [lo])) (assembling [] s) := by rw [hlast]; rfl
    _ = dataCharacter lo (assembling (len :: req :: payload ++ [hi]) s) := by
        rw [hearAll_dataRun_append, hearAll_assembling s _ [] hfirst, hearAll_dataRun_cons]; rfl
    _ = completeFrame false (len :: (req :: payload ++ [hi, lo])) (assembling (len :: req :: payload ++ [hi]) s) := by
        rw [dataCharacter_receiving (f := ⟨false, len :: req :: payload ++ [hi]⟩) rfl rfl,
          takeCharacter_completes hlast hlow hhigh hwhole]
    _ = answerFrame req.toNat (answerRequest req.toNat payload) (assembling [] s) :=
        completeFrame_assembling s hwhole hdrop htake

/-- The characters of a request's frame behind its address have the request taken as from the state in which it began. -/
theorem hearAll_frame {code : Nat} {payload : List Byte} (s : State) (hcode : code < 256) (hlength : payload.length ≤ 63) :
    hearAll (dataRun (requestChars code payload ++ checkChars (requestChars code payload))) (assembling [] s) =
      answerFrame code (answerRequest code payload) (assembling [] s) := by
  have hlen : (byte (1 + payload.length)).toNat = (byte code :: payload).length := by
    rw [toNat_byte_fits (by unfold fitsByte; omega), Nat.add_comm]; rfl
  have hheard := hearAll_checked s hlen (Nat.succ_le_succ hlength) rfl
  rwa [toNat_byte_fits hcode] at hheard

/-! ## The station's own address character (R175) -/

/-- The station's own address begins a frame, unless the receiver is sending or the discarded reply brings a restart. -/
theorem addressCharacter_own (s : State) : (∃ t, addressCharacter s.line.address s = assembling [] t) ∨
    (addressCharacter s.line.address s).line.receiver ≠ .receiving := by
  have hown (l : Line) : ∃ t, listening s l s.line.address = assembling [] t :=
    ⟨s.setLine l, by rw [listening, if_pos rfl]; rfl⟩
  cases hr : s.line.receiver with
  | waiting => rw [addressCharacter_waiting _ hr]; exact .inl (hown _)
  | receiving => rw [addressCharacter_breaksIn _ hr]; exact .inl (hown _)
  | turnaround =>
    cases hpending : s.line.restartPending with
    | false => rw [addressCharacter_discards _ hr hpending]; exact .inl (hown _)
    | true =>
      rw [addressCharacter_restarts _ hr hpending, restart_line_eq]
      exact .inr nofun
  | sending =>
    have hsame : addressCharacter s.line.address s = s := by rw [addressCharacter, hr]
    rw [hsame, hr]
    exact .inr (by decide)

/-- A request command as its owner's answer to the frame begun, or what its address character leaves (log 6). -/
theorem addressed_assembling {s t : State} (code : Nat) (act : State → Answer) (hp : s.power = .on)
    (h : addressCharacter s.line.address s = assembling [] t) :
    addressed code act s = .next (answerFrame code act (assembling [] t)) := by
  rw [addressed, powered_on _ _ hp]
  dsimp only
  rw [h]
  exact congrArg _ (if_pos rfl)

theorem addressed_idle {s : State} (code : Nat) (act : State → Answer) (hp : s.power = .on)
    (h : (addressCharacter s.line.address s).line.receiver ≠ .receiving) :
    addressed code act s = .next (addressCharacter s.line.address s) := by
  rw [addressed, powered_on _ _ hp]
  exact congrArg _ (if_neg h)

end Sys2Proof.Machine

open Sys2Proof Sys2Proof.Machine

/-- Settles O47: what the station's own address character leaves, and the frame assembled from there to its last character. -/
theorem requestIsItsFrame : Obligations.RequestIsItsFrame := by
  intro c code payload s hc hreq hb hp hlow hhigh
  have htable : Instr.ofRequest code payload = some c := ofRequest_request hc hreq hb
  obtain ⟨-, hcode, hlength⟩ := payloadLength_bounds (payloadLength_of_ofRequest htable)
  have hact : answerRequest code payload = ownerAnswer c := by funext t; rw [answerRequest, htable]
  have hheard : hearAll (requestFrame s.line.address code payload) s =
      hearAll (dataRun (requestChars code payload ++ checkChars (requestChars code payload)))
        (addressCharacter s.line.address s) := by
    have haddress : receive (.make (byte s.line.address) true) s = addressCharacter s.line.address s := by
      rw [receive_address ((good_iff _).1 (good_make _ _)) rfl]
      exact congrArg (addressCharacter · s) (toNat_byte_fits (Nat.lt_succ_of_le hhigh))
    rw [requestFrame, hearAll_cons, haddress, dataRun]
  rw [exec_request s hreq hb, hheard]
  rcases addressCharacter_own s with ⟨t, ht⟩ | hidle
  · rw [addressed_assembling code _ hp ht, ht, hearAll_frame t (by omega) (by omega), hact]
  · rw [addressed_idle code _ hp hidle, hearAll_dataRun_idle hidle]
end

section
/-! PROOFS. The line's timers (R179, R181). -/

open Sys2Proof Sys2Proof.Machine Sys2Proof.Spec

/-- Settles O50: each timer's expiry as its command has it, and the report of LINK_LOST record by record. -/
theorem replyAndLinkTimersExpire : Obligations.ReplyAndLinkTimersExpire := by
  refine ⟨fun s hp => ⟨fun hturn => ?_, fun hr hpending => ?_⟩, fun s hp hlink => ?_⟩
  · exact (powered_on _ _ hp).trans (congrArg _ (if_pos hturn))
  · have hends : replyEnds s = s.setLine { s.line with receiver := .waiting, reply := none } :=
      if_neg (by rw [hpending]; decide)
    exact (powered_on _ _ hp).trans (congrArg _ ((if_pos hr).trans hends))
  · let stopped := s.setLine { s.line with linkTimer := none }
    refine ⟨stopped.report .linkLost true, (powered_on _ _ hp).trans (congrArg _ (if_pos hlink)), ?_,
      fun i hi => cond_report_ne stopped true none hi, rfl⟩
    rw [cond_report_self, told, CondRec.takeReport_active]
end

section
/-! PROOFS. The queue of waiting commands: no command touches it (R182, R199). -/

namespace Sys2Proof.Machine

/-! ## What no notice reaches, as the queue is -/

theorem ite_pending {p : Prop} [Decidable p] {s u v : State} (hu : u.pending = s.pending) (hv : v.pending = s.pending) :
    (if p then u else v).pending = s.pending := by split <;> assumption

theorem pending_of_plant {s t : State} (h : t.plant = s.plant) : t.pending = s.pending := congrArg Plant.pending h

section
variable (s : State)

@[simp] theorem settle_pending : (settle s).pending = s.pending := pending_of_plant (settle_plant s)
@[simp] theorem setRain_pending (r : Rain) : (setRain r s).pending = s.pending := congrArg Plant.pending (setRain_plant s r)

/-! ## Rain, episodes and spills -/

theorem countTip_pending : (countTip s).pending = s.pending := by
  rw [countTip_eq, setRain_pending, episodeTip_frame]

theorem closeBin_pending : (closeBin s).pending = s.pending := by rw [closeBin_eq, setRain_pending]

theorem dryOut_pending : (dryOut s).pending = s.pending := by rw [dryOut_eq, setRain_pending]

theorem settleEpisode_pending : (settleEpisode s).pending = s.pending := by
  rw [settleEpisode_eq, setRain_pending, setEpisodes_pending]

theorem openEpisode_pending : (openEpisode s).pending = s.pending := by
  cases hp : s.spill.accumulation with
  | none => unfold openEpisode; rw [hp]
  | some p => rw [openEpisode_frame s hp, openedBare_frame]

theorem settle_integrate_pending : (settle (integrate s)).pending = s.pending :=
  congrArg Plant.pending (settle_integrate_plant s)

/-! ## The supply and the authority -/

theorem recomputeLimit_pending : (recomputeLimit s).pending = s.pending := congrArg Plant.pending (recomputeLimit_plant s)

theorem decideSupply_pending : (decideSupply s).pending = s.pending :=
  ite_pending rfl (congrArg Plant.pending (changeSupply_plant _ s))

theorem limitWritten_pending : (limitWritten s).pending = s.pending :=
  ite_pending (recomputeLimit_pending s) (recomputeLimit_pending s)

theorem restoreExpired_pending : (restoreExpired s).pending = s.pending :=
  congrArg Plant.pending (arbiterGate_plant { s with supply := { s.supply with restoreTimer := none } } _ _)

theorem lapse_pending : (lapse s).pending = s.pending := pending_of_plant (lapse_plant s)

theorem permitChange_pending (on : Bool) : (permitChange on s).pending = s.pending := by
  unfold permitChange
  dsimp only
  split
  · split <;> rfl
  · split
    · rfl
    · exact lapse_pending _
    · rfl
    · rfl

/-! ## The inputs, a sample, a loss of supply -/

theorem handSwitch_pending (w : Switch) (closed : Bool) : (handSwitch w closed s).pending = s.pending := by
  cases w with
  | mainsPresent => exact decideSupply_pending _
  | generatorRunning => exact decideSupply_pending _
  | remotePermit => exact permitChange_pending s closed
  | hf | lf | sp => rfl
  | runFeedback b => exact pending_of_plant (feedbackChange_plant s b closed)
  | sealLeak b => exact pending_of_plant (sealChange_plant s b closed)
  | screenSelector x => exact pending_of_plant (screenSelectorChange_plant s x closed)
  | starterReady | starterFault => exact pending_of_plant (judgeStarter_plant s)
  | overload b => exact ite_pending rfl (pending_of_plant (overloadTrip_plant s b))
  | topLimit x => exact ite_pending (pending_of_plant (topMade_plant s x)) rfl
  | homeLimit x => exact ite_pending (pending_of_plant (homeMade_plant s x)) rfl
  | rakeOverload x => exact ite_pending rfl (pending_of_plant (rakeTrip_plant s x))
  | accept => exact ite_pending (u := acknowledgeAll s) rfl rfl

theorem filterExpires_pending (i : Input) : (filterExpires i s).pending = s.pending := by
  unfold filterExpires
  split <;> split
  · rfl
  · rw [settle_pending, handSwitch_pending]
  · rfl
  · rw [settle_pending]; exact congrArg Plant.pending (selectorChange_plant _ _ _)

theorem sampleArrives_pending (c : Channel) (current : Nat) : (sampleArrives c current s).pending = s.pending :=
  congrArg Plant.pending (sampleArrives_plant s c current)

theorem loseSupply_pending : (loseSupply s).pending = s.pending := by
  unfold loseSupply cutCommit
  split
  · rfl
  · split <;> rfl

end

/-! ## The owners of the requests -/

/-- An owner whose answer leaves the queue as it is. -/
def LeavesQueue (act : State → Answer) : Prop := ∀ s, (act s).state.pending = s.pending

theorem LeavesPlant.queue {act : State → Answer} (h : LeavesPlant act) : LeavesQueue act := fun s => pending_of_plant (h s)

theorem privileged_leavesQueue (ans : Nat) {act : State → Answer} (h : LeavesQueue act) :
    LeavesQueue (privileged ans act) := by
  intro s
  unfold privileged
  split
  · rfl
  · rfl
  · split
    · exact h (grantAuthority s)
    · exact lapse_pending (countFailure s)
  · rfl

theorem retireEpisode_leavesQueue (slot serial : Nat) : LeavesQueue (retireEpisode slot serial) := by
  intro s; unfold retireEpisode; repeat' split
  all_goals rfl

theorem retireAccumulator_leavesQueue (count : Nat) : LeavesQueue (retireAccumulator count) := by
  intro s; unfold retireAccumulator; repeat' split
  all_goals rfl

theorem openAuthority_leavesQueue : LeavesQueue openAuthority := by
  intro s; unfold openAuthority; repeat' split
  all_goals rfl

theorem answerChallenge_leavesQueue (value : Nat) : LeavesQueue (answerChallenge value) := by
  intro s; unfold answerChallenge
  split
  · rfl
  · split <;> rfl
  · split
    · rfl
    · exact lapse_pending (countFailure s)
  · rfl

theorem releaseAuthority_leavesQueue : LeavesQueue releaseAuthority := by
  intro s; unfold releaseAuthority
  split
  · rfl
  · rfl
  · exact lapse_pending (dropAuthority s)
  · rfl

theorem restartRequest_leavesQueue : LeavesQueue restartRequest := by
  intro s; unfold restartRequest; split <;> rfl

theorem commitSettings_leavesQueue : LeavesQueue commitSettings := by
  intro s; unfold commitSettings; split <;> rfl

theorem clearChannel_leavesQueue (index : Nat) : LeavesQueue (clearChannel index) := by
  intro s; unfold clearChannel; split <;> [rfl; (split <;> rfl)]

theorem writeEffects_pending (table item : Nat) (s : State) : (writeEffects table item s).pending = s.pending := by
  unfold writeEffects
  split
  · split <;> rfl
  · split
    · exact limitWritten_pending s
    · rfl

theorem writeSetting_leavesQueue (table item : Nat) (value : Int) : LeavesQueue (writeSetting table item value) := by
  have hwrite (s : State) : (writeItem table item value s).state.pending = s.pending := by
    unfold writeItem
    dsimp only
    split
    · exact writeEffects_pending _ _ _
    · rfl
  intro s
  unfold writeSetting
  split
  · rfl
  · split
    · rfl
    · split
      · rfl
      · exact hwrite s

/-- Every owner's answer leaves the queue as it is. -/
theorem ownerAnswer_leavesQueue (i : Instr) : LeavesQueue (ownerAnswer i) := by
  cases i with
  | retireEpisode i n => exact retireEpisode_leavesQueue i n
  | retireAccumulator n => exact retireAccumulator_leavesQueue n
  | readChannels st c => exact (readRecords_leavesPlant 4 channelChars st c).queue
  | readConditions st c => exact (readRecords_leavesPlant 25 conditionChars st c).queue
  | readPumps st c => exact (readRecords_leavesPlant 4 pumpChars st c).queue
  | readScreens st c => exact (readRecords_leavesPlant 2 screenChars st c).queue
  | readEpisodes st c => exact (readRecords_leavesPlant 16 episodeChars st c).queue
  | readSettings t st c => exact (readSettings_leavesPlant t st c).queue
  | ackCondition i n => exact (ackCondition_leavesPlant i n).queue
  | screenRake x => exact (screenRake_leavesPlant x).queue
  | openAuthority => exact openAuthority_leavesQueue
  | answer v => exact answerChallenge_leavesQueue v
  | releaseAuthority => exact releaseAuthority_leavesQueue
  | shelve a i m => exact privileged_leavesQueue a (shelve_leavesPlant i m).queue
  | unshelve a i => exact privileged_leavesQueue a (unshelve_leavesPlant i).queue
  | pumpService a b v => exact privileged_leavesQueue a (pumpService_leavesPlant b v).queue
  | pumpForce a b m => exact privileged_leavesQueue a (pumpForce_leavesPlant b m).queue
  | pumpReset a b => exact privileged_leavesQueue a (pumpReset_leavesPlant b).queue
  | screenInhibit a x v => exact privileged_leavesQueue a (screenInhibit_leavesPlant x v).queue
  | screenReset a x => exact privileged_leavesQueue a (screenReset_leavesPlant x).queue
  | restart a => exact privileged_leavesQueue a restartRequest_leavesQueue
  | writeSetting a t i v => exact privileged_leavesQueue a (writeSetting_leavesQueue t i v)
  | commitSettings a => exact privileged_leavesQueue a commitSettings_leavesQueue
  | clearChannel a i => exact privileged_leavesQueue a (clearChannel_leavesQueue i)
  | _ => exact fun _ => rfl

/-! ## Every command -/

/-- A queue of waiting commands is kept on the line. -/
theorem pending_keptOnLine (l : List Instr) : KeptOnLine fun s => s.pending = l where
  line _ _ h := h
  linkLost _ _ h := h
  clock _ _ h := h
  settle s h := (settle_pending s).trans h
  restart s h := (restart_pending .warmRequest s).trans h
  owner i s h := (ownerAnswer_leavesQueue i s).trans h

/-- A command that is no request leaves the queue as it is. -/
theorem event_pending {c : Instr} (hc : c.request = none) {s t : State} (h : exec c s = .next t) : t.pending = s.pending := by
  have acts {f : State → State} (h : powered f s = .next t) (hf : (f s).pending = s.pending) : t.pending = s.pending :=
    powered_keeps (P := fun u => u.pending = s.pending) (fun _ => hf) rfl h
  have settled {u : State} (hu : u.plant = s.plant) : (settle u).pending = s.pending :=
    (settle_pending u).trans (pending_of_plant hu)
  have line := pending_keptOnLine s.pending
  cases c with
  | coldStart => cases h; exact (restart_pending _ _).trans (loseSupply_pending s)
  | warmSupplyRestart => cases h; exact (restart_pending _ _).trans (loseSupply_pending s)
  | supplyLoss => cases h; exact loseSupply_pending s
  | sampleArrival c i => exact acts h (ite_pending (sampleArrives_pending s c i) rfl)
  | rawContactChange c v => cases c <;> (cases h; rfl)
  | filterTimerExpiry i => exact acts h (filterExpires_pending s i)
  | tipArrival =>
    unfold exec execTipArrival at h
    exact acts h (ite_pending rfl ((settle_pending _).trans (countTip_pending s)))
  | bounceTimerExpiry =>
    unfold exec execBounceTimerExpiry at h
    exact acts h rfl
  | binClose => exact acts h (ite_pending ((settle_pending _).trans (closeBin_pending s)) rfl)
  | dryTimerExpiry =>
    unfold exec execDryTimerExpiry at h
    exact acts h (ite_pending rfl (ite_pending (lateExpiry_pending s) ((settle_pending _).trans (dryOut_pending s))))
  | rosterSecondTimerExpiry => exact acts h (ite_pending (settled (rosterSecond_plant s)) rfl)
  | rampTimerExpiry => exact acts h (ite_pending (settled (rampExpires_plant s)) rfl)
  | gapTimerExpiry => exact acts h (ite_pending (settled (gapExpires_plant s)) rfl)
  | feedbackLossTimerExpiry b => exact acts h (ite_pending (settled (lockOut_plant s b _)) rfl)
  | stopConfirmTimerExpiry b =>
    exact acts h (ite_pending (ite_pending (settled (lockOut_plant s b _)) (settled (stopConfirmed_plant s b))) rfl)
  | minRunTimerExpiry b => exact acts h (ite_pending (settled (minRunServed_plant s b)) rfl)
  | minRestTimerExpiry b => exact acts h (ite_pending (settled (minRestServed_plant s b)) rfl)
  | restartHoldExpiry => exact acts h (ite_pending (settled (holdEnds_plant s)) rfl)
  | changeoverTimerExpiry b => exact acts h (ite_pending (settled (post_plant s _)) rfl)
  | restoreTimerExpiry => exact acts h (ite_pending ((settle_pending _).trans (restoreExpired_pending s)) rfl)
  | intervalTimerExpiry x => exact acts h (ite_pending (settled (intervalExpired_plant s x)) rfl)
  | strokeTimerExpiry x => exact acts h (ite_pending (settled (strokeExpired_plant s x)) rfl)
  | clearTimerExpiry x => exact acts h (ite_pending (settled (clearExpired_plant s x)) rfl)
  | integrationTimerExpiry => exact acts h (ite_pending (settle_integrate_pending s) rfl)
  | qualifyTimerExpiry => exact acts h (ite_pending ((settle_pending _).trans (openEpisode_pending s)) rfl)
  | mergeTimerExpiry => exact acts h (ite_pending ((settle_pending _).trans (settleEpisode_pending s)) rfl)
  | receiveCharacter c => exact acts h (line.receive c rfl)
  | lineBreak => exact acts h (line.lineError rfl)
  | replySent => exact acts h (ite_pending (line.replyEnds rfl) rfl)
  | supervisionTimerExpiry => exact acts h (ite_pending ((settle_pending _).trans (lapse_pending (countFailure s))) rfl)
  | shelveTimerExpiry _ | gapLimitExpiry | turnaroundTimerExpiry | linkTimerExpiry | answerWindowExpiry | commitCompletion
  | clockSecondExpiry => exact acts h (ite_pending rfl rfl)
  | _ => simp [Instr.request] at hc

/-- Every command answers a next state. -/
theorem exec_next (c : Instr) (s : State) : ∃ t, exec c s = .next t := by
  cases c with
  | rawContactChange c v => cases c <;> exact ⟨_, rfl⟩
  | setClock broadcast n => cases broadcast <;> exact ⟨_, rfl⟩
  | _ => exact ⟨_, rfl⟩

end Sys2Proof.Machine

open Sys2Proof Sys2Proof.Machine

/-- Settles O3: the line's part of a request for the one half of the commands, each expiry's and each input's own operations for
the other, and what no notice reaches for all that they settle. -/
theorem everyCommandAnswersANextState : Obligations.EveryCommandAnswersANextState := by
  intro c s
  obtain ⟨t, ht⟩ := exec_next c s
  exact ⟨t, ht, (pending_keptOnLine s.pending).exec (fun hc h => event_pending hc h) rfl ht⟩
end

section
/-! PROOFS. The Authority Monitor's timers (R191), a privileged request without authority (R190), and RESTART (R194). -/

namespace Sys2Proof.Machine

open Sys2Proof.Spec

/-! ## What a lapse with a failure counted leaves (R187, R193) -/

/-- A lapse moves no part of the plant beside the failure counted. -/
theorem lapse_countFailure_plant (s : State) :
    (lapse (countFailure s)).plant = { s.plant with authority := failed s.authority } := by
  rw [lapse_plant, countFailure_eq]; rfl

/-- The keyswitch turned on clears a bar with its count (R192). -/
theorem permitChange_unbars {s : State} (h : s.authority.state = .barred) : permitChange true s =
    { s with authority := { s.authority with permit := true, state := .none, failures := 0 } } := by
  simp only [permitChange, setAuthority_authority, h, if_true]; rfl

/-! ## Privileged requests (R190) -/

/-- A request marked with a dagger is judged by the Authority Monitor before its owner. -/
theorem ownerAnswer_privileged {c : Instr} {ans : Nat} (h : privilegedAnswer c = some ans) :
    ∃ act, ownerAnswer c = privileged ans act := by
  cases c with
  | clearChannel | pumpReset | pumpForce | pumpService | screenInhibit | screenReset | shelve | unshelve | restart
  | writeSetting | commitSettings =>
    obtain rfl := Option.some.inj h
    exact ⟨_, rfl⟩
  | _ => cases h

section
variable {s : State} {ans : Nat} {act : State → Answer}

theorem privileged_unopened (h : s.authority.state = .none ∨ s.authority.state = .challenged) :
    privileged ans act s = .refuse s .noAuthority := by
  rcases h with h | h <;> simp only [privileged, h]

theorem privileged_barred (h : s.authority.state = .barred) : privileged ans act s = .refuse s .barred := by
  simp only [privileged, h]

theorem privileged_wrong (h : s.authority.state = .granted) (ha : ans ≠ s.expectedAnswer) :
    privileged ans act s = .refuse (lapse (countFailure s)) .noAuthority := by
  simp only [privileged, h, if_neg ha]

end

/-! ## RESTART (R194) -/

theorem restartRequest_busy {s : State} (h : s.store.commit.isSome = true) : restartRequest s = .refuse s .busy := if_pos h

theorem restartRequest_pends {s : State} (h : s.store.commit = none) :
    restartRequest s = .done (s.setLine { s.line with restartPending := true }) := if_neg (by rw [h]; decide)

end Sys2Proof.Machine

open Sys2Proof Sys2Proof.Machine Sys2Proof.Spec

/-- Settles O52: each expiry runs the failure of R187, the supervision timer's with a lapse, and the keyswitch leaves no
notice. -/
theorem authorityTimersFail : Obligations.AuthorityTimersFail := by
  intro s hp
  refine ⟨fun ht => ?_, fun ht => ⟨lapse (countFailure s), ?_, lapse_lapsed _, lapse_countFailure_plant s⟩,
    fun hinbox hbarred ht hv => ?_⟩
  · rw [← countFailure_eq]
    exact powered_timer (·.authority.answerTimer) countFailure hp ht
  · exact powered_timer (·.authority.supervisionTimer) (fun s => settle (lapse (countFailure s))) hp ht
  · have hunbars := permitChange_unbars (s := taken s .remotePermit true) hbarred
    have hquiet : (handSwitch .remotePermit true (taken s .remotePermit true)).inbox = [] :=
      (congrArg State.inbox hunbars).trans hinbox
    rw [exec_filterTimerExpiry_switch (w := .remotePermit) hp ht hv, settle_quiet _ hquiet]
    exact congrArg _ hunbars

/-- Settles O53, by the monitor's state: the owner's answer is the monitor's refusal. -/
theorem privilegedRequestNeedsAuthority : Obligations.PrivilegedRequestNeedsAuthority := by
  intro c ans code payload s hans hrequest h
  obtain ⟨act, hact⟩ := ownerAnswer_privileged hans
  have hline : exec c s = addressed code (privileged ans act) s := by
    rw [← hact]
    exact exec_request s hrequest fun n hc => by rw [hc] at hans; exact nomatch hans
  rw [hline]
  refine ⟨fun hst => ?_, fun hst => ?_, fun hst hwrong => ?_⟩
  · exact addressed_reply h (privileged_unopened hst) h.inbox_eq
  · exact addressed_reply h (privileged_barred hst) h.inbox_eq
  · exact ⟨lapse (countFailure s.heard), addressed_answer h (privileged_wrong hst hwrong), lapse_lapsed _,
      lapse_countFailure_plant _⟩

/-- Settles O55, by RESTART's two answers and the end of the reply. -/
theorem restartComesWhenTheReplyEnds : Obligations.RestartComesWhenTheReplyEnds := by
  intro ans s
  refine ⟨fun h hcommit => privileged_refuses h (restartRequest_busy hcommit), fun h hcommit => ?_, fun hp hsend hpend => ?_⟩
  · exact privileged_reply h (restartRequest_pends hcommit) (cleared_inbox (s := s) h)
  · have hends : exec .replySent s = .next (replyEnds s) := by
      rw [show exec .replySent s = execReplySent s from rfl, execReplySent, powered_on _ _ hp, if_pos hsend]
    rw [hends, replyEnds, if_pos hpend]
end

section
/-! PROOFS. What is forced, inhibited and SHELVED, and authority itself (R193): the named updates, and the rakes' moves, that
leave it as it is. -/

namespace Sys2Proof.Machine

/-! ## What stands under authority -/

/-- What the law of authority reads of a state: the Authority Monitor, the forced modes, the inhibits, and the records that are
SHELVED. -/
structure Vested where
  authority : Authority
  forced : PerBay Forced
  inhibit : PerScreen Bool
  shelved : Vector Bool 25

/-- Whether a record is SHELVED. -/
def CondRec.isShelved (r : CondRec) : Bool := r.state == .shelved

/-- What the law of authority reads of a state. -/
def State.vested (s : State) : Vested :=
  ⟨s.authority, s.roster.pumps.map (·.forced), s.screens.recs.map (·.inhibit), s.conditions.recs.map CondRec.isShelved⟩

theorem ite_vested {p : Prop} [Decidable p] {s t u : State} (ht : t.vested = s.vested) (hu : u.vested = s.vested) :
    (if p then t else u).vested = s.vested := by split <;> assumption

/-! ## Records written -/

theorem PerBay.map_put {α β : Type} (f : α → β) (v : PerBay α) (b : Bay) (x : α) :
    (v.put b x).map f = (v.map f).put b (f x) := by cases b <;> rfl

theorem PerScreen.map_put {α β : Type} (f : α → β) (v : PerScreen α) (x : Screen) (y : α) :
    (v.put x y).map f = (v.map f).put x (f y) := by cases x <;> rfl

theorem PerScreen.put_get_self {α : Type} (v : PerScreen α) (x : Screen) : v.put x (v.get x) = v := by cases x <;> rfl

/-- Records changed one by one where a view of them does not show. -/
theorem map_congr_view {α β : Type} {n : Nat} {g : α → β} {f : α → α} (h : ∀ r, g (f r) = g r) (v : Vector α n) :
    (v.map f).map g = v.map g := by
  rw [Vector.map_map]
  exact congrArg (v.map ·) (funext h)

/-- One record changed where a view of the records does not show. -/
theorem map_set_view {α β : Type} {n : Nat} {g : α → β} (v : Vector α n) (i : Fin n) {x : α} (h : g x = g (v.get i)) :
    (v.set i x i.isLt).map g = v.map g := by
  refine Vector.ext fun j hj => ?_
  rw [Vector.getElem_map, Vector.getElem_map]
  by_cases hij : i.val = j
  · subst hij; rw [Vector.getElem_set_self, h]; rfl
  · rw [Vector.getElem_set_ne _ _ hij]

/-! ## Condition records (R161 to R165) -/

theorem moveTo_isShelved (now : Nat) {st : CondState} {r : CondRec} (h : (st == .shelved) = r.isShelved) :
    (r.moveTo now st).isShelved = r.isShelved := by
  unfold CondRec.moveTo; split <;> [rfl; exact h]

/-- A report neither shelves a record nor takes it out of SHELVED (R162). -/
theorem takeReport_isShelved (now : Nat) (a : Bool) (d : Option Detail) (r : CondRec) :
    (r.takeReport now a d).isShelved = r.isShelved := by
  have hactivity : (r.takeActivity now a).isShelved = r.isShelved := by
    have hraised : (r.state.raised == .shelved) = r.isShelved := by unfold CondRec.isShelved; cases r.state <;> rfl
    have hreturned : (r.state.returned == .shelved) = r.isShelved := by unfold CondRec.isShelved; cases r.state <;> rfl
    unfold CondRec.takeActivity
    split
    · rfl
    · split
      · exact moveTo_isShelved now (r := { r with active := true, raises := satAdd 255 r.raises 1 }) hraised
      · exact moveTo_isShelved now (r := { r with active := false }) hreturned
  unfold CondRec.takeReport
  dsimp only
  split <;> exact hactivity

/-- Nor does an acknowledgement (R164, R165). -/
theorem acknowledge_isShelved (now : Nat) (r : CondRec) : (r.acknowledge now).isShelved = r.isShelved :=
  moveTo_isShelved now (by unfold CondRec.isShelved; cases r.state <;> rfl)

section
variable (s : State)

/-- One record changed that is SHELVED as before. -/
theorem modCond_vested (i : Source) {f : CondRec → CondRec} (h : ∀ r, (f r).isShelved = r.isShelved) :
    (s.modCond i f).vested = s.vested :=
  congrArg (Vested.mk _ _ _) (map_set_view (g := CondRec.isShelved) s.conditions.recs i.index (h _))

@[simp] theorem report_vested (i : Source) (a : Bool) (d : Option Detail) : (s.report i a d).vested = s.vested :=
  modCond_vested s i (takeReport_isShelved _ _ _)

@[simp] theorem acknowledgeAll_vested : (acknowledgeAll s).vested = s.vested :=
  congrArg (Vested.mk _ _ _) (map_congr_view (g := CondRec.isShelved) (acknowledge_isShelved _) s.conditions.recs)

/-! ## Bays and screens -/

theorem setPump_vested {b : Bay} {p : PumpRec} (h : p.forced = (s.pump b).forced) : (s.setPump b p).vested = s.vested := by
  have hforced : (s.roster.pumps.put b p).map (·.forced) = s.roster.pumps.map (·.forced) := by
    rw [PerBay.map_put, h, State.pump, ← PerBay.get_map PumpRec.forced, PerBay.put_get_self]
  exact congrArg (Vested.mk _ · _ _) hforced

theorem modPump_vested {b : Bay} {f : PumpRec → PumpRec} (h : ∀ p, (f p).forced = p.forced := by exact fun _ => rfl) :
    (s.modPump b f).vested = s.vested := setPump_vested s (h _)

theorem setScreen_vested {x : Screen} {r : ScreenRec} (h : r.inhibit = (s.screen x).inhibit) :
    (s.setScreen x r).vested = s.vested := by
  have hinhibit : (s.screens.recs.put x r).map (·.inhibit) = s.screens.recs.map (·.inhibit) := by
    rw [PerScreen.map_put, h, State.screen, ← PerScreen.get_map ScreenRec.inhibit, PerScreen.put_get_self]
  exact congrArg (Vested.mk _ _ · _) hinhibit

theorem modScreen_vested {x : Screen} {f : ScreenRec → ScreenRec}
    (h : ∀ r, (f r).inhibit = r.inhibit := by exact fun _ => rfl) : (s.modScreen x f).vested = s.vested :=
  setScreen_vested s (h _)

/-! ## Blocks that the law does not read -/

@[simp] theorem post_vested (n : Notice) : (s.post n).vested = s.vested := rfl
@[simp] theorem setEpisodes_vested (t : EpisodeTable) : (s.setEpisodes t).vested = s.vested := rfl
@[simp] theorem modPending_vested (f : Tally → Tally) : (s.modPending f).vested = s.vested := rfl
@[simp] theorem modProgress_vested (f : Tally → Tally) : (s.modProgress f).vested = s.vested := rfl
@[simp] theorem withArbiter_vested (a : Arbiter) : ({ s with arbiter := a } : State).vested = s.vested := rfl

/-! ## The Screen Controller (R110 to R118) -/

@[simp] theorem jamScreen_vested (x : Screen) (why : JamReason) : (jamScreen x why s).vested = s.vested :=
  (report_vested _ _ _ _).trans (modScreen_vested s)

@[simp] theorem overloadInRising_vested (x : Screen) : (overloadInRising x s).vested = s.vested :=
  ite_vested (jamScreen_vested s x _) (modScreen_vested s)

@[simp] theorem topReached_vested (x : Screen) : (topReached x s).vested = s.vested := modScreen_vested s

@[simp] theorem judgeRise_vested (x : Screen) : (judgeRise x s).vested = s.vested :=
  ite_vested (overloadInRising_vested s x) (ite_vested (topReached_vested s x) rfl)

@[simp] theorem startTest_vested (x : Screen) : (startTest x s).vested = s.vested :=
  ite_vested (modScreen_vested s) ((judgeRise_vested _ x).trans (modScreen_vested s))

@[simp] theorem trigger_vested (x : Screen) : (trigger x s).vested = s.vested :=
  ite_vested (ite_vested (startTest_vested s x) (modScreen_vested s)) rfl

@[simp] theorem returnToRest_vested (x : Screen) : (returnToRest x s).vested = s.vested := by
  have hrest : (s.modScreen x fun r => r.stopMotion.enter .idle).vested = s.vested := modScreen_vested s
  exact ite_vested (modScreen_vested s) (ite_vested ((startTest_vested _ x).trans hrest) hrest)

@[simp] theorem enterHoming_vested (x : Screen) : (enterHoming x s).vested = s.vested :=
  ite_vested (modScreen_vested s) (ite_vested (returnToRest_vested s x) (modScreen_vested s))

@[simp] theorem clearJam_vested (x : Screen) : (clearJam x s).vested = s.vested :=
  (enterHoming_vested _ x).trans ((report_vested _ _ _ _).trans (modScreen_vested s))

@[simp] theorem topMade_vested (x : Screen) : (topMade x s).vested = s.vested := ite_vested (topReached_vested s x) rfl

@[simp] theorem homeMade_vested (x : Screen) : (homeMade x s).vested = s.vested := by
  refine ite_vested ?_ rfl
  split
  · exact (returnToRest_vested _ x).trans (modScreen_vested s)
  · exact returnToRest_vested s x
  all_goals rfl

@[simp] theorem rakeTrip_vested (x : Screen) : (rakeTrip x s).vested = s.vested := ite_vested (overloadInRising_vested s x) rfl

theorem strokeExpired_vested (x : Screen) : (strokeExpired x s).vested = s.vested := by
  have hstop : (s.modScreen x fun r => { r with strokeTimer := none }).vested = s.vested := modScreen_vested s
  unfold strokeExpired
  dsimp only
  split <;> simp [hstop]

theorem clearExpired_vested (x : Screen) : (clearExpired x s).vested = s.vested := by
  have hstop : (s.modScreen x fun r => { r with clearTimer := none }).vested = s.vested := modScreen_vested s
  exact ite_vested ((judgeRise_vested _ x).trans ((modScreen_vested _).trans hstop)) hstop

@[simp] theorem intervalExpired_vested (x : Screen) : (intervalExpired x s).vested = s.vested :=
  (trigger_vested _ x).trans (modScreen_vested s)

@[simp] theorem stallScreen_vested (x : Screen) : (stallScreen x s).vested = s.vested := ite_vested (modScreen_vested s) rfl

@[simp] theorem retest_vested (x : Screen) : (retest x s).vested = s.vested := ite_vested (startTest_vested s x) rfl

@[simp] theorem homeStalled_vested (x : Screen) : (homeStalled x s).vested = s.vested := ite_vested (enterHoming_vested s x) rfl

@[simp] theorem rereadInterval_vested (x : Screen) : (rereadInterval x s).vested = s.vested := by
  refine ite_vested ?_ rfl
  dsimp only
  split
  · exact modScreen_vested s
  · exact ite_vested ((intervalExpired_vested _ x).trans (modScreen_vested s)) (modScreen_vested s)

@[simp] theorem screensLoseSupply_vested : (screensLoseSupply s).vested = s.vested :=
  forScreens_view _ State.vested _ fun x t => stallScreen_vested t x

@[simp] theorem screensGainSupply_vested (n : SupplyState) : (screensGainSupply n s).vested = s.vested := by
  have hretest (t : State) : (forScreens retest t).vested = t.vested :=
    forScreens_view t State.vested _ fun x u => retest_vested u x
  have hhome (t : State) : (forScreens homeStalled t).vested = t.vested :=
    forScreens_view t State.vested _ fun x u => homeStalled_vested u x
  have hgained : (if s.screens.supply = .none then forScreens homeStalled { s with screens := { s.screens with supply := n } }
      else { s with screens := { s.screens with supply := n } }).vested = s.vested := ite_vested (hhome _) rfl
  exact ite_vested ((hretest _).trans hgained) hgained

@[simp] theorem screensRamping_vested (on : Bool) : (screensRamping on s).vested = s.vested :=
  ite_vested rfl (forScreens_view _ State.vested _ fun x t => retest_vested t x)

@[simp] theorem screensStorm_vested (n : StormState) : (screensStorm n s).vested = s.vested :=
  ite_vested (forScreens_view _ State.vested _ fun x t => rereadInterval_vested t x) rfl

@[simp] theorem screenSelectorChange_vested (x : Screen) (auto : Bool) : (screenSelectorChange x auto s).vested = s.vested := by
  have hwrite : (s.modScreen x fun r => { r with selectorAuto := auto }).vested = s.vested := modScreen_vested s
  refine ite_vested (ite_vested ?_ ?_) hwrite
  · split
    · exact ite_vested (ite_vested ((modScreen_vested _).trans hwrite) ((clearJam_vested _ x).trans hwrite)) hwrite
    · exact (enterHoming_vested _ x).trans hwrite
    all_goals exact hwrite
  · split
    · exact (modScreen_vested _).trans hwrite
    · exact hwrite
    all_goals exact (modScreen_vested _).trans hwrite

@[simp] theorem updateDifferential_vested (accepted : Bool) (x : Screen) :
    (updateDifferential accepted x s).vested = s.vested := by
  by_cases hu : (s.screen x).inUse = true
  · have hsight (d : Option Int) : (sight x d s).vested = s.vested := by
      have hwrite : (s.setScreen x (sighted s x d)).vested = s.vested := setScreen_vested s rfl
      exact ite_vested hwrite ((report_vested _ _ _ _).trans hwrite)
    rw [updateDifferential_sight accepted hu]
    split
    · exact hsight _
    · exact ite_vested ((trigger_vested _ x).trans (hsight _)) (hsight _)
  · rw [updateDifferential, if_neg hu]

@[simp] theorem screensReport_vested (c : Channel) (r : ChannelReport) : (screensReport c r s).vested = s.vested := by
  cases c with
  | ww => rfl
  | inlet => exact forScreens_view _ State.vested _ fun x t => updateDifferential_vested t r.accepted x
  | sa => exact updateDifferential_vested _ _ _
  | sb => exact updateDifferential_vested _ _ _

end

end Sys2Proof.Machine
end

section
/-! PROOFS. What the Roster, the Arbiter and the Supply Monitor leave as it is of what stands under authority (R193). -/

namespace Sys2Proof.Machine

section
variable (s : State)

/-! ## A pump's change of state (R45 to R60) -/

@[simp] theorem letGo_vested (st : StarterState) : (letGo st s).vested = s.vested := rfl
@[simp] theorem enterGap_vested : (enterGap s).vested = s.vested := rfl

@[simp] theorem enterState_vested (b : Bay) (st : PumpState) : (enterState b st s).vested = s.vested := by
  have henter : (s.modPump b (·.enter st)).vested = s.vested := modPump_vested s
  exact ite_vested rfl ((post_vested _ _).trans (ite_vested henter henter))

@[simp] theorem depart_vested (b : Bay) : (depart b s).vested = s.vested := by
  unfold depart
  split
  · rfl
  · exact ite_vested (screensRamping_vested _ false) rfl
  all_goals rfl

@[simp] theorem goResting_vested (b : Bay) : (goResting b s).vested = s.vested :=
  (modPump_vested _).trans ((enterState_vested _ b _).trans (depart_vested s b))

@[simp] theorem goIdle_vested (b : Bay) : (goIdle b s).vested = s.vested := by simp [goIdle]

@[simp] theorem goUnavailable_vested (b : Bay) : (goUnavailable b s).vested = s.vested := by simp [goUnavailable]

@[simp] theorem stopConfirmed_vested (b : Bay) : (stopConfirmed b s).vested = s.vested :=
  ite_vested (goResting_vested s b) (goUnavailable_vested s b)

@[simp] theorem goStopping_vested (b : Bay) : (goStopping b s).vested = s.vested := by
  have hstop : ((enterState b .stopping (depart b s)).modPump b fun p =>
      { p with stopConfirm := some (seconds (s.itemNat 3 4)) }).vested = s.vested :=
    (modPump_vested _).trans ((enterState_vested _ b _).trans (depart_vested s b))
  exact ite_vested hstop ((stopConfirmed_vested _ b).trans hstop)

@[simp] theorem lockOut_vested (b : Bay) (why : LockoutReason) : (lockOut b why s).vested = s.vested :=
  (report_vested _ _ _ _).trans ((modPump_vested _).trans ((enterState_vested _ b _).trans (depart_vested s b)))

@[simp] theorem releaseLockout_vested (b : Bay) : (releaseLockout b s).vested = s.vested := by
  have hclear : ((s.modPump b fun p => { p with reason := none, resetMark := false }).report
      (lockoutSource b) false).vested = s.vested := (report_vested _ _ _ _).trans (modPump_vested s)
  exact ite_vested ((goResting_vested _ b).trans hclear) ((goUnavailable_vested _ b).trans hclear)

@[simp] theorem setStartLimited_vested (b : Bay) (on : Bool) : (setStartLimited b on s).vested = s.vested := by
  have hwrite : (s.modPump b fun p => { p with startLimited := on }).vested = s.vested := modPump_vested s
  exact ite_vested rfl ((post_vested _ _).trans (ite_vested hwrite hwrite))

@[simp] theorem judgeStartLimited_vested (b : Bay) : (judgeStartLimited b s).vested = s.vested := by
  simp [judgeStartLimited]

/-! ## The grant test and the queue test (R49, R51, R91) -/

@[simp] theorem takeGrant_vested (b : Bay) (rest : List Bay) : (takeGrant b rest s).vested = s.vested :=
  (screensRamping_vested _ true).trans ((withArbiter_vested _ _).trans ((modPump_vested _).trans (enterState_vested s b _)))

@[simp] theorem declineGrant_vested (b : Bay) (rest : List Bay) : (declineGrant b rest s).vested = s.vested := by
  simp [declineGrant]

theorem grantFrom_vested (q : List Bay) : ∀ s, (grantFrom q s).vested = s.vested := by
  induction q with
  | nil => exact fun _ => rfl
  | cons b rest ih =>
    exact fun s => ite_vested (ite_vested (ite_vested ((ih _).trans (declineGrant_vested s b rest))
      (takeGrant_vested s b rest)) (ih _)) rfl

@[simp] theorem grantTest_vested : (grantTest s).vested = s.vested := grantFrom_vested _ s

@[simp] theorem queueOne_vested (b : Bay) : (queueOne b s).vested = s.vested :=
  ite_vested (ite_vested (setStartLimited_vested s b true) ((grantTest_vested _).trans (enterState_vested s b _))) rfl

@[simp] theorem queueTest_vested : (queueTest s).vested = s.vested :=
  foldl_view State.vested _ (fun t b => queueOne_vested t b) _ s

/-! ## The starter (R89 to R97) -/

@[simp] theorem reportStarter_vested : (reportStarter s).vested = s.vested :=
  ite_vested (report_vested _ _ _ _) (report_vested _ _ _ _)

@[simp] theorem enterFaulted_vested : (enterFaulted s).vested = s.vested := by
  have hfreed (t : State) : (heldFreed s.arbiter.held t).vested = t.vested := by
    unfold heldFreed
    split
    · exact ite_vested (enterState_vested t _ _) rfl
    · rfl
  exact (reportStarter_vested _).trans (ite_vested ((screensRamping_vested _ false).trans (hfreed _)) (hfreed _))

@[simp] theorem leaveFaulted_vested : (leaveFaulted s).vested = s.vested :=
  (post_vested _ _).trans ((reportStarter_vested _).trans (ite_vested (letGo_vested s _) (enterGap_vested s)))

@[simp] theorem judgeStarter_vested : (judgeStarter s).vested = s.vested :=
  ite_vested rfl (ite_vested (enterFaulted_vested _) (ite_vested (leaveFaulted_vested _) (reportStarter_vested _)))

@[simp] theorem arbiterGate_vested (st : SupplyState) (restore : Bool) : (arbiterGate st restore s).vested = s.vested := by
  simp [arbiterGate]

@[simp] theorem arbiterLosesSupply_vested : (arbiterLosesSupply s).vested = s.vested := by
  have hreported (t : State) (p q : Prop) [Decidable p] [Decidable q] :
      (if p then reportStarter (if q then screensRamping false t else t) else if q then screensRamping false t else t).vested =
        t.vested := by
    have htold : (if q then screensRamping false t else t).vested = t.vested := ite_vested (screensRamping_vested t false) rfl
    exact ite_vested ((reportStarter_vested _).trans htold) htold
  exact ite_vested (hreported _ _ _) (hreported _ _ _)

/-! ## Contacts of a bay (R46, R47, R55 to R57, R60, R61, R63) -/

@[simp] theorem leaveUnavailable_vested (b : Bay) : (leaveUnavailable b s).vested = s.vested :=
  ite_vested (lockOut_vested s b _) (ite_vested (goStopping_vested s b) (goIdle_vested s b))

@[simp] theorem handChange_vested (b : Bay) (was : Bool) : (handChange b was s).vested = s.vested :=
  ite_vested rfl rfl

@[simp] theorem selectorOffAuto_vested (b : Bay) (pos : Selector) : (selectorOffAuto b pos s).vested = s.vested := by
  unfold selectorOffAuto
  split
  · rfl
  · rfl
  · exact ite_vested (modPump_vested s) rfl
  all_goals exact goUnavailable_vested s b

@[simp] theorem selectorToAuto_vested (b : Bay) : (selectorToAuto b s).vested = s.vested := by
  unfold selectorToAuto
  dsimp only
  split
  · exact ite_vested (leaveUnavailable_vested s b) rfl
  · exact ite_vested (ite_vested (modPump_vested s) (releaseLockout_vested s b)) rfl
  all_goals rfl

@[simp] theorem feedbackChange_vested (b : Bay) (on : Bool) : (feedbackChange b on s).vested = s.vested := by
  rw [feedbackChange_eq, handChange_vested]
  unfold feedbackActs
  split
  · exact lockOut_vested s b _
  · exact lockOut_vested s b _
  · exact lockOut_vested s b _
  · exact modPump_vested s
  · exact stopConfirmed_vested s b
  · rfl

@[simp] theorem overloadTrip_vested (b : Bay) : (overloadTrip b s).vested = s.vested := by
  unfold overloadTrip
  split
  · rfl
  · rfl
  · exact (report_vested _ _ _ _).trans (modPump_vested s)
  all_goals exact lockOut_vested s b _

@[simp] theorem sealChange_vested (b : Bay) (leak : Bool) : (sealChange b leak s).vested = s.vested :=
  ite_vested rfl ((post_vested _ _).trans ((report_vested _ _ _ _).trans (modPump_vested s)))

/-! ## Pumps stopped, shed and lost (R54, R58, R59, R101, R102) -/

@[simp] theorem unwanted_vested (b : Bay) : (unwanted b s).vested = s.vested := by
  unfold unwanted
  split
  · exact goIdle_vested s b
  · exact goResting_vested s b
  · exact ite_vested (goStopping_vested s b) rfl
  all_goals rfl

@[simp] theorem cutoffPump_vested (b : Bay) : (cutoffPump b s).vested = s.vested := by unfold cutoffPump; split <;> simp

@[simp] theorem losePump_vested (b : Bay) : (losePump b s).vested = s.vested := by
  have hrest : ((enterState b .resting s).modPump b fun p =>
      { p with minRest := some (seconds (s.itemNat 3 2)) }).vested = s.vested :=
    (modPump_vested _).trans (enterState_vested s b _)
  unfold losePump
  dsimp only
  split
  · exact enterState_vested s b _
  · exact hrest
  · exact hrest
  · exact hrest
  all_goals rfl

@[simp] theorem shedToLimit_vested (n : Nat) : ∀ s, (shedToLimit n s).vested = s.vested := by
  have hshed (s : State) (b : Bay) : (shedPump b s).vested = s.vested := by unfold shedPump; split <;> simp
  induction n with
  | zero => exact fun _ => rfl
  | succ n ih => intro s; unfold shedToLimit; split <;> [(split <;> simp [ih, hshed]); rfl]

@[simp] theorem withdrawExcess_vested (n : Nat) : ∀ s, (withdrawExcess n s).vested = s.vested := by
  induction n with
  | zero => exact fun _ => rfl
  | succ n ih => intro s; unfold withdrawExcess; split <;> [(split <;> simp [ih]); rfl]

/-! ## The Supply Monitor (R98 to R104) -/

@[simp] theorem recomputeLimit_vested : (recomputeLimit s).vested = s.vested :=
  ite_vested rfl (ite_vested (shedToLimit_vested 4 _) ((withdrawExcess_vested 4 _).trans (shedToLimit_vested 4 _)))

@[simp] theorem enterNone_vested : (enterNone s).vested = s.vested :=
  (screensLoseSupply_vested _).trans ((arbiterLosesSupply_vested _).trans
    (forBays_view _ State.vested _ fun b t => losePump_vested t b))

@[simp] theorem changeSupply_vested (new : SupplyState) : (changeSupply new s).vested = s.vested := by
  have hlimit : (if new = .none then enterNone { s with supply := { s.supply with state := new } }
      else recomputeLimit { s with supply := { s.supply with state := new } }).vested = s.vested :=
    ite_vested (enterNone_vested _) (recomputeLimit_vested _)
  have hgate (x : Supply) (restore : Bool) := (arbiterGate_vested { (if new = .none then
    enterNone { s with supply := { s.supply with state := new } }
      else recomputeLimit { s with supply := { s.supply with state := new } }) with supply := x } new restore).trans hlimit
  exact (report_vested _ _ _ _).trans (ite_vested (hgate _ _) ((screensGainSupply_vested _ new).trans (hgate _ _)))

theorem decideSupply_vested : (decideSupply s).vested = s.vested := ite_vested rfl (changeSupply_vested s _)

theorem mainsChange_vested (present : Bool) : (mainsChange present s).vested = s.vested :=
  (decideSupply_vested _).trans (report_vested _ _ _ _)

theorem generatorChange_vested (running : Bool) : (generatorChange running s).vested = s.vested := decideSupply_vested _

theorem restoreExpired_vested : (restoreExpired s).vested = s.vested := arbiterGate_vested _ _ _

/-! ## The timers of the pumps and of the Arbiter (R48, R52, R54, R57, R68, R92, R94) -/

theorem rosterSecond_vested : (rosterSecond s).vested = s.vested :=
  forBays_view _ State.vested _ fun b t =>
    ite_vested rfl ((judgeStartLimited_vested _ b).trans (modPump_vested t))

theorem minRunServed_vested (b : Bay) : (minRunServed b s).vested = s.vested := by
  have hserved : (s.modPump b fun p => { p with minRun := none }).vested = s.vested := modPump_vested s
  exact ite_vested ((goStopping_vested _ b).trans hserved) hserved

theorem minRestServed_vested (b : Bay) : (minRestServed b s).vested = s.vested := by
  have hserved : (s.modPump b fun p => { p with minRest := none }).vested = s.vested := modPump_vested s
  exact ite_vested ((judgeStartLimited_vested _ b).trans ((goIdle_vested _ b).trans hserved)) hserved

theorem holdEnds_vested : (holdEnds s).vested = s.vested := grantTest_vested _

@[simp] theorem settleStart_vested (b : Bay) : (settleStart b s).vested = s.vested :=
  ite_vested (ite_vested ((modPump_vested _).trans (enterState_vested s b _)) (lockOut_vested s b _)) rfl

theorem rampExpires_vested : (rampExpires s).vested = s.vested := by
  refine (screensRamping_vested _ false).trans ?_
  split
  · exact settleStart_vested _ _
  · rfl

theorem gapExpires_vested : (gapExpires s).vested = s.vested := ite_vested (grantTest_vested _) rfl

end

end Sys2Proof.Machine
end

section
/-! PROOFS. What the Duty Controller's evaluation, the settling of a step, the Rainfall Unit, the Episode Table and the Spill
Meter leave as it is of what stands under authority (R193). -/

namespace Sys2Proof.Machine

section
variable (s : State)

/-! ## The Duty Controller's evaluation (R70 to R85) -/

@[simp] theorem setDue_vested (b : Bay) (on : Bool) : (setDue b on s).vested = s.vested := modPump_vested s
@[simp] theorem dropDue_vested (b : Bay) : (dropDue b s).vested = s.vested := setDue_vested s b false

@[simp] theorem updateMembership_vested (b : Bay) (was now : PumpState) :
    (updateMembership b was now s).vested = s.vested := ite_vested (ite_vested rfl rfl) rfl

@[simp] theorem enteredRunning_vested (b : Bay) : (enteredRunning b s).vested = s.vested := by
  have hstarted : (if (s.pump b).forced = .run then s else setChangeover b s.changeoverStart s).vested = s.vested :=
    ite_vested rfl rfl
  have hmark (c : Bay) (t : State) : (if (t.pump c).changeoverDue then setReplaced c true t else t).vested = t.vested :=
    ite_vested rfl rfl
  exact ite_vested ((forBays_view _ State.vested _ hmark).trans hstarted) hstarted

@[simp] theorem forcedChanged_vested (b : Bay) (was now : Forced) : (forcedChanged b was now s).vested = s.vested :=
  ite_vested (ite_vested (setDue_vested s b false) (ite_vested rfl rfl)) rfl

/-- A change of forced mode is heard, and not written, by the Duty Controller. -/
theorem ownEffect_vested (n : Notice) : (ownEffect n s).vested = s.vested := by
  cases n with
  | changeover b => exact ite_vested (setDue_vested (setChangeover b none s) b true) rfl
  | pump b was now =>
    have hleft : (if was = .running then leftRunning b (updateMembership b was now s) else
        updateMembership b was now s).vested = s.vested :=
      ite_vested (updateMembership_vested s b was now) (updateMembership_vested s b was now)
    exact ite_vested ((enteredRunning_vested _ b).trans hleft) (ite_vested hleft hleft)
  | forced b was now => exact forcedChanged_vested s b was now
  | lapse was => exact forBays_view s State.vested _ fun b t => forcedChanged_vested t b _ _
  | degraded b => exact ite_vested rfl rfl
  | _ => rfl

theorem settleStage_vested (n : Notice) (d : Nat) : (settleStage n d s).vested = s.vested := by
  cases n with
  | wwReport r => unfold settleStage levelStep; dsimp only; split <;> [rfl; (split <;> rfl)]
  | _ => rfl

theorem evaluated_vested (n : Notice) : (evaluated n s).vested = s.vested := by
  unfold evaluated
  rw [foldl_view State.vested _ fun t b => dropDue_vested t b, rotate_frame]
  exact (settleStage_vested _ n s.duty.stage).trans (ownEffect_vested s n)

theorem cutoffNotice_vested (n : Notice) : (cutoffNotice n s).vested = s.vested := by
  have hcutoff : (forBays cutoffPump s).vested = s.vested := forBays_view s State.vested _ fun b t => cutoffPump_vested t b
  cases n with
  | lf covered => exact ite_vested (queueTest_vested s) hcutoff
  | restart => exact ite_vested hcutoff rfl
  | _ => rfl

theorem takeWanted_vested (counted uncounted stops : List Bay) :
    (takeWanted counted uncounted stops s).vested = s.vested := by
  have hstop (b : Bay) (t : State) : (if stops.contains b then changeoverStop b t else t).vested = t.vested :=
    ite_vested (ite_vested (goStopping_vested t b) rfl) rfl
  have hunwanted (b : Bay) (t : State) : (if t.duty.wanted.contains b then t else unwanted b t).vested = t.vested :=
    ite_vested rfl (unwanted_vested t b)
  exact (queueTest_vested _).trans ((forBays_view _ State.vested _ hunwanted).trans (forBays_view _ State.vested _ hstop))

theorem evaluate_vested (n : Notice) : (evaluate n s).vested = s.vested := by
  rw [evaluate_eq, takeWanted_vested, cutoffNotice_vested, evaluated_vested]

/-- The notices of a step force no bay, inhibit no screen and shelve no record. -/
@[simp] theorem settle_vested : (settle s).vested = s.vested :=
  settle_law (P := fun t => t.vested = s.vested) (fun _ _ h => h) (fun t h => (queueTest_vested t).trans h)
    (fun n t h => (evaluate_vested t n).trans h) s rfl

/-! ## Rain (R29 to R38) -/

@[simp] theorem setRain_vested (r : Rain) : (setRain r s).vested = s.vested :=
  ite_vested rfl (screensStorm_vested _ r.storm)

theorem countTip_vested : (countTip s).vested = s.vested := by
  rw [countTip_eq, setRain_vested, episodeTip_frame]; rfl

theorem closeBin_vested : (closeBin s).vested = s.vested := by rw [closeBin_eq, setRain_vested]

theorem dryOut_vested : (dryOut s).vested = s.vested := by rw [dryOut_eq, setRain_vested]

/-! ## Episodes and spills (R126, R143 to R152) -/

theorem settleEpisode_vested : (settleEpisode s).vested = s.vested := by
  rw [settleEpisode_eq, setRain_vested, setEpisodes_vested]

@[simp] theorem reportOverflow_vested : (reportOverflow s).vested = s.vested :=
  ite_vested (report_vested _ _ _ _) (report_vested _ _ _ _)

theorem openEpisode_vested : (openEpisode s).vested = s.vested := by
  cases hp : s.spill.accumulation with
  | none => rw [openEpisode, hp]
  | some p =>
    have hopened : (openedBare s p).vested = s.vested := setRain_vested _ _
    rw [openEpisode_eq s hp]
    exact ite_vested ((report_vested _ _ _ _).trans ((report_vested _ _ _ _).trans hopened))
      ((report_vested _ _ _ _).trans hopened)

theorem closeEpisode_vested : (closeEpisode s).vested = s.vested := by
  rcases Nat.eq_zero_or_pos (s.itemNat 6 37) with hgap | hgap
  · rw [closeEpisode_atOnce hgap, report_vested, post_vested, setRain_vested, setEpisodes_vested]
  · rw [closeEpisode_later hgap, report_vested, post_vested, setEpisodes_vested]

theorem takeSpill_vested : (takeSpill s).1.vested = s.vested := by
  unfold takeSpill
  split
  · rfl
  · split
    · rfl
    · exact reportOverflow_vested _
    all_goals rfl

theorem takeSecond_vested (r : SpillSecond) : (takeSecond r s).vested = s.vested := by
  have hspill := takeSpill_vested s
  have hended : (if r.before then takeEnded s else s).vested = s.vested :=
    ite_vested (ite_vested rfl (ite_vested (closeEpisode_vested s) rfl)) rfl
  unfold takeSecond
  refine ite_vested ?_ (ite_vested ((modProgress_vested _ _).trans hended) hended)
  split <;> rename_i heq <;> rw [heq] at hspill
  · exact (modPending_vested _ _).trans hspill
  · exact (modProgress_vested _ _).trans hspill
  · exact hspill

theorem integrate_vested : (integrate s).vested = s.vested := by
  have hsecond (m : Spill) (r : SpillSecond) : (takeSecond r { s with spill := m }).vested = s.vested :=
    takeSecond_vested _ r
  exact ite_vested (hsecond _ _) ((report_vested _ _ _ _).trans (hsecond _ _))

/-! ## Channels (R2, R13, R17, R18) -/

theorem sampleArrives_vested (c : Channel) (current : Nat) : (sampleArrives c current s).vested = s.vested := by
  have hreport (t : State) : (reportChannel c t).vested = t.vested := by unfold reportChannel; cases c <;> simp
  have hhand (r : ChannelReport) (t : State) : (handReport c r t).vested = t.vested := by
    cases c with
    | ww => rfl
    | inlet => exact screensReport_vested _ .inlet r
    | sa => exact screensReport_vested t .sa r
    | sb => exact screensReport_vested t .sb r
  exact (settle_vested _).trans ((hhand _ _).trans (hreport _))

/-! ## A loss of supply, and the settings (R100, R199) -/

theorem loseSupply_vested : (loseSupply s).vested = s.vested := by
  unfold loseSupply cutCommit
  split
  · rfl
  · split <;> rfl

theorem limitWritten_vested : (limitWritten s).vested = s.vested :=
  ite_vested (recomputeLimit_vested s) (recomputeLimit_vested s)

end

end Sys2Proof.Machine
end

section
/-! PROOFS. The law of authority (R187, R191, R193): it is a law of what stands under authority, the Authority Monitor's own moves
keep it, and so do the owners of the requests and a restart. -/

namespace Sys2Proof.Machine

open Sys2Proof.Spec

/-! ## The two halves of the law -/

/-- The monitor's timers and failure count stand as its state allows (R187, R191). -/
def Authority.Lawful (a : Authority) : Prop :=
  (a.answerTimer.isSome = true → a.state = .challenged) ∧ (a.supervisionTimer.isSome = true → a.state = .granted) ∧
    a.failures ≤ 3 ∧ (a.failures = 3 ↔ a.state = .barred)

theorem authorityLawful_iff (s : State) :
    s.AuthorityLawful ↔ (s.authority.state ≠ .granted → Lapsed s) ∧ s.authority.Lawful := Iff.rfl

/-- Whether anything stands under authority is read of what the law reads. -/
theorem lapsed_of_vested {s t : State} (h : t.vested = s.vested) (hs : Lapsed s) : Lapsed t := by
  obtain ⟨hforced, hinhibit, hshelved⟩ := hs
  refine ⟨fun b => ?_, fun x => ?_, fun i => ?_⟩
  · have hb := congrArg (fun v : Vested => v.forced.get b) h
    simp only [State.vested, PerBay.get_map] at hb
    exact hb.trans (hforced b)
  · have hx := congrArg (fun v : Vested => v.inhibit.get x) h
    simp only [State.vested, PerScreen.get_map] at hx
    exact hx.trans (hinhibit x)
  · have hi : (t.cond i).isShelved = (s.cond i).isShelved := by
      have hi := congrArg (fun v : Vested => v.shelved[i.index]) h
      simp only [State.vested, Fin.getElem_fin, Vector.getElem_map] at hi
      exact hi
    have hs : (s.cond i).isShelved = false := beq_eq_false_iff_ne.2 (hshelved i)
    exact beq_eq_false_iff_ne.1 (hi.trans hs)

section
variable {s t : State}

/-- The law is a law of what it reads. -/
theorem State.AuthorityLawful.of_vested (hs : s.AuthorityLawful) (h : t.vested = s.vested) : t.AuthorityLawful := by
  obtain ⟨hlapsed, hmonitor⟩ := hs
  have ha : t.authority = s.authority := congrArg Vested.authority h
  rw [authorityLawful_iff, ha]
  exact ⟨fun hne => lapsed_of_vested h (hlapsed hne), hmonitor⟩

/-- Where authority stands as it was, nothing new may stand under it without GRANTED. -/
theorem State.AuthorityLawful.of_lapsed (hs : s.AuthorityLawful) (ha : t.authority = s.authority)
    (h : Lapsed s → Lapsed t) : t.AuthorityLawful := by
  obtain ⟨hlapsed, hmonitor⟩ := hs
  rw [authorityLawful_iff, ha]
  exact ⟨fun hne => h (hlapsed hne), hmonitor⟩

/-- While authority is GRANTED and stands, an owner does as it likes. -/
theorem State.AuthorityLawful.of_granted (hs : s.AuthorityLawful) (hg : s.authority.state = .granted)
    (ha : t.authority = s.authority) : t.AuthorityLawful := by
  obtain ⟨-, hmonitor⟩ := hs
  rw [authorityLawful_iff, ha]
  exact ⟨fun hne => absurd hg hne, hmonitor⟩

/-- Without GRANTED the monitor moves as its own law allows. -/
theorem State.AuthorityLawful.setAuthority (hs : s.AuthorityLawful) {a : Authority} (ha : a.Lawful)
    (hne : s.authority.state ≠ .granted) : (s.setAuthority a).AuthorityLawful := by
  obtain ⟨hlapsed, -⟩ := hs
  exact ⟨fun _ => hlapsed hne, ha⟩

/-! ## The Authority Monitor's own moves (R187 to R192) -/

theorem failed_lawful (a : Authority) : (failed a).Lawful := by
  unfold failed Authority.Lawful
  refine ⟨nofun, nofun, ?_, ?_⟩ <;> dsimp only <;> split
  · exact Nat.le_refl 3
  · omega
  · exact iff_of_true rfl rfl
  · exact iff_of_false (by omega) nofun

/-- After a failure with a lapse nothing stands under authority. -/
theorem lapse_countFailure_lawful (s : State) : (lapse (countFailure s)).AuthorityLawful := by
  have ha : (lapse (countFailure s)).authority = failed s.authority :=
    congrArg Plant.authority (lapse_countFailure_plant s)
  exact ⟨fun _ => lapse_lapsed _, ha ▸ failed_lawful _⟩

/-- A failure counted while authority is not GRANTED. -/
theorem countFailure_lawful (hs : s.AuthorityLawful) (hne : s.authority.state ≠ .granted) :
    (countFailure s).AuthorityLawful := by
  rw [countFailure_eq]; exact hs.setAuthority (failed_lawful _) hne

/-- Authority dropped with both timers stopped, where it was not BARRED. -/
theorem Authority.Lawful.drop {a : Authority} (ha : a.Lawful) (hne : a.state ≠ .barred) :
    ({ a with state := .none, answerTimer := none, supervisionTimer := none } : Authority).Lawful := by
  obtain ⟨-, -, hmost, hbarred⟩ := ha
  exact ⟨nofun, nofun, hmost, iff_of_false (fun h => hne (hbarred.1 h)) nofun⟩

theorem dropAuthority_lawful (hs : s.AuthorityLawful) (hst : s.authority.state = .challenged) :
    (dropAuthority s).AuthorityLawful :=
  hs.setAuthority (Authority.Lawful.drop hs.2 (by rw [hst]; decide)) (by rw [hst]; decide)

/-- Authority dropped with a lapse. -/
theorem lapse_dropAuthority_lawful (hs : s.AuthorityLawful) (hst : s.authority.state = .granted) :
    (lapse (dropAuthority s)).AuthorityLawful := by
  have ha : (lapse (dropAuthority s)).authority = (dropAuthority s).authority := congrArg Plant.authority (lapse_plant _)
  exact ⟨fun _ => lapse_lapsed _, ha ▸ Authority.Lawful.drop hs.2 (by rw [hst]; decide)⟩

theorem challenge_lawful (hs : s.AuthorityLawful) (hg : s.authority.state ≠ .granted) (hb : s.authority.state ≠ .barred) :
    (challenge s).AuthorityLawful := by
  obtain ⟨-, -, hsupervision, hmost, hbarred⟩ := (authorityLawful_iff s).1 hs
  exact hs.setAuthority ⟨fun _ => rfl, fun ht => absurd (hsupervision ht) hg, hmost,
    iff_of_false (fun h => hb (hbarred.1 h)) nofun⟩ hg

theorem grantAuthority_lawful (hs : s.AuthorityLawful) (hb : s.authority.state ≠ .barred) :
    (grantAuthority s).AuthorityLawful := by
  obtain ⟨-, -, -, hmost, hbarred⟩ := (authorityLawful_iff s).1 hs
  exact ⟨fun hne => absurd rfl hne, nofun, fun _ => rfl, hmost, iff_of_false (fun h => hb (hbarred.1 h)) nofun⟩

theorem grantAnew_lawful (s : State) : (grantAnew s).AuthorityLawful :=
  ⟨fun hne => absurd rfl hne, nofun, fun _ => rfl, Nat.zero_le 3, iff_of_false nofun nofun⟩

theorem permitChange_lawful (on : Bool) (hs : s.AuthorityLawful) : (permitChange on s).AuthorityLawful := by
  have hpermit : (s.setAuthority { s.authority with permit := on }).AuthorityLawful := hs
  have hcleared (hb : s.authority.state = .barred) : (s.setAuthority
      { s.authority with permit := on, state := .none, failures := 0 }).AuthorityLawful := by
    obtain ⟨-, hanswer, hsupervision, -⟩ := (authorityLawful_iff s).1 hs
    refine hs.setAuthority ⟨fun ht => ?_, fun ht => ?_, Nat.zero_le 3, iff_of_false nofun nofun⟩ (by rw [hb]; decide)
    · exact absurd (hb.symm.trans (hanswer ht)) nofun
    · exact absurd (hb.symm.trans (hsupervision ht)) nofun
  unfold permitChange
  dsimp only
  split
  · split
    · exact hcleared ‹_›
    all_goals exact hpermit
  · split
    · exact dropAuthority_lawful hpermit ‹_›
    · exact lapse_dropAuthority_lawful hpermit ‹_›
    all_goals exact hpermit

/-! ## What an owner may do without authority (R46, R167) -/

/-- A forced mode set to NONE at a bay whose selector leaves AUTO (R46). -/
theorem setForced_none_lawful (b : Bay) (hs : s.AuthorityLawful) : (setForced b .none s).AuthorityLawful := by
  have hplant := setForced_plant s b .none
  refine hs.of_lapsed (congrArg Plant.authority hplant) fun hlapsed => ?_
  rw [setForced, if_pos (hlapsed.1 b)]
  exact hlapsed

theorem selectorChange_lawful (b : Bay) (pos : Selector) (hs : s.AuthorityLawful) : (selectorChange b pos s).AuthorityLawful := by
  have hpos : (s.modPump b fun p => { p with selector := pos }).AuthorityLawful := hs.of_vested (modPump_vested s)
  by_cases ha : (s.pump b).state = .absent
  · rw [selectorChange_absent pos ha]; exact hpos
  · have hwritten : (selectorWritten b pos s).AuthorityLawful := by
      unfold selectorWritten; split <;> [exact hpos; exact setForced_none_lawful b hpos]
    rw [selectorChange_eq pos ha]
    refine hwritten.of_vested ((handChange_vested _ b _).trans ((post_vested _ _).trans ?_))
    exact ite_vested (selectorToAuto_vested _ b) (selectorOffAuto_vested _ b pos)

/-- A record taken out of SHELVED (R167). -/
theorem modCond_unshelve_lawful (i : Source) (now : Nat) (hs : s.AuthorityLawful) :
    (s.modCond i (·.unshelve now)).AuthorityLawful := by
  refine hs.of_lapsed rfl fun ⟨hforced, hinhibit, hshelved⟩ => ⟨hforced, hinhibit, fun j => ?_⟩
  by_cases hj : j = i
  · subst hj; rw [cond_modCond_self]; exact unshelve_state _ _
  · rw [cond_modCond_ne _ _ hj]; exact hshelved j

theorem handSwitch_lawful (w : Switch) (v : Bool) (hs : s.AuthorityLawful) : (handSwitch w v s).AuthorityLawful := by
  cases w with
  | remotePermit => exact permitChange_lawful v hs
  | hf => exact hs.of_vested (report_vested s _ _ _)
  | lf | sp => exact hs
  | runFeedback b => exact hs.of_vested (feedbackChange_vested s b v)
  | overload b => exact hs.of_vested (ite_vested rfl (overloadTrip_vested s b))
  | sealLeak b => exact hs.of_vested (sealChange_vested s b v)
  | screenSelector x => exact hs.of_vested (screenSelectorChange_vested s x v)
  | topLimit x => exact hs.of_vested (ite_vested (topMade_vested s x) rfl)
  | homeLimit x => exact hs.of_vested (ite_vested (homeMade_vested s x) rfl)
  | rakeOverload x => exact hs.of_vested (ite_vested rfl (rakeTrip_vested s x))
  | starterReady | starterFault => exact hs.of_vested (judgeStarter_vested s)
  | mainsPresent => exact hs.of_vested (mainsChange_vested s v)
  | generatorRunning => exact hs.of_vested (generatorChange_vested s v)
  | accept => exact hs.of_vested (ite_vested (acknowledgeAll_vested s) rfl)

theorem settle_authorityLawful (hs : s.AuthorityLawful) : (settle s).AuthorityLawful := hs.of_vested (settle_vested s)

theorem filterExpires_lawful (i : Input) (hs : s.AuthorityLawful) : (filterExpires i s).AuthorityLawful := by
  unfold filterExpires
  split
  · split
    · exact hs
    · refine settle_authorityLawful (handSwitch_lawful _ _ ?_)
      exact hs
  · split
    · exact hs
    · refine settle_authorityLawful (selectorChange_lawful _ _ ?_)
      exact hs

end

/-! ## A restart (R68, R124, R172, R195) -/

theorem bayRestarted_forced (cold : Bool) (s t : State) (b : Bay) : (bayRestarted cold s t b).forced = .none := by
  unfold bayRestarted; dsimp only; repeat' split
  all_goals rfl

theorem atRest_inhibit (s : State) (x : Screen) (r : ScreenRec) : (atRest s x r).inhibit = r.inhibit := by
  unfold atRest; dsimp only; split <;> [exact begun_inhibit s x _; rfl]

theorem homed_inhibit (s : State) (x : Screen) (r : ScreenRec) : (homed s x r).inhibit = r.inhibit := by
  unfold homed
  split
  · rfl
  · split <;> [exact atRest_inhibit s x r; rfl]

theorem screenRestarted_inhibit (cold : Bool) (s t : State) (x : Screen) : (screenRestarted cold s t x).inhibit = false := by
  unfold screenRestarted
  dsimp only
  generalize decide (t.item 5 _ = 1) = inUse
  split
  · rfl
  · split
    · rfl
    · split <;> [rfl; exact homed_inhibit t x _]

/-- A restart takes every record out of SHELVED before the owners report (R172). -/
theorem condRestarted_isShelved (cold : Bool) (s t : State) (i : Source) : (condRestarted cold s t i).isShelved = false := by
  unfold condRestarted CondRec.isShelved
  dsimp only
  split
  · rfl
  · split
    · dsimp only; split <;> rfl
    · exact beq_eq_false_iff_ne.2 ‹_›

theorem restart_lapsed (cause : RestartCause) (s : State) : Lapsed (restart cause s) := by
  refine ⟨fun b => ?_, fun x => ?_, fun i => beq_eq_false_iff_ne.1 ?_⟩
  · rw [restart_bay]; exact bayRestarted_forced _ _ _ b
  · rw [restart_screen]; exact screenRestarted_inhibit _ _ _ x
  · obtain ⟨hlevel, hrestart, hdefaulted⟩ := restart_conditions cause s
    have hbefore := condRestarted_isShelved (cause == .cold) s (restart cause s)
    show ((restart cause s).cond i).isShelved = false
    by_cases h : i = .restart
    · rw [h, hrestart, takeReport_isShelved, takeReport_isShelved, hbefore]
    · by_cases h' : i = .settingsDefaulted
      · rw [h', hdefaulted]
        split
        · exact hbefore _
        · rw [takeReport_isShelved, takeReport_isShelved, hbefore]
      · rw [hlevel i h h', takeReport_isShelved, hbefore]

theorem restart_authorityLawful (cause : RestartCause) {s : State} (hs : s.AuthorityLawful) :
    (restart cause s).AuthorityLawful := by
  obtain ⟨-, -, -, hmost, hbarred⟩ := (authorityLawful_iff s).1 hs
  refine ⟨fun _ => restart_lapsed cause s, ?_⟩
  show (restart cause s).authority.Lawful
  rw [restart_authority_eq]
  refine ⟨nofun, nofun, ?_, ?_⟩ <;> dsimp only
  · split <;> [exact Nat.zero_le 3; (split <;> [exact Nat.le_refl 3; exact hmost])]
  · by_cases hc : cause = .cold
    · simp [hc]
    · by_cases hb : s.authority.state = .barred
      · simp [hc, hb]
      · simpa [hc, hb] using fun h => hb (hbarred.1 h)

/-! ## The owners of the requests (R180, R190) -/

/-- An owner whose answer leaves authority as it stands. -/
def LeavesAuthority (act : State → Answer) : Prop := ∀ s, (act s).state.authority = s.authority

theorem LeavesPlant.authority {act : State → Answer} (h : LeavesPlant act) : LeavesAuthority act :=
  fun s => congrArg Plant.authority (h s)

theorem restartRequest_leavesAuthority : LeavesAuthority restartRequest := by
  intro s; unfold restartRequest; split <;> rfl

theorem commitSettings_leavesAuthority : LeavesAuthority commitSettings := by
  intro s; unfold commitSettings; split <;> rfl

theorem clearChannel_leavesAuthority (i : Nat) : LeavesAuthority (clearChannel i) := by
  intro s; unfold clearChannel; split <;> [rfl; (split <;> rfl)]

theorem writeEffects_authority (table item : Nat) (s : State) : (writeEffects table item s).authority = s.authority := by
  unfold writeEffects
  split
  · split <;> rfl
  · split <;> [exact congrArg Vested.authority (limitWritten_vested s); rfl]

theorem writeSetting_leavesAuthority (table item : Nat) (value : Int) : LeavesAuthority (writeSetting table item value) := by
  intro s
  unfold writeSetting writeItem
  split
  · rfl
  · split
    · rfl
    · split
      · rfl
      · dsimp only
        split <;> [exact writeEffects_authority _ _ _; rfl]

/-- A privileged request reaches its owner only while authority is GRANTED; otherwise nothing moves, or there is a lapse. -/
theorem privileged_authorityLawful {ans : Nat} {act : State → Answer} (hact : LeavesAuthority act) {s : State}
    (hs : s.AuthorityLawful) : (privileged ans act s).state.AuthorityLawful := by
  unfold privileged
  split
  · exact hs
  · exact hs
  · rename_i hg
    split
    · exact (grantAuthority_lawful hs (by rw [hg]; decide)).of_granted rfl (hact _)
    · exact lapse_countFailure_lawful s
  · exact hs

theorem openAuthority_authorityLawful {s : State} (hs : s.AuthorityLawful) : (openAuthority s).state.AuthorityLawful := by
  unfold openAuthority
  split
  · split
    · exact challenge_lawful hs (by simp [*]) (by simp [*])
    · exact challenge_lawful hs (by simp [*]) (by simp [*])
    all_goals exact hs
  · exact hs

theorem answerChallenge_authorityLawful (value : Nat) {s : State} (hs : s.AuthorityLawful) :
    (answerChallenge value s).state.AuthorityLawful := by
  unfold answerChallenge
  split
  · exact hs
  · split <;> [exact grantAnew_lawful s; exact countFailure_lawful hs (by simp [*])]
  · split <;> [exact grantAuthority_lawful hs (by simp [*]); exact lapse_countFailure_lawful s]
  · exact hs

theorem releaseAuthority_authorityLawful {s : State} (hs : s.AuthorityLawful) :
    (releaseAuthority s).state.AuthorityLawful := by
  unfold releaseAuthority
  split
  · exact hs
  · exact dropAuthority_lawful hs ‹_›
  · exact lapse_dropAuthority_lawful hs ‹_›
  · exact hs

/-- An owner that needs no authority leaves what stands under it. -/
def LeavesVested (act : State → Answer) : Prop := ∀ s, (act s).state.vested = s.vested

theorem readRecords_leavesVested (size : Nat) (record : State → Nat → List Byte) (start count : Nat) :
    LeavesVested fun s => readRecords size (record s) start count s := by
  intro s; unfold readRecords; dsimp only
  split <;> [rfl; (split <;> rfl)]

theorem readSettings_leavesVested (table start count : Nat) : LeavesVested (readSettings table start count) := by
  intro s; unfold readSettings
  split
  · rfl
  · exact readRecords_leavesVested _ (fun s i => signed (s.item table i)) start count s

theorem ackCondition_leavesVested (i n : Nat) : LeavesVested (ackCondition i n) := by
  intro s; unfold ackCondition
  split <;> [rfl; (split <;> [rfl; exact modCond_vested s _ (acknowledge_isShelved _)])]

theorem screenRake_leavesVested (x : Nat) : LeavesVested (screenRake x) := by
  intro s; unfold screenRake
  split <;> [rfl; (split <;> [rfl; exact trigger_vested s _])]

theorem retireEpisode_leavesVested (i n : Nat) : LeavesVested (retireEpisode i n) := by
  intro s; unfold retireEpisode
  split <;> [rfl; (split <;> [rfl; (split <;> [rfl; exact report_vested _ _ _ _])])]

theorem retireAccumulator_leavesVested (n : Nat) : LeavesVested (retireAccumulator n) := by
  intro s; unfold retireAccumulator
  split <;> [rfl; (split <;> rfl)]

/-- Every owner's answer keeps the law. -/
theorem ownerAnswer_authorityLawful (i : Instr) (s : State) (hs : s.AuthorityLawful) :
    (ownerAnswer i s).state.AuthorityLawful := by
  have leaves {act : State → Answer} (h : LeavesVested act) : (act s).state.AuthorityLawful := hs.of_vested (h s)
  have privileged {a : Nat} {act : State → Answer} (h : LeavesAuthority act) :
      (privileged a act s).state.AuthorityLawful := privileged_authorityLawful h hs
  cases i with
  | readChannels st c => exact leaves (readRecords_leavesVested 4 channelChars st c)
  | readConditions st c => exact leaves (readRecords_leavesVested 25 conditionChars st c)
  | readPumps st c => exact leaves (readRecords_leavesVested 4 pumpChars st c)
  | readScreens st c => exact leaves (readRecords_leavesVested 2 screenChars st c)
  | readEpisodes st c => exact leaves (readRecords_leavesVested 16 episodeChars st c)
  | readSettings t st c => exact leaves (readSettings_leavesVested t st c)
  | ackCondition i n => exact leaves (ackCondition_leavesVested i n)
  | ackAll => exact hs.of_vested (acknowledgeAll_vested s)
  | screenRake x => exact leaves (screenRake_leavesVested x)
  | retireEpisode i n => exact leaves (retireEpisode_leavesVested i n)
  | retireAccumulator n => exact leaves (retireAccumulator_leavesVested n)
  | openAuthority => exact openAuthority_authorityLawful hs
  | answer v => exact answerChallenge_authorityLawful v hs
  | releaseAuthority => exact releaseAuthority_authorityLawful hs
  | shelve a i m => exact privileged (shelve_leavesPlant i m).authority
  | unshelve a i => exact privileged (unshelve_leavesPlant i).authority
  | pumpService a b v => exact privileged (pumpService_leavesPlant b v).authority
  | pumpForce a b m => exact privileged (pumpForce_leavesPlant b m).authority
  | pumpReset a b => exact privileged (pumpReset_leavesPlant b).authority
  | screenInhibit a x v => exact privileged (screenInhibit_leavesPlant x v).authority
  | screenReset a x => exact privileged (screenReset_leavesPlant x).authority
  | restart a => exact privileged restartRequest_leavesAuthority
  | writeSetting a t i v => exact privileged (writeSetting_leavesAuthority t i v)
  | commitSettings a => exact privileged commitSettings_leavesAuthority
  | clearChannel a i => exact privileged (clearChannel_leavesAuthority i)
  | _ => exact hs

end Sys2Proof.Machine
end

section
/-! PROOFS. The law of authority over a step (R187, R191, R193). -/

namespace Sys2Proof.Machine

theorem authorityLawful_keptOnLine : KeptOnLine State.AuthorityLawful where
  line _ _ hs := hs
  linkLost s a hs := hs.of_vested (report_vested s _ a _)
  clock _ _ hs := hs
  settle _ hs := settle_authorityLawful hs
  restart _ hs := restart_authorityLawful _ hs
  owner := ownerAnswer_authorityLawful

/-- A millisecond moves the monitor's timers and starts or stops none. -/
theorem passMillisecond_authorityLawful {s : State} (hs : s.AuthorityLawful) : (passMillisecond s).AuthorityLawful := by
  obtain ⟨hlapsed, hanswer, hsupervision, hcount⟩ := (authorityLawful_iff s).1 hs
  refine ⟨fun hne => ?_, fun ht => hanswer ?_, fun ht => hsupervision ?_, hcount⟩
  · obtain ⟨hforced, hinhibit, hshelved⟩ := hlapsed hne
    refine ⟨fun b => ?_, fun x => ?_, fun i => ?_⟩
    · rw [passMillisecond_pump]; exact hforced b
    · rw [passMillisecond_screen]; exact hinhibit x
    · have hcond : (passMillisecond s).cond i = passShelf (s.cond i) :=
        Vector.getElem_map (xs := s.conditions.recs) _ i.index.isLt
      rw [hcond]; exact hshelved i
  · exact Option.isSome_map.symm.trans ht
  · exact Option.isSome_map.symm.trans ht

section
variable {s : State} (hs : s.AuthorityLawful)
include hs

/-- An effect that leaves what stands under authority, and its notices taken. -/
theorem settled_authorityLawful {u : State} (h : u.vested = s.vested) : (settle u).AuthorityLawful :=
  settle_authorityLawful (hs.of_vested h)

/-- A command that is no request keeps the law of authority. -/
theorem event_authorityLawful {c : Instr} (hc : c.request = none) {t : State} (h : exec c s = .next t) :
    t.AuthorityLawful := by
  have acts {f : State → State} (h : powered f s = .next t) (hf : (f s).AuthorityLawful) : t.AuthorityLawful :=
    powered_keeps (fun _ => hf) hs h
  have ite {p : Prop} [Decidable p] {u v : State} (hu : p → u.AuthorityLawful) (hv : v.AuthorityLawful) :
      (if p then u else v).AuthorityLawful := by
    split
    · exact hu ‹_›
    · exact hv
  have expiry {p : Prop} [Decidable p] {u : State} (hu : u.vested = s.vested) :
      (if p then settle u else s).AuthorityLawful := ite (fun _ => settled_authorityLawful hs hu) hs
  have hloss := hs.of_vested (loseSupply_vested s)
  cases c with
  | coldStart => cases h; exact restart_authorityLawful _ hloss
  | warmSupplyRestart => cases h; exact restart_authorityLawful _ hloss
  | supplyLoss => cases h; exact hloss
  | rawContactChange c v => cases c <;> (cases h; exact hs)
  | sampleArrival c i => exact acts h (ite (fun _ => hs.of_vested (sampleArrives_vested s c i)) hs)
  | filterTimerExpiry i => exact acts h (filterExpires_lawful i hs)
  | tipArrival =>
    unfold exec execTipArrival at h
    exact acts h (ite (fun _ => hs) (settled_authorityLawful hs (countTip_vested s)))
  | bounceTimerExpiry =>
    unfold exec execBounceTimerExpiry at h
    exact acts h hs
  | binClose => exact acts h (expiry (closeBin_vested s))
  | dryTimerExpiry =>
    unfold exec execDryTimerExpiry at h
    exact acts h (ite (fun _ => hs) (ite (fun _ => hs) (settled_authorityLawful hs (dryOut_vested s))))
  | rosterSecondTimerExpiry => exact acts h (expiry (rosterSecond_vested s))
  | rampTimerExpiry => exact acts h (expiry (rampExpires_vested s))
  | gapTimerExpiry => exact acts h (expiry (gapExpires_vested s))
  | feedbackLossTimerExpiry b => exact acts h (expiry (lockOut_vested s b _))
  | stopConfirmTimerExpiry b =>
    exact acts h (ite (fun _ => ite (fun _ => settled_authorityLawful hs (lockOut_vested s b _))
      (settled_authorityLawful hs (stopConfirmed_vested s b))) hs)
  | minRunTimerExpiry b => exact acts h (expiry (minRunServed_vested s b))
  | minRestTimerExpiry b => exact acts h (expiry (minRestServed_vested s b))
  | restartHoldExpiry => exact acts h (expiry (holdEnds_vested s))
  | changeoverTimerExpiry b => exact acts h (expiry (post_vested s _))
  | restoreTimerExpiry => exact acts h (expiry (restoreExpired_vested s))
  | intervalTimerExpiry x => exact acts h (expiry (intervalExpired_vested s x))
  | strokeTimerExpiry x => exact acts h (expiry (strokeExpired_vested s x))
  | clearTimerExpiry x => exact acts h (expiry (clearExpired_vested s x))
  | integrationTimerExpiry => exact acts h (expiry (integrate_vested s))
  | qualifyTimerExpiry => exact acts h (expiry (openEpisode_vested s))
  | mergeTimerExpiry => exact acts h (expiry (settleEpisode_vested s))
  | shelveTimerExpiry i => exact acts h (ite (fun _ => modCond_unshelve_lawful i _ hs) hs)
  | receiveCharacter c => exact acts h (authorityLawful_keptOnLine.receive c hs)
  | lineBreak => exact acts h (authorityLawful_keptOnLine.lineError hs)
  | gapLimitExpiry => exact acts h (ite (fun _ => hs) hs)
  | turnaroundTimerExpiry => exact acts h (ite (fun _ => hs) hs)
  | replySent => exact acts h (ite (fun _ => authorityLawful_keptOnLine.replyEnds hs) hs)
  | linkTimerExpiry => exact acts h (ite (fun _ => hs.of_vested (report_vested _ _ _ _)) hs)
  | answerWindowExpiry =>
    obtain ⟨-, hanswer, -⟩ := (authorityLawful_iff s).1 hs
    exact acts h (ite (fun ht => countFailure_lawful hs (by rw [hanswer ht]; decide)) hs)
  | supervisionTimerExpiry =>
    exact acts h (ite (fun _ => settle_authorityLawful (lapse_countFailure_lawful s)) hs)
  | commitCompletion => exact acts h (ite (fun _ => hs) hs)
  | clockSecondExpiry => exact acts h (ite (fun _ => hs) hs)
  | _ => simp [Instr.request] at hc

end

end Sys2Proof.Machine

open Sys2Proof.Machine

/-- Settles O54: what forces, inhibits and shelves is reached under GRANTED alone, every departure from GRANTED is a lapse or a
restart, and all else leaves what stands under authority as it is. -/
theorem authorityLawIsKept : Obligations.AuthorityLawIsKept := by
  intro s t hs h
  unfold step at h
  split at h
  · exact powered_keeps passMillisecond_authorityLawful hs h
  · rename_i rest _
    have hs' : ({ s with pending := rest } : State).AuthorityLawful := hs
    exact authorityLawful_keptOnLine.exec (fun hc => event_authorityLawful hs' hc) hs' h
end

section
/-! PROOFS. Loss of supply (R199, 00_scope.md 3.7), commits (R198) and the station clock (R201, R202). -/

namespace Sys2Proof.Machine

open Sys2Proof.Spec

section
variable {s : State}

/-! ## Loss of supply (R199) -/

/-- A commit in progress is cut short by the loss (R199, log 7). -/
theorem loseSupply_cuts (h : s.power = .on) (hc : s.store.commit.isSome = true) :
    loseSupply s = { s with
      power := .halted
      store := { s.store with
        stored := s.store.stored.cut s.freeCount s.store.working, marker := false, commit := none }
      freeCount := s.freeCount + 1 } := by
  obtain ⟨n, hn⟩ := Option.isSome_iff_exists.1 hc
  rw [loseSupply, h]
  dsimp only
  rw [cutCommit, hn]

theorem exec_supplyLoss (s : State) : exec .supplyLoss s = .next (loseSupply s) := rfl

/-! ## A part without supply (00_scope.md 3.7, log 4) -/

/-- A halted part takes no request: each is a frame over the line, which is behind the guard. -/
theorem exec_request_halted {c : Instr} {r : Nat × List Byte} (hr : c.request = some r) (h : s.power = .halted) :
    exec c s = .next s := by
  by_cases hb : ∃ n, c = .setClock true n
  · obtain ⟨n, rfl⟩ := hb
    exact powered_halted s _ h
  · rw [exec_request s hr fun n e => hb ⟨n, e⟩, addressed]
    exact powered_halted s _ h

/-- A halted part takes no event but a restart and a change of a raw contact: a second loss leaves it halted, every other event
is behind the guard. -/
theorem exec_event_halted {c : Instr} (hr : c.request = none) (h : s.power = .halted) (hcold : c ≠ .coldStart)
    (hwarm : c ≠ .warmSupplyRestart) (hraw : ∀ k v, c ≠ .rawContactChange k v) : exec c s = .next s := by
  cases c with
  | coldStart => exact absurd rfl hcold
  | warmSupplyRestart => exact absurd rfl hwarm
  | rawContactChange k v => exact absurd rfl (hraw k v)
  | supplyLoss => rw [exec_supplyLoss, loseSupply_halted h]
  | sampleArrival | filterTimerExpiry | binClose | rosterSecondTimerExpiry | rampTimerExpiry | gapTimerExpiry
  | feedbackLossTimerExpiry | stopConfirmTimerExpiry | minRunTimerExpiry | minRestTimerExpiry | restartHoldExpiry
  | changeoverTimerExpiry | restoreTimerExpiry | intervalTimerExpiry | strokeTimerExpiry | clearTimerExpiry
  | integrationTimerExpiry | qualifyTimerExpiry | mergeTimerExpiry | shelveTimerExpiry | receiveCharacter
  | lineBreak | gapLimitExpiry | turnaroundTimerExpiry | replySent | linkTimerExpiry | answerWindowExpiry
  | supervisionTimerExpiry | commitCompletion | clockSecondExpiry => exact powered_halted s _ h
  | tipArrival => exact (powered_halted s _ h : execTipArrival s = _)
  | bounceTimerExpiry => exact (powered_halted s _ h : execBounceTimerExpiry s = _)
  | dryTimerExpiry => exact (powered_halted s _ h : execDryTimerExpiry s = _)
  | _ => simp [Instr.request] at hr

/-! ## Commits (R198) -/

theorem commitSettings_busy (h : s.store.commit.isSome = true) : commitSettings s = .refuse s .busy := if_pos h

theorem commitSettings_begins (h : s.store.commit = none) :
    commitSettings s = .done { s with store := { s.store with marker := false, commit := some 2000 } } :=
  if_neg (by rw [h]; decide)

/-! ## The station clock (R201, R202) -/

/-- A time that the clock can hold is set as it is (R201). -/
theorem setClock_inRange {time : Nat} (h : time < 4294967296) (s : State) :
    setClock time s = { s with clock := { s.clock with time := time, isSet := true } } := by
  rw [setClock, show time % timeRange = time from Nat.mod_eq_of_lt h]

/-- The broadcast address begins a broadcast frame at a station whose own address is another (R175). -/
theorem addressCharacter_broadcast (hr : s.line.receiver = .waiting) (ha : s.line.address ≠ 0) :
    addressCharacter 0 s = { s with line := { s.line with
      receiver := .receiving, frame := some ⟨true, []⟩, gapTimer := some (s.itemNat 0 3) } } := by
  rw [addressCharacter_waiting 0 hr, listening, if_neg ha.symm, if_pos rfl]

/-- A broadcast SET_CLOCK that is heard sets the clock, and the receiver waits again (R177, R180, R202). -/
theorem broadcastClock_waiting {time : Nat} (ht : time < 4294967296) (hr : s.line.receiver = .waiting)
    (ha : s.line.address ≠ 0) : broadcastClock time s = { s with
      clock := { s.clock with time := time, isSet := true }
      line := { s.line with frame := none, gapTimer := none } } := by
  have hends : broadcastClock time s = endBroadcast (setClock time (addressCharacter 0 s)) :=
    if_pos (by rw [addressCharacter_broadcast hr ha])
  rw [hends, setClock_inRange ht, addressCharacter_broadcast hr ha, endBroadcast, State.setLine, ← hr]

end

end Sys2Proof.Machine

open Sys2Proof Sys2Proof.Machine

/-- Settles O59: the loss by the part's supply and the commit in progress; a halted part by what is a request, all over the
line, and what is an event. -/
theorem supplyLossHaltsThePart : Obligations.SupplyLossHaltsThePart := by
  refine ⟨fun s => ⟨fun h => ?_, fun h hc => ?_, fun h hc => ⟨loseSupply s, rfl, ?_⟩⟩, fun c s h hcold hwarm hraw => ?_⟩
  · rw [exec_supplyLoss, loseSupply_halted h]
  · rw [exec_supplyLoss, loseSupply_idle h hc]
  · rw [loseSupply_cuts h hc]
    exact ⟨rfl, rfl, rfl, rfl, rfl⟩
  · cases hr : c.request with
    | none => exact exec_event_halted hr h hcold hwarm hraw
    | some r => exact exec_request_halted hr h

/-- Settles O57, by COMMIT_SETTINGS's two answers and the completion of a commit in progress. -/
theorem commitStoresTheWorkingCopy : Obligations.CommitStoresTheWorkingCopy := by
  intro ans s
  refine ⟨fun h hc => privileged_refuses h (commitSettings_busy hc), fun h hc => ?_, fun hp hc => ?_⟩
  · exact privileged_reply h (commitSettings_begins hc) (cleared_inbox (s := s) h)
  · exact powered_timer (·.store.commit)
      (fun s => { s with store := { s.store with stored := s.store.working, marker := true, commit := none } }) hp hc

/-- Settles O58, by the clock's second and the two forms of SET_CLOCK. -/
theorem clockCountsAndIsSet : Obligations.ClockCountsAndIsSet := by
  intro time s ht
  refine ⟨fun hp hsec => ?_, fun h => ?_, fun ⟨⟨hp, _⟩, hr⟩ ha => ?_⟩
  · exact powered_timer (·.clock.secondTimer)
      (fun s => { s with clock := { s.clock with time := (s.clock.time + 1) % 4294967296, secondTimer := some 1000 } }) hp hsec
  · have hset : setClockRequest time s.heard = .done _ := congrArg Answer.done (setClock_inRange ht s.heard)
    exact addressed_reply h hset h.inbox_eq
  · exact (powered_on s _ hp).trans (congrArg _ (broadcastClock_waiting ht hr ha))
end

section
/-! PROOFS. A step: the command at the front of the queue, or a millisecond (00_scope.md 1 and 3.3, R199, log 2). -/

namespace Sys2Proof.Machine

section
variable {s : State}

theorem step_front {c : Instr} {rest : List Instr} (h : s.pending = c :: rest) :
    step s = exec c { s with pending := rest } := by
  rw [step, h]

theorem step_idle (h : s.pending = []) : step s = idle s := by
  rw [step, h]

theorem idle_on (h : s.power = .on) : idle s = .next (passMillisecond s) := powered_on _ _ h

theorem idle_halted (h : s.power = .halted) : idle s = .next s := powered_halted _ _ h

end

/-! ## What a millisecond makes of each input, channel, timer and record -/

/-- An input that stands alone has its timer passed as it is, an input of a bay or of a screen in its table. -/
theorem passContacts_get (k : Contacts) (w : Switch) : (passContacts k).get w = passFiltered (k.get w) := by
  cases w with
  | runFeedback b | overload b | sealLeak b => exact PerBay.get_map passFiltered _ b
  | screenSelector x | topLimit x | homeLimit x | rakeOverload x => exact PerScreen.get_map passFiltered _ x
  | _ => rfl

theorem passContacts_selector (k : Contacts) (b : Bay) :
    (passContacts k).selector.get b = passFiltered (k.selector.get b) := PerBay.get_map _ _ _

theorem passMillisecond_sampleTimer (s : State) (c : Channel) :
    (passMillisecond s).channels.sampleTimers.get c = passTimer (s.channels.sampleTimers.get c) := PerChannel.get_map _ _ _

theorem passMillisecond_changeoverTimer (s : State) (b : Bay) :
    (passMillisecond s).duty.changeoverTimer.get b = passTimer (s.duty.changeoverTimer.get b) := PerBay.get_map _ _ _

theorem passMillisecond_cond (s : State) (i : Source) : (passMillisecond s).cond i = passShelf (s.cond i) :=
  Vector.getElem_map (xs := s.conditions.recs) _ i.index.isLt

end Sys2Proof.Machine

open Sys2Proof.Machine

/-- Settles O1, by the queue that holds a command. -/
theorem stepRunsTheFrontCommand : Obligations.StepRunsTheFrontCommand :=
  fun _ _ _ h => step_front h

/-- Settles O2: a halted part stays; with supply the next state is a millisecond later, whose tables are read input by input,
bay by bay, channel by channel, screen by screen and source by source, and whose single timers stand in it as they are. -/
theorem idleStepPassesOneMillisecond : Obligations.IdleStepPassesOneMillisecond := by
  intro s hq
  refine ⟨fun hp => (step_idle hq).trans (idle_halted hp), fun hp => ?_⟩
  have hstep : step s = .next (passMillisecond s) := (step_idle hq).trans (idle_on hp)
  exact ⟨passMillisecond s, hstep, rfl, rfl, rfl, rfl, hq, rfl, rfl, rfl, rfl, passContacts_get s.contacts,
    passContacts_selector s.contacts, fun c => ⟨rfl, passMillisecond_sampleTimer s c⟩, rfl, passMillisecond_pump s, rfl,
    passMillisecond_changeoverTimer s, rfl, rfl, rfl, passMillisecond_screen s, rfl, rfl, rfl, passMillisecond_cond s, rfl,
    rfl, rfl⟩
end
